-- ==== Sys2Proof/Word.lean ====
section
/-! DEFINITION. The word type of the serial line. Everything the manual counts, measures or limits
is a `Nat` (or an `Int` where it is signed); only line bytes, scan frames and input masks are bits. -/

namespace Sys2Proof

/-- One character of the serial line (chapter 11: 8 data bits). -/
abbrev Byte := BitVec 8

end Sys2Proof
end

