-- ==== Sys2Proof/Config.lean ====
section
/-! DEFINITION. What the manual leaves open and the model leaves free. -/

namespace Sys2Proof

/-- FREE VALUE (log entry 2). The order in which blocks take events that reach them together, where
the manual says "either may be first" (R149, R157, R185, R209, R132/R133, R164) and names no order.
It is applied to the counter `State.freeCount`; it has no body, so no proof can lean on its values. -/
opaque Config.freeOrder : Nat → Nat

end Sys2Proof
end

