-- ==== Sys2Proof/Syntax.lean ====
section
/-! DEFINITION. The commands of the part: one constructor for each row of spec/opcode_table.json, in
the table's order. A request carries its TAG and its raw BODY bytes (R203), so that BAD_LENGTH and the
reserved values of its fields are part of the model. The other rows are events of the line, the rig
and the part's own timers. -/

namespace Sys2Proof

/-- The two booms (chapter "Boom and shared resources"). -/
inductive Boom where
  | A | B
deriving DecidableEq, Repr

/-- The strap inputs, sampled at power-on (R212). -/
structure Straps where
  boomB      : Bool
  magazine24 : Bool
  linkRate   : Bool
deriving DecidableEq, Repr

/-- The levels of the direct inputs, each `true` for its active level (R184). -/
structure Pins where
  eStop     : Bool
  methane   : Bool
  indexHome : Bool
  indexStep : Bool
  resetLine : Bool
deriving DecidableEq, Repr

/-- The commands: the rows of spec/opcode_table.json. -/
inductive Instr where
  -- requests taken by the Link Port (R205), TAG and BODY
  | ping (tag : Byte) (body : List Byte)
  | getStatus (tag : Byte) (body : List Byte)
  | setParam (tag : Byte) (body : List Byte)
  | getParam (tag : Byte) (body : List Byte)
  | restart (tag : Byte) (body : List Byte)
  | startHole (tag : Byte) (body : List Byte)
  | decide (tag : Byte) (body : List Byte)
  | pause (tag : Byte) (body : List Byte)
  | resume (tag : Byte) (body : List Byte)
  | abortHole (tag : Byte) (body : List Byte)
  | clearStop (tag : Byte) (body : List Byte)
  | jog (tag : Byte) (body : List Byte)
  | endManual (tag : Byte) (body : List Byte)
  | tram (tag : Byte) (body : List Byte)
  | setBands (tag : Byte) (body : List Byte)
  | getBands (tag : Byte) (body : List Byte)
  | loadSlots (tag : Byte) (body : List Byte)
  | getMagazine (tag : Byte) (body : List Byte)
  | clearMagazine (tag : Byte) (body : List Byte)
  | setChannel (tag : Byte) (body : List Byte)
  | setRoute (tag : Byte) (body : List Byte)
  | clearChannel (tag : Byte) (body : List Byte)
  | getChannels (tag : Byte) (body : List Byte)
  | getFlow (tag : Byte) (body : List Byte)
  | fetchHole (tag : Byte) (body : List Byte)
  | releaseHole (tag : Byte) (body : List Byte)
  | listHoles (tag : Byte) (body : List Byte)
  | bitFitted (tag : Byte) (body : List Byte)
  | replaceBit (tag : Byte) (body : List Byte)
  | getBits (tag : Byte) (body : List Byte)
  | unknownKindRequest (kind tag : Byte) (body : List Byte)
  -- the line
  /-- The bytes received up to and with a frame's last check byte (R204). -/
  | frameArrival (bytes : List Byte)
  | frameByteTimeout
  | frameTransmitStart
  | presenceTimeout
  -- power and resets
  /-- Power-on, with the strap levels it samples and the direct input levels it finds (R212). -/
  | powerOn (straps : Straps) (pins : Pins)
  | resetReleased
  | resetAsserted
  | restartReplySent
  | startUpEnd
  -- the rig
  /-- One 80-bit head frame, bit 79 the first clocked (R174). -/
  | scanFrameArrival (b : Boom) (frame : BitVec 80)
  /-- A qualified change of INDEX_STEP to active (`true`, the step event) or to inactive (R184). -/
  | indexStep (active : Bool)
  | stepTimeout
  | readyWaitTimeout
  | passTimeout
  | rotationPulse (b : Boom)
  | rotationOverflow (b : Boom)
  | eStopAssert
  | eStopInputMade
  | eStopRelease
  | methaneActive
  | methaneInputInactive
  | methaneClear
  | jackTimeout (b : Boom)
  | contactTimeout (b : Boom)
  | retractTimeout (b : Boom)
  | pushTimeout (b : Boom)
  | mixMaxTime (b : Boom)
  | torqueTimeout (b : Boom)
  | releaseTimeout (b : Boom)
  | gelHoldExpiry (b : Boom)
  | flushLossTimeout (b : Boom)
  /-- The twenty coil currents in mA, channel 0 first (R164). -/
  | valveCurrentReading (currents : List Nat)
  /-- A qualified change of INDEX_HOME to active (`true`) or to inactive (R184). -/
  | indexHomeChange (active : Bool)
  /-- A LEN byte above 240 after a SYNC (R204). -/
  | lenAbove240Discard (len : Byte)
  | powerLoss
deriving DecidableEq, Repr

end Sys2Proof
end

