-- ==== Sys2Proof/Decode.lean ====
section
/-! DEFINITION. What a taken frame spells: the request of its KIND (the catalogue of section 11.3). The
command table gives its rows no bits, so no word spells a command. -/

namespace Sys2Proof

/-- The request that a frame with this KIND, TAG and BODY is; a KIND that is not in the catalogue is an
unknown one (R205). -/
def requestOf (kind tag : Byte) (body : List Byte) : Instr :=
  if kind = 0x01 then .ping tag body
  else if kind = 0x02 then .getStatus tag body
  else if kind = 0x03 then .setParam tag body
  else if kind = 0x04 then .getParam tag body
  else if kind = 0x05 then .restart tag body
  else if kind = 0x10 then .startHole tag body
  else if kind = 0x11 then .decide tag body
  else if kind = 0x12 then .pause tag body
  else if kind = 0x13 then .resume tag body
  else if kind = 0x14 then .abortHole tag body
  else if kind = 0x15 then .clearStop tag body
  else if kind = 0x18 then .jog tag body
  else if kind = 0x19 then .endManual tag body
  else if kind = 0x1A then .tram tag body
  else if kind = 0x20 then .setBands tag body
  else if kind = 0x21 then .getBands tag body
  else if kind = 0x28 then .loadSlots tag body
  else if kind = 0x29 then .getMagazine tag body
  else if kind = 0x2A then .clearMagazine tag body
  else if kind = 0x30 then .setChannel tag body
  else if kind = 0x31 then .setRoute tag body
  else if kind = 0x32 then .clearChannel tag body
  else if kind = 0x33 then .getChannels tag body
  else if kind = 0x34 then .getFlow tag body
  else if kind = 0x38 then .fetchHole tag body
  else if kind = 0x39 then .releaseHole tag body
  else if kind = 0x3A then .listHoles tag body
  else if kind = 0x3B then .bitFitted tag body
  else if kind = 0x3C then .replaceBit tag body
  else if kind = 0x3D then .getBits tag body
  else .unknownKindRequest kind tag body

/-- No row of the command table has bits, so no word spells a command. -/
def decodeTableWord (_nbits _w : Nat) : Option Instr := none

end Sys2Proof
end

