-- ==== Sys2Proof/Machine/Types.lean ====
section
/-! DEFINITION. The pieces of state of the thirteen blocks, as the manual names them. Every enumeration
lists its members in the order of the manual's table or rule, which is also its code on the line (R203). -/

namespace Sys2Proof.Machine

/-- One value for each boom. -/
structure PerBoom (α : Type) where
  a : α
  b : α
deriving DecidableEq, Repr

/-- The member of boom `x`. -/
def PerBoom.get {α : Type} (p : PerBoom α) : Boom → α
  | .A => p.a
  | .B => p.b

/-- Replaces the member of boom `x`. -/
def PerBoom.set {α : Type} (p : PerBoom α) (x : Boom) (v : α) : PerBoom α :=
  match x with
  | .A => { p with a := v }
  | .B => { p with b := v }

/-- A timer: stopped or running, with the time counted in ticks of 25 µs (log entry 3). -/
structure Timer where
  running : Bool
  ticks   : Nat
deriving DecidableEq, Repr

/-! ### Functions (chapter "Conventions", Functions) -/

/-- What a function of a boom does. -/
inductive FnKind where
  | jackUp | jackDown | feedUp | feedDown | rotFwd | rotRev | flush
deriving DecidableEq, Repr

/-- The sixteen functions. -/
inductive Fn where
  | boom (b : Boom) (k : FnKind)
  | index
  | tram
deriving DecidableEq, Repr

/-! ### The Boom Sequencer (R1) -/

/-- The eighteen states of section 1.1. -/
inductive Phase where
  | idle | manual | jackSet | collaring | drilling | retracting | awaitDecision | resinInsert
  | awaitBolt | boltPush | mixWait | mixing | gelHold | torquing | releasing | paused | halted
  | stopped
deriving DecidableEq, Repr

/-- The pause causes. -/
inductive Cause where
  | operator | silence | gas | scan | flush
deriving DecidableEq, Repr

/-- A set of pause causes, each held at most once. -/
structure CauseSet where
  operator : Bool
  silence  : Bool
  gas      : Bool
  scan     : Bool
  flush    : Bool
deriving DecidableEq, Repr

/-- The halt reasons of R26. -/
inductive HaltReason where
  | jackNotSet | noContact | encoderFault | drillStall | retractTimeout | burstFailed | pushTimeout
  | boltBlocked | mixShort | mixInterrupted | valveFault | releaseTimeout | estop
deriving DecidableEq, Repr

/-- The kind of close that RELEASING will give the record. -/
inductive Closing where
  | verdict | aborted | faulted
deriving DecidableEq, Repr

/-- The choices of a DECIDE (R12). -/
inductive Choice where
  | proceed | extraFast | redrill | abandon
deriving DecidableEq, Repr

/-- A set of offered choices. -/
structure ChoiceSet where
  proceed   : Bool
  extraFast : Bool
  redrill   : Bool
  abandon   : Bool
deriving DecidableEq, Repr

/-- The jog setpoints held for a boom (R32). -/
structure Jogs where
  jackUp   : Nat
  jackDown : Nat
  feedUp   : Nat
  feedDown : Nat
  rotFwd   : Nat
  rotRev   : Nat
  flush    : Bool
deriving DecidableEq, Repr

/-- A Boom Sequencer (R1), with the demands it puts itself (R7, R10, R16) and the mark that JACK_DOWN
has started in RELEASING (R16). -/
structure Sequencer where
  state           : Phase
  returnPhase     : Option Phase
  causes          : CauseSet
  deferred        : CauseSet
  deferredAbort   : Bool
  abortPending    : Bool
  haltReason      : Option HaltReason
  closing         : Option Closing
  choices         : ChoiceSet
  stoppedFrom     : Option Phase
  timer           : Timer
  holdComplete    : Bool
  hole            : Option Nat
  jogs            : Jogs
  jackUp          : Nat
  jackDown        : Nat
  feedDown        : Nat
  jackDownStarted : Bool
deriving DecidableEq, Repr

/-! ### The Strata Profiler (R37) -/

/-- The strength classes of R49, the weakest first. -/
inductive Cls where
  | void | soft | medium | hard | veryHard
deriving DecidableEq, Repr

/-- The Profiler's modes. -/
inductive ProfMode where
  | inactive | armed | running | ended
deriving DecidableEq, Repr

/-- The flags of a segment (R44). -/
structure SegFlags where
  collar      : Bool
  partialSeg  : Bool
  saturated   : Bool
  encoderJump : Bool
  stallRetry  : Bool
deriving DecidableEq, Repr

/-- The open segment (R44). -/
structure OpenSeg where
  top     : Nat
  sf      : Nat
  st      : Nat
  lseg    : Nat
  samples : Nat
  flags   : SegFlags
deriving DecidableEq, Repr

/-- An entry of the Segment Table (R50). -/
structure Segment where
  index   : Nat
  top     : Nat
  bottom  : Nat
  samples : Nat
  se      : Nat
  cls     : Cls
  flags   : SegFlags
deriving DecidableEq, Repr

/-- A layer of the Layer List (R60). -/
structure Layer where
  top    : Nat
  bottom : Nat
  cls    : Cls
  count  : Nat
  minSe  : Nat
  maxSe  : Nat
  meanSe : Nat
deriving DecidableEq, Repr

/-- A Strata Profiler (R37). Its Segment Table is the field of the boom's open Hole Record. `depth` is
the current depth of R61. -/
structure Profiler where
  mode      : ProfMode
  collarRef : Option Nat
  depth     : Nat
  maxDepth  : Nat
  nextTop   : Nat
  jumps     : Nat
  openSeg   : Option OpenSeg
deriving DecidableEq, Repr

/-! ### The Drill Governor (R62) and the band table (R81) -/

/-- The Governor's stages. -/
inductive GovStage where
  | off | approach | collar | climb | cut
deriving DecidableEq, Repr

/-- The drilling outcome (R69, R70). -/
inductive DrillOutcome where
  | planned | shortByPlan
deriving DecidableEq, Repr

/-- A Drill Governor (R62). `backingOff` is the retry state BACKING_OFF and `backoffTarget` its target;
`lastFeed` is the feed position of the last sample taken (R73). -/
structure Governor where
  stage         : GovStage
  cls           : Option Cls
  feedTarget    : Nat
  rpmTarget     : Nat
  thrustCap     : Nat
  band          : Option Nat
  feedUp        : Nat
  feedDown      : Nat
  rotFwd        : Nat
  flush         : Bool
  backingOff    : Bool
  backoffTarget : Nat
  approachStall : Bool
  flushTimer    : Timer
  outcome       : Option DrillOutcome
  lastFeed      : Nat
deriving DecidableEq, Repr

/-- The attribute of a band. -/
inductive BandAttr where
  | normal | caution | stop
deriving DecidableEq, Repr

/-- A band of a band table (section 3.7). -/
structure Band where
  top    : Nat
  bottom : Nat
  attr   : BandAttr
  feed   : Nat
  rpm    : Nat
  thrust : Nat
deriving DecidableEq, Repr

/-! ### The Setting Controller (R98) -/

/-- The Controller's stages. -/
inductive SetStage where
  | off | push | wait | mix | hold | torque
deriving DecidableEq, Repr

/-- The five verdicts, in the order of R203. -/
inductive Verdict where
  | ok | early | slip | stalled | timeout
deriving DecidableEq, Repr

/-- A Setting Controller (R98). Its reservation mark and amount are the Flow Arbiter's of R143, which
change at the same events and are stored once. -/
structure Setting where
  stage       : SetStage
  pushOrigin  : Option Nat
  pushAdvance : Nat
  mixPulses   : Nat
  stallSeen   : Bool
  gelTemp     : Int
  gelFactor   : Nat
  holdTime    : Nat
  gelTimer    : Timer
  turns       : Nat
  snug        : Option Nat
  angle       : Nat
  peak        : Nat
  verdict     : Option Verdict
  feedUp      : Nat
  rotFwd      : Nat
deriving DecidableEq, Repr

/-! ### The Cartridge Indexer (R122, R125, R126) -/

/-- The cartridge types. -/
inductive CartType where
  | fast | slow
deriving DecidableEq, Repr

/-- The state of a slot. -/
inductive SlotState where
  | empty | loaded | jammed
deriving DecidableEq, Repr

/-- A slot of the Magazine Table. -/
structure Slot where
  state : SlotState
  type  : Option CartType
  seq   : Option Nat
  fails : Nat
deriving DecidableEq, Repr

/-- A burst request (R126). -/
structure Burst where
  boom      : Boom
  hole      : Nat
  types     : List CartType
  progress  : Nat
  delivered : List (Nat × CartType)
deriving DecidableEq, Repr

/-- The Indexer's states. -/
inductive IdxState where
  | idle | positioning | awaitReady | ejecting | starved | fault
deriving DecidableEq, Repr

/-- The Indexer's fault causes. -/
inductive IdxFault where
  | stepTimeout | homeNotFound | homeMismatch | indexFailed
deriving DecidableEq, Repr

/-- The four ends of a burst (R137). -/
inductive BurstEnd where
  | done | readyTimeout | failed | stopped
deriving DecidableEq, Repr

/-- The Cartridge Indexer with its Magazine Table and Request Queue. -/
structure Indexer where
  slots      : List Slot
  seqCounter : Nat
  state      : IdxState
  position   : Option Nat
  selected   : Option Nat
  remaining  : Nat
  homing     : Bool
  homeCount  : Nat
  stopMark   : Bool
  stepTimer  : Timer
  readyTimer : Timer
  passTimer  : Timer
  fault      : Option IdxFault
  strayPass  : Nat
  demand     : Nat
  queue      : List Burst
deriving DecidableEq, Repr

/-! ### The Flow Arbiter (R143) -/

/-- The flow classes. -/
inductive FlowClass where
  | support | setting | work
deriving DecidableEq, Repr

/-- The cause that withholds a demand (R146). -/
inductive Withheld where
  | none | estop | failed | methane
deriving DecidableEq, Repr

/-- The record of one proportional function. -/
structure FlowRec where
  fn        : Fn
  asked     : Nat
  cls       : FlowClass
  effective : Nat
  cause     : Withheld
  grant     : Nat
  limited   : Bool
deriving DecidableEq, Repr

/-- The mark of a reservation. -/
inductive ResMark where
  | none | waiting | admitted
deriving DecidableEq, Repr

/-- A boom's reservation. -/
structure Reservation where
  mark   : ResMark
  amount : Nat
deriving DecidableEq, Repr

/-- The Flow Arbiter. The admitted sum is the total of the ADMITTED amounts of `res`; `unused` is the
remaining left by the last computation (R159). -/
structure Arbiter where
  flow    : List FlowRec
  failed  : List Fn
  estop   : Bool
  methane : Bool
  res     : PerBoom Reservation
  waiting : List Boom
  unused  : Nat
deriving DecidableEq, Repr

/-! ### The Valve Driver (R160, R167) -/

/-- The state of a channel. -/
inductive ChState where
  | ok | openCoil | short
deriving DecidableEq, Repr

/-- A channel: its six settings and its state. -/
structure Channel where
  dmin         : Nat
  dmax         : Nat
  qmax         : Nat
  polarityHigh : Bool
  openTh       : Nat
  shortTh      : Nat
  state        : ChState
  duty         : Nat
  current      : Nat
  lowCount     : Nat
  driving      : Option Fn
deriving DecidableEq, Repr

/-- A function's route. -/
inductive RouteKind where
  | primary | alternate | none
deriving DecidableEq, Repr

/-- A function's entry of the Routing Table with its route and ROUTE_CONFLICT flag. -/
structure Route where
  primary   : Nat
  alternate : Option Nat
  kind      : RouteKind
  conflict  : Bool
deriving DecidableEq, Repr

/-- The Valve Driver: channels 0 to 19 and the routes of functions 0 to 15. -/
structure Valve where
  channels : List Channel
  routes   : List Route
deriving DecidableEq, Repr

/-! ### The Head Scan Unit (R175) and the Direct Input Unit (R184 to R187) -/

/-- One head scan chain. `changes` are the sixteen change counts. -/
structure Head where
  feed     : Nat
  thrust   : Nat
  torque   : Nat
  temp     : Int
  rawBits  : BitVec 16
  valid    : Bool
  levels   : BitVec 16
  changes  : List Nat
  badRun   : Nat
  goodRun  : Nat
  scanLost : Bool
  badTotal : Nat
deriving DecidableEq, Repr

/-- The direct inputs: raw levels, the E-stop state (`estop`, ASSERTED) with its release timer, the
methane state (`methane`, ACTIVE) with its clear timer, the raw and the qualified levels of the carousel
sensors, the qualified level of RESET and its armed mark. -/
structure Direct where
  rawEstop     : Bool
  estop        : Bool
  releaseTimer : Timer
  rawMethane   : Bool
  methane      : Bool
  clearTimer   : Timer
  rawIndexHome : Bool
  indexHome    : Bool
  rawIndexStep : Bool
  indexStep    : Bool
  resetLine    : Bool
  armed        : Bool
deriving DecidableEq, Repr

/-- The rotation figures of a boom (R187). `last` is the last interval in ticks with its shift;
`prescale` counts the 25 µs ticks towards the next tick of the interval count, and `shift` is the shift in
force for that tick: a change of STALL_TICK_SHIFT takes effect from the next one (R188). -/
structure Rotation where
  samplePulses : Nat
  interval     : Nat
  noRotation   : Bool
  last         : Option (Nat × Nat)
  pulseSeen    : Bool
  prescale     : Nat
  shift        : Nat
deriving DecidableEq, Repr

/-! ### The Hole Store (R191, R192) and the Bit Rack (R197) -/

/-- A hole spec (section 1.2). -/
structure Spec where
  planned   : Nat
  holeDia   : Nat
  boltLen   : Nat
  boltDia   : Nat
  fastCount : Nat
deriving DecidableEq, Repr

/-- The status of a plan record. -/
inductive PlanStatus where
  | held | ready
deriving DecidableEq, Repr

/-- The flags of a plan record. -/
structure PlanFlags where
  boltLong   : Bool
  anchorWeak : Bool
  shortResin : Bool
deriving DecidableEq, Repr

/-- The plan record (R85). -/
structure Plan where
  pass   : Nat
  status : PlanStatus
  dd     : Nat
  bt     : Nat
  flags  : PlanFlags
  le     : Option Nat
  nv     : Option Nat
  nfEff  : Option Nat
  vreq   : Option Nat
  ns     : Option Nat
  types  : Option (List CartType)
deriving DecidableEq, Repr

/-- The end of a mix (R107). -/
inductive MixEnd where
  | complete | short | interrupted | stopped
deriving DecidableEq, Repr

/-- The mix result (R107). -/
structure MixResult where
  pulses    : Nat
  revs      : Nat
  timeMs    : Nat
  stallSeen : Bool
  ending    : MixEnd
deriving DecidableEq, Repr

/-- The gel hold field (R110 to R112). -/
structure GelHold where
  temp     : Int
  factor   : Nat
  hold     : Nat
  elapsed  : Nat
deriving DecidableEq, Repr

/-- The torque result (R118). -/
structure TorqueResult where
  peak    : Nat
  snug    : Option Nat
  angle   : Nat
  turns   : Nat
  verdict : Option Verdict
deriving DecidableEq, Repr

/-- The outcome of a closed hole (R194). -/
inductive HoleOutcome where
  | complete | completeFlagged | aborted | faulted
deriving DecidableEq, Repr

/-- A Hole Record (R192). `params` is the parameter snapshot: the HOLE-scope values by parameter index. -/
structure HoleRecord where
  number       : Nat
  boom         : Boom
  bitPos       : Nat
  spec         : Spec
  bands        : List Band
  params       : List Nat
  segments     : List Segment
  layers       : Option (List Layer)
  drilledDepth : Option Nat
  drillOutcome : Option DrillOutcome
  plan         : Option Plan
  delivered    : List (Nat × CartType)
  decision     : Option Choice
  mix          : Option MixResult
  gel          : Option GelHold
  torque       : Option TorqueResult
  profileFull  : Bool
  bitWorn      : Bool
  outcome      : Option HoleOutcome
  haltReason   : Option HaltReason
deriving DecidableEq, Repr

/-- The Hole Store. -/
structure Store where
  opened  : PerBoom (Option HoleRecord)
  queue   : List HoleRecord
  counter : Nat
deriving DecidableEq, Repr

/-- The state of a position of the Bit Table. -/
inductive BitState where
  | empty | serviceable | fitted (b : Boom) | retired
deriving DecidableEq, Repr

/-- A position of the Bit Table, its wear in mJ. -/
structure BitPos where
  state : BitState
  wear  : Nat
  holes : Nat
  worn  : Bool
deriving DecidableEq, Repr

/-! ### The Link Port (chapter 11) -/

/-- The result codes of R203, each at its value. -/
inductive Result where
  | ok | clamped | state | range | noSuchBoom | unknownKind | badLength | queueFull | bitRetired
  | noSuchHole | owned | causeActive | notChoice
deriving DecidableEq, Repr

/-- The kinds of reset. -/
inductive ResetCause where
  | power | line | message
deriving DecidableEq, Repr

/-- The states INTERLOCK reports name, with their new state. -/
inductive Interlock where
  | scanLost (b : Boom) (set : Bool)
  | eStop (asserted : Bool)
  | methane (active : Bool)
  | silence (set : Bool)
deriving DecidableEq, Repr

/-- What a MAGAZINE report says (R134, R135, R140). -/
inductive MagazineNote where
  | jam (slot : Nat) (type : CartType)
  | starved (b : Boom) (type : CartType)
  | fault (cause : IdxFault) (position : Option Nat)
deriving DecidableEq, Repr

/-- A function's route as a CHANNEL report gives it (R173). -/
structure RouteNote where
  fn       : Nat
  kind     : RouteKind
  claims   : Option Nat
  conflict : Bool
  failed   : Bool
deriving DecidableEq, Repr

/-- What a BIT report says (R198, R199); the boom of a WORN report is absent for a position that is not
FITTED. -/
inductive BitNote where
  | worn (pos : Nat) (b : Option Boom) (wearKj limit : Nat)
  | retired (pos : Nat) (b : Boom) (wearKj holes limit : Nat)
deriving DecidableEq, Repr

/-- The contents of a PHASE report (R5). -/
structure PhaseNote where
  b             : Boom
  hole          : Nat
  left          : Phase
  entered       : Phase
  returnPhase   : Option Phase
  causes        : CauseSet
  deferred      : CauseSet
  deferredAbort : Bool
  haltReason    : Option HaltReason
deriving DecidableEq, Repr

/-- The reports of section 11.3, with the values of the moment they are raised. -/
inductive Report where
  | started (cause : ResetCause) (straps : Straps)
  | phase (n : PhaseNote)
  | segment (b : Boom) (hole index bottom se : Nat) (cls : Cls) (flags : SegFlags)
  | holeClosed (hole : Nat) (b : Boom) (outcome : Option HoleOutcome) (reason : Option HaltReason)
      (verdict : Option Verdict) (queued : Nat)
  | decisionNeeded (b : Boom) (hole : Nat) (anchorWeak : Bool) (choices : ChoiceSet)
  | burst (b : Boom) (hole : Nat) (kind : BurstEnd) (length : Nat) (delivered : List (Nat × CartType))
  | magazine (n : MagazineNote)
  | channel (ch : Nat) (state : ChState) (changed : List RouteNote)
  | interlock (n : Interlock)
  | bit (n : BitNote)
deriving DecidableEq, Repr

/-- A reply in the outbound queue: its content and the number of parts already begun (R206). -/
structure Reply where
  kind    : Byte
  tag     : Byte
  result  : Result
  content : List Byte
  sent    : Nat
deriving DecidableEq, Repr

/-- A good frame waiting in the inbound queue. -/
structure Frame where
  kind : Byte
  tag  : Byte
  body : List Byte
deriving DecidableEq, Repr

/-- The Link Port. `rx` holds the bytes received from the SYNC of the frame being gathered (none while
hunting), `rxGap` the time since the last of them; `replies` and `reports` are the outbound queue;
`tx` is the last frame whose transmission has begun. -/
structure Link where
  rx          : List Byte
  rxGap       : Timer
  inbound     : List Frame
  replies     : List Reply
  reports     : List Report
  dropped     : Bool
  overrun     : Bool
  tx          : List Byte
  presence    : Timer
  silence     : Bool
  restarting  : Bool
deriving DecidableEq, Repr

/-- Whether the part is without supply, in its start-up or running (R212). -/
inductive Power where
  | off | startUp | running
deriving DecidableEq, Repr

end Sys2Proof.Machine
end

