-- ==== Sys2Proof/Machine/Params.lean ====
section
/-! DEFINITION. The Parameter Table of R210, the numbers of its parameters and the fixed figures of the
part's queues and clocks. -/

namespace Sys2Proof.Machine

/-- A row of the Parameter Table: index, range, default, and whether the scope is HOLE (else LIVE). -/
structure ParamRow where
  index : Nat
  lo    : Nat
  hi    : Nat
  dflt  : Nat
  hole  : Bool
deriving DecidableEq, Repr

/-- The Parameter Table of R210. -/
def paramRows : List ParamRow :=
  [⟨0, 100, 5000, 500, false⟩,
   ⟨1, 200, 3000, 1400, false⟩,
   ⟨2, 1, 65000, 40, true⟩,
   ⟨3, 1, 65000, 150, true⟩,
   ⟨4, 1, 65000, 400, true⟩,
   ⟨5, 1, 65000, 900, true⟩,
   ⟨6, 20, 500, 100, true⟩,
   ⟨7, 20, 200, 50, true⟩,
   ⟨8, 2, 50, 10, true⟩,
   ⟨9, 50, 800, 250, true⟩,
   ⟨10, 10, 100, 60, true⟩,
   ⟨16, 2, 100, 15, true⟩,
   ⟨17, 2, 100, 50, true⟩,
   ⟨18, 2, 100, 35, true⟩,
   ⟨19, 2, 100, 20, true⟩,
   ⟨20, 2, 100, 10, true⟩,
   ⟨21, 50, 800, 300, true⟩,
   ⟨22, 50, 800, 400, true⟩,
   ⟨23, 50, 800, 500, true⟩,
   ⟨24, 50, 800, 600, true⟩,
   ⟨25, 50, 800, 600, true⟩,
   ⟨26, 50, 6000, 400, true⟩,
   ⟨27, 50, 6000, 800, true⟩] ++
  [⟨28, 50, 6000, 1200, true⟩,
   ⟨29, 50, 6000, 1800, true⟩,
   ⟨30, 50, 6000, 2200, true⟩,
   ⟨31, 20, 400, 160, true⟩,
   ⟨32, 1, 20, 3, true⟩,
   ⟨33, 0, 6, 2, false⟩,
   ⟨34, 5, 100, 20, true⟩,
   ⟨35, 200, 10000, 2000, true⟩,
   ⟨36, 1000, 60000, 15000, true⟩,
   ⟨37, 1000, 60000, 20000, true⟩,
   ⟨38, 1000, 60000, 30000, true⟩,
   ⟨39, 0, 300, 50, true⟩,
   ⟨40, 0, 300, 50, true⟩,
   ⟨41, 100, 1000, 300, true⟩,
   ⟨42, 0, 400, 100, true⟩,
   ⟨43, 0, 50, 10, true⟩,
   ⟨44, 0, 1, 1, true⟩,
   ⟨45, 150, 400, 240, true⟩,
   ⟨46, 150, 1200, 300, true⟩,
   ⟨47, 150, 400, 240, true⟩,
   ⟨48, 150, 1200, 600, true⟩] ++
  [⟨49, 20, 1200, 200, true⟩,
   ⟨50, 5, 100, 30, true⟩,
   ⟨51, 100, 800, 400, true⟩,
   ⟨52, 2000, 60000, 15000, true⟩,
   ⟨53, 5, 100, 40, true⟩,
   ⟨54, 0, 200, 50, true⟩,
   ⟨55, 100, 4000, 1000, true⟩,
   ⟨56, 1000, 60000, 20000, true⟩,
   ⟨57, 0, 200, 30, true⟩,
   ⟨58, 50, 800, 270, true⟩,
   ⟨59, 10, 400, 60, true⟩,
   ⟨60, 0, 600, 5, true⟩,
   ⟨61, 1, 600, 120, true⟩,
   ⟨62, 20, 300, 100, true⟩,
   ⟨63, 1000, 60000, 10000, true⟩,
   ⟨64, 1000, 60000, 20000, true⟩,
   ⟨65, 1000, 120000, 30000, false⟩,
   ⟨66, 500, 10000, 3000, false⟩,
   ⟨67, 500, 10000, 2000, false⟩,
   ⟨68, 10, 200, 50, false⟩,
   ⟨69, 1000, 1000000, 40000, false⟩,
   ⟨70, 1, 10, 3, false⟩,
   ⟨71, 0, 65535, 255, false⟩,
   ⟨72, 0, 65535, 255, false⟩]

/-- The row of a parameter index, if the table has one (R210: not 11 to 15, nor 73 and above). -/
def paramRow? (i : Nat) : Option ParamRow := paramRows.find? (fun r => r.index == i)

/-- Whether index `i` is a HOLE-scope parameter. -/
def isHoleParam (i : Nat) : Bool := paramRows.any (fun r => r.index == i && r.hole)

/-- The live values after every reset: each parameter at its default, by index (0 at indices without
a parameter). -/
def defaultParams : List Nat :=
  (List.range 73).map fun i => match paramRow? i with
    | some r => r.dflt
    | none => 0

/-- The parameter snapshot of a Hole Record: the HOLE-scope values as they stand (R4). -/
def holeCopy (ps : List Nat) : List Nat :=
  (List.range 73).map fun i => if isHoleParam i then ps.getD i 0 else 0

/-! The parameters' indices. -/

abbrev P.presenceTimeout : Nat := 0
abbrev P.pumpFlow : Nat := 1
abbrev P.t1 : Nat := 2
abbrev P.t2 : Nat := 3
abbrev P.t3 : Nat := 4
abbrev P.t4 : Nat := 5
abbrev P.contactThrust : Nat := 6
abbrev P.collarLength : Nat := 7
abbrev P.collarFeed : Nat := 8
abbrev P.collarRpm : Nat := 9
abbrev P.approachFeed : Nat := 10
abbrev P.feedTarget : Nat := 16
abbrev P.rpmTarget : Nat := 21
abbrev P.thrustCap : Nat := 26
abbrev P.rotDisplacement : Nat := 31
abbrev P.feedFlowScale : Nat := 32
abbrev P.stallTickShift : Nat := 33
abbrev P.stallBackoff : Nat := 34
abbrev P.flushLossTime : Nat := 35
abbrev P.jackTimeout : Nat := 36
abbrev P.contactTimeout : Nat := 37
abbrev P.retractTimeout : Nat := 38
abbrev P.collarAllowance : Nat := 39
abbrev P.tailLength : Nat := 40
abbrev P.anchorZone : Nat := 41
abbrev P.voidExtra : Nat := 42
abbrev P.waste : Nat := 43
abbrev P.anchorPolicy : Nat := 44
abbrev P.fastDia : Nat := 45
abbrev P.fastLen : Nat := 46
abbrev P.slowDia : Nat := 47
abbrev P.slowLen : Nat := 48
abbrev P.fastGelBase : Nat := 49
abbrev P.mixRevs : Nat := 50
abbrev P.mixRpm : Nat := 51
abbrev P.mixMaxTime : Nat := 52
abbrev P.pushFeed : Nat := 53
abbrev P.pushRpm : Nat := 54
abbrev P.seatThrust : Nat := 55
abbrev P.pushTimeout : Nat := 56
abbrev P.holdFeedFlow : Nat := 57
abbrev P.torqueTarget : Nat := 58
abbrev P.snugTorque : Nat := 59
abbrev P.angleMin : Nat := 60
abbrev P.angleMax : Nat := 61
abbrev P.torqueRpm : Nat := 62
abbrev P.torqueTimeout : Nat := 63
abbrev P.releaseTimeout : Nat := 64
abbrev P.readyWait : Nat := 65
abbrev P.passTimeout : Nat := 66
abbrev P.stepTimeout : Nat := 67
abbrev P.indexFlow : Nat := 68
abbrev P.bitWearLimit : Nat := 69
abbrev P.debounce : Nat := 70
abbrev P.inputPolarityA : Nat := 71
abbrev P.inputPolarityB : Nat := 72

/-! Fixed figures. -/

/-- Ticks of 25 µs in a millisecond (log entry 3). -/
def ticksPerMs : Nat := 40

/-- Reply places of the outbound queue (R206). -/
def replyPlaces : Nat := 4

/-- Report places of the outbound queue (R206). -/
def reportPlaces : Nat := 12

/-- Frames the inbound queue holds (R204). -/
def inboundPlaces : Nat := 4

/-- The records the Hole Store holds, open and queued together (R191). -/
def recordPlaces : Nat := 8

/-- The largest value of SF and ST (R44). -/
def satWork : Nat := 4294967295

/-- The largest wear of a bit, 64-bit unsigned (R197). -/
def maxWear : Nat := 18446744073709551615

end Sys2Proof.Machine
end

