-- ==== Sys2Proof/Machine/Reset.lean ====
section
/-! DEFINITION. The functions' numbers, and the value each block's state takes after every reset, as the
rule of each block gives it (gathered in R212). -/

namespace Sys2Proof.Machine

/-! ### Functions and their numbers -/

/-- The place of a kind in the numbering of a boom's functions. -/
def FnKind.place : FnKind → Nat
  | .jackUp => 0
  | .jackDown => 1
  | .feedUp => 2
  | .feedDown => 3
  | .rotFwd => 4
  | .rotRev => 5
  | .flush => 6

/-- The code of a boom (R203). -/
def boomNum : Boom → Nat
  | .A => 0
  | .B => 1

/-- The number of a function, which is also its priority. -/
def Fn.num : Fn → Nat
  | .boom b k => 2 * k.place + boomNum b
  | .index => 14
  | .tram => 15

/-- The thirteen proportional functions in number order. -/
def propFns : List Fn :=
  [.boom .A .jackUp, .boom .B .jackUp, .boom .A .jackDown, .boom .B .jackDown,
   .boom .A .feedUp, .boom .B .feedUp, .boom .A .feedDown, .boom .B .feedDown,
   .boom .A .rotFwd, .boom .B .rotFwd, .boom .A .rotRev, .boom .B .rotRev, .index]

/-- The sixteen functions in number order. -/
def allFns : List Fn :=
  [.boom .A .jackUp, .boom .B .jackUp, .boom .A .jackDown, .boom .B .jackDown,
   .boom .A .feedUp, .boom .B .feedUp, .boom .A .feedDown, .boom .B .feedDown,
   .boom .A .rotFwd, .boom .B .rotFwd, .boom .A .rotRev, .boom .B .rotRev,
   .boom .A .flush, .boom .B .flush, .index, .tram]

/-- The function of a number, if it is at most 15. -/
def fnOfNum (n : Nat) : Option Fn := allFns.find? (fun f => f.num == n)

/-- Whether METHANE withholds a function: the rotation functions (R146). -/
def Fn.isRotation : Fn → Bool
  | .boom _ .rotFwd => true
  | .boom _ .rotRev => true
  | _ => false

/-! ### Empty sets and stopped timers -/

def Timer.zero : Timer := { running := false, ticks := 0 }

/-- A timer that starts from 0. -/
def Timer.start : Timer := { running := true, ticks := 0 }

def CauseSet.empty : CauseSet :=
  { operator := false, silence := false, gas := false, scan := false, flush := false }

def ChoiceSet.empty : ChoiceSet :=
  { proceed := false, extraFast := false, redrill := false, abandon := false }

def Jogs.zero : Jogs :=
  { jackUp := 0, jackDown := 0, feedUp := 0, feedDown := 0, rotFwd := 0, rotRev := 0, flush := false }

def SegFlags.empty : SegFlags :=
  { collar := false, partialSeg := false, saturated := false, encoderJump := false, stallRetry := false }

/-! ### The blocks of a boom -/

/-- R1: after every reset a Sequencer is IDLE, or STOPPED when E_STOP is asserted. -/
def Sequencer.reset (stopped : Bool) : Sequencer :=
  { state := if stopped then .stopped else .idle
    returnPhase := none, causes := .empty, deferred := .empty, deferredAbort := false
    abortPending := false, haltReason := none, closing := none, choices := .empty
    stoppedFrom := none, timer := .zero, holdComplete := false, hole := none, jogs := .zero
    jackUp := 0, jackDown := 0, feedDown := 0, jackDownStarted := false }

/-- R37. -/
def Profiler.reset : Profiler :=
  { mode := .inactive, collarRef := none, depth := 0, maxDepth := 0, nextTop := 0, jumps := 0
    openSeg := none }

/-- R62. -/
def Governor.reset : Governor :=
  { stage := .off, cls := none, feedTarget := 0, rpmTarget := 0, thrustCap := 0, band := none
    feedUp := 0, feedDown := 0, rotFwd := 0, flush := false, backingOff := false
    backoffTarget := 0, approachStall := false, flushTimer := .zero, outcome := none, lastFeed := 0 }

/-- R98; its reset sentences do not name the push advance, and the model takes 0 (DESIGN CHOICE, log entry 21). -/
def Setting.reset : Setting :=
  { stage := .off, pushOrigin := none, pushAdvance := 0, mixPulses := 0, stallSeen := false
    gelTemp := 0, gelFactor := 0, holdTime := 0, gelTimer := .zero, turns := 0, snug := none
    angle := 0, peak := 0, verdict := none, feedUp := 0, rotFwd := 0 }

/-- R175. -/
def Head.reset : Head :=
  { feed := 0, thrust := 0, torque := 0, temp := 0, rawBits := 0, valid := false, levels := 0
    changes := List.replicate 16 0, badRun := 0, goodRun := 0, scanLost := false, badTotal := 0 }

/-- R187; the shift in force is the default of STALL_TICK_SHIFT. -/
def Rotation.reset : Rotation :=
  { samplePulses := 0, interval := 0, noRotation := false, last := none, pulseSeen := false
    prescale := 0, shift := 2 }

/-! ### The shared blocks -/

/-- R122: an empty slot. -/
def Slot.empty : Slot := { state := .empty, type := none, seq := none, fails := 0 }

/-- R122: the number of slots S. -/
def slotCount (st : Straps) : Nat := if st.magazine24 then 24 else 12

/-- R122, R125. -/
def Indexer.reset (st : Straps) : Indexer :=
  { slots := List.replicate (slotCount st) .empty, seqCounter := 1, state := .idle, position := none
    selected := none, remaining := 0, homing := false, homeCount := 0, stopMark := false
    stepTimer := .zero, readyTimer := .zero, passTimer := .zero, fault := none, strayPass := 0
    demand := 0, queue := [] }

/-- The flow class of a function of an IDLE boom (R143, R145). -/
def idleClass : Fn → FlowClass
  | .boom _ .jackUp => .support
  | .boom _ .jackDown => .support
  | _ => .work

/-- The withheld cause at the end of start-up (R143). -/
def resetCauseOf (estop methane : Bool) (f : Fn) : Withheld :=
  if estop then .estop else if methane && f.isRotation then .methane else .none

/-- R143. -/
def Arbiter.reset (estop methane : Bool) : Arbiter :=
  { flow := propFns.map fun f =>
      { fn := f, asked := 0, cls := idleClass f, effective := 0
        cause := resetCauseOf estop methane f, grant := 0, limited := false }
    failed := [], estop := estop, methane := methane
    res := { a := { mark := .none, amount := 0 }, b := { mark := .none, amount := 0 } }
    waiting := [], unused := 1400 }

/-- R160: a channel at its default settings. -/
def Channel.reset (n : Nat) : Channel :=
  { dmin := 250, dmax := 900, qmax := 1000, polarityHigh := true, openTh := 100, shortTh := 3500
    state := .ok, duty := 0, current := 0, lowCount := 0, driving := fnOfNum n }

/-- R160, R167. -/
def Valve.reset : Valve :=
  { channels := (List.range 20).map Channel.reset
    routes := (List.range 16).map fun k =>
      { primary := k, alternate := none, kind := .primary, conflict := false } }

/-- R184 to R186: the levels as found at the end of start-up. -/
def Direct.reset (p : Pins) (armed : Bool) : Direct :=
  { rawEstop := p.eStop, estop := p.eStop, releaseTimer := .zero
    rawMethane := p.methane, methane := p.methane, clearTimer := .zero
    rawIndexHome := p.indexHome, indexHome := p.indexHome
    rawIndexStep := p.indexStep, indexStep := p.indexStep
    resetLine := p.resetLine, armed := armed }

/-- R191. -/
def Store.reset : Store := { opened := { a := none, b := none }, queue := [], counter := 1 }

/-- R197. -/
def BitPos.reset : BitPos := { state := .empty, wear := 0, holes := 0, worn := false }

/-- The Link Port as it is during a start-up: both queues empty, nothing received (R204, R206). -/
def Link.quiet : Link :=
  { rx := [], rxGap := .zero, inbound := [], replies := [], reports := [], dropped := false
    overrun := false, tx := [], presence := .zero, silence := false, restarting := false }

/-- R185, R186, R212: the reports placed in the empty outbound queue at the end of start-up; where both inputs are
found active, the INTERLOCK report of E_STOP before that of METHANE (log entry 11). -/
def startReports (cause : ResetCause) (st : Straps) (p : Pins) : List Report :=
  [Report.started cause st] ++
  (if p.eStop then [.interlock (.eStop true)] else []) ++
  (if p.methane then [.interlock (.methane true)] else [])

/-- R209, R212: the Link Port at the end of start-up. -/
def Link.started (cause : ResetCause) (st : Straps) (p : Pins) : Link :=
  { Link.quiet with reports := startReports cause st p, presence := .start }

end Sys2Proof.Machine
end

