-- ==== Sys2Proof/Machine/State.lean ====
section
/-! DEFINITION. The state of the BC-240 as plain data, the reasons a command could stop, and the state
right after reset. -/

namespace Sys2Proof.Machine

/-- The reasons a command could stop the part. The manual gives every command of the table an effect in
every state, so no meaning answers with one. -/
inductive Fault where
  /-- Raised by no command; kept because the outcome type needs a fault type. Safe. -/
  | unraised
deriving DecidableEq, Repr

/-- The reasons a command has no meaning. -/
inductive Refusal where
  /-- A command that is not modelled yet; raised by an arm of `exec` only. Safe. -/
  | notModelled (mnemonic : String)
deriving DecidableEq, Repr

/-- The state of the part, block by block, and the queue of commands that wait (`pending`, first in,
first out). `freeCount` is the MODEL's own counter, to which the free value `Config.freeOrder` is
applied (log entry 2). -/
structure State where
  pending    : List Instr
  power      : Power
  startTimer : Timer
  resetCause : ResetCause
  straps     : Straps
  params     : List Nat
  link       : Link
  seq        : PerBoom Sequencer
  prof       : PerBoom Profiler
  gov        : PerBoom Governor
  sett       : PerBoom Setting
  bands      : PerBoom (List Band)
  idx        : Indexer
  indexJog   : Nat
  arb        : Arbiter
  valve      : Valve
  head       : PerBoom Head
  diu        : Direct
  rot        : PerBoom Rotation
  store      : Store
  bits       : List BitPos
  tram       : Bool
  freeCount  : Nat
deriving DecidableEq, Repr

/-- The state at the end of a start-up (R212): every block as its own rule gives it after every reset,
with the straps in force, the direct inputs as found, STARTED queued and the presence timer running.
`armed` is the RESET mark as the start-up leaves it. -/
def State.afterReset (cause : ResetCause) (st : Straps) (p : Pins) (armed : Bool) : State :=
  { pending := [], power := .running, startTimer := .zero, resetCause := cause, straps := st
    params := defaultParams
    link := Link.started cause st p
    seq := { a := Sequencer.reset p.eStop, b := Sequencer.reset (p.eStop && st.boomB) }
    prof := { a := .reset, b := .reset }
    gov := { a := .reset, b := .reset }
    sett := { a := .reset, b := .reset }
    bands := { a := [], b := [] }
    idx := Indexer.reset st
    indexJog := 0
    arb := Arbiter.reset p.eStop p.methane
    valve := .reset
    head := { a := .reset, b := .reset }
    diu := Direct.reset p armed
    rot := { a := .reset, b := .reset }
    store := .reset
    bits := List.replicate 8 .reset
    tram := false
    freeCount := 0 }

/-- The state during a start-up (R212): outputs inactive, nothing received or sent, the blocks at their
after-reset values and the start-up timer running. -/
def State.inStartUp (cause : ResetCause) (st : Straps) (p : Pins) : State :=
  { State.afterReset cause st { p with eStop := false, methane := false } false with
    power := .startUp, startTimer := .start, link := .quiet
    diu := { Direct.reset p false with estop := false, methane := false } }

/-- The part without supply (R212): it keeps no state, straps included. -/
def State.unpowered : State :=
  { State.inStartUp .power { boomB := false, magazine24 := false, linkRate := false }
      { eStop := false, methane := false, indexHome := false, indexStep := false, resetLine := false } with
    power := .off, startTimer := .zero }

/-- The machine right after reset: the end of the start-up of a POWER reset with boom B fitted, twelve
slots, 115,200 baud and every direct input inactive (log entry 4). -/
def State.reset : State :=
  State.afterReset .power { boomB := true, magazine24 := false, linkRate := false }
    { eStop := false, methane := false, indexHome := false, indexStep := false, resetLine := false } true

end Sys2Proof.Machine
end

