-- ==== Sys2Proof/Machine/Ops.lean ====
section
/-! DEFINITION. The named operations over the state that every block uses: one update for each block,
the parameters, the timers, the reports and the clearing of a boom's rotation timer. -/

namespace Sys2Proof.Machine

/-! ### One update for each block -/

def State.modLink (s : State) (f : Link → Link) : State := { s with link := f s.link }
def State.modSeq (s : State) (b : Boom) (f : Sequencer → Sequencer) : State :=
  { s with seq := s.seq.set b (f (s.seq.get b)) }
def State.modProf (s : State) (b : Boom) (f : Profiler → Profiler) : State :=
  { s with prof := s.prof.set b (f (s.prof.get b)) }
def State.modGov (s : State) (b : Boom) (f : Governor → Governor) : State :=
  { s with gov := s.gov.set b (f (s.gov.get b)) }
def State.modSett (s : State) (b : Boom) (f : Setting → Setting) : State :=
  { s with sett := s.sett.set b (f (s.sett.get b)) }
def State.modIdx (s : State) (f : Indexer → Indexer) : State := { s with idx := f s.idx }
def State.modArb (s : State) (f : Arbiter → Arbiter) : State := { s with arb := f s.arb }
def State.modValve (s : State) (f : Valve → Valve) : State := { s with valve := f s.valve }
def State.modHead (s : State) (b : Boom) (f : Head → Head) : State :=
  { s with head := s.head.set b (f (s.head.get b)) }
def State.modDiu (s : State) (f : Direct → Direct) : State := { s with diu := f s.diu }
def State.modRot (s : State) (b : Boom) (f : Rotation → Rotation) : State :=
  { s with rot := s.rot.set b (f (s.rot.get b)) }
def State.modStore (s : State) (f : Store → Store) : State := { s with store := f s.store }
def State.modBits (s : State) (f : List BitPos → List BitPos) : State := { s with bits := f s.bits }
def State.setTram (s : State) (v : Bool) : State := { s with tram := v }
def State.setIndexJog (s : State) (v : Nat) : State := { s with indexJog := v }

/-- Changes boom `b`'s open Hole Record, if it has one (R192). -/
def State.modRec (s : State) (b : Boom) (f : HoleRecord → HoleRecord) : State :=
  s.modStore fun st => { st with opened := st.opened.set b ((st.opened.get b).map f) }

/-! ### Reading -/

/-- The booms that are present: B with the BOOM_B_FITTED strap (R1). -/
def State.present (s : State) : Boom → Bool
  | .A => true
  | .B => s.straps.boomB

/-- The present booms, A first. -/
def State.booms (s : State) : List Boom := if s.straps.boomB then [.A, .B] else [.A]

/-- The live value of parameter `i` (R210). -/
def State.live (s : State) (i : Nat) : Nat := s.params.getD i 0

/-- Boom `b`'s open Hole Record. -/
def State.rec? (s : State) (b : Boom) : Option HoleRecord := s.store.opened.get b

/-- The value of HOLE-scope parameter `i` in the copy of boom `b`'s open record (R4). -/
def State.hp (s : State) (b : Boom) (i : Nat) : Nat :=
  match s.rec? b with
  | some r => r.params.getD i 0
  | none => 0

/-- The polarity mask of boom `b` (R182). -/
def State.polarity (s : State) : Boom → BitVec 16
  | .A => BitVec.ofNat 16 (s.live P.inputPolarityA)
  | .B => BitVec.ofNat 16 (s.live P.inputPolarityB)

/-! ### Timers -/

/-- The time counted, in ms. -/
def Timer.ms (t : Timer) : Nat := t.ticks / ticksPerMs

/-- Stops a timer and keeps its count. -/
def Timer.hold (t : Timer) : Timer := { t with running := false }

/-- Runs a timer on from its count. -/
def Timer.resume (t : Timer) : Timer := { t with running := true }

/-- A timer at its expiry: it has counted the limit (in ms) at least, and it is stopped. -/
def Timer.expire (t : Timer) (limitMs : Nat) : Timer :=
  { running := false, ticks := max t.ticks (limitMs * ticksPerMs) }

/-- Whether a running timer has reached its limit (in ms). -/
def Timer.due (t : Timer) (limitMs : Nat) : Bool := t.running && limitMs * ticksPerMs ≤ t.ticks

/-- One tick of 25 µs. -/
def Timer.tick (t : Timer) : Timer := if t.running then { t with ticks := t.ticks + 1 } else t

/-! ### Reports (R206, R207) -/

/-- Hands a report to the Link Port: it joins the tail of the reports, or it is dropped and
REPORTS_DROPPED is marked when all twelve report places are full. -/
def State.report (s : State) (r : Report) : State :=
  s.modLink fun l =>
    if l.reports.length < reportPlaces then { l with reports := l.reports ++ [r] }
    else { l with dropped := true }

/-- The PHASE report of a boom whose state was `left`, from its Sequencer as it stands (R5). -/
def phaseNote (b : Boom) (left : Phase) (q : Sequencer) : Report :=
  .phase { b := b, hole := q.hole.getD 0, left := left, entered := q.state
           returnPhase := if q.state = .paused then q.returnPhase else none
           causes := q.causes, deferred := q.deferred, deferredAbort := q.deferredAbort
           haltReason := q.haltReason }

/-- Changes the Sequencer's state to `p` together with the changes `f`, and sends the PHASE report. -/
def State.goPhase (s : State) (b : Boom) (p : Phase) (f : Sequencer → Sequencer) : State :=
  let left := (s.seq.get b).state
  let s := s.modSeq b fun q => { f q with state := p }
  s.report (phaseNote b left (s.seq.get b))

/-- A PHASE report without a change of state (R5). -/
def State.notePhase (s : State) (b : Boom) : State :=
  s.report (phaseNote b (s.seq.get b).state (s.seq.get b))

/-! ### Rotation (R188) -/

/-- A clear of the boom's rotation timer. -/
def State.clearRotation (s : State) (b : Boom) : State :=
  s.modRot b fun r =>
    { r with interval := 0, noRotation := false, pulseSeen := false, last := none }

end Sys2Proof.Machine
end

