-- ==== Sys2Proof/Machine/Flags.lean ====
section
/-! DEFINITION. The flags and conditions the blocks read of one another: the active state of a discrete
input, a boom's phase, the claims and the FAILED set of the functions, and the sets of causes. -/

namespace Sys2Proof.Machine

/-! ### Discrete inputs (R180, R182) -/

namespace Input
abbrev feedRetracted : Nat := 0
abbrev jackAtRoof : Nat := 1
abbrev jackLowered : Nat := 2
abbrev boltPresent : Nat := 3
abbrev injectorReady : Nat := 4
abbrev cartridgePassed : Nat := 5
abbrev flushPressureOk : Nat := 6
abbrev guardClosed : Nat := 7
end Input

/-- Whether input `k` is active under a polarity mask: its debounced level is high with the mask bit set
or low with it clear, and a good frame has arrived (R175, R182). -/
def Head.active (h : Head) (mask : BitVec 16) (k : Nat) : Bool :=
  h.valid && (h.levels.getLsbD k == mask.getLsbD k)

/-- Whether input `k` of boom `b` is active as it stands. -/
def State.active (s : State) (b : Boom) (k : Nat) : Bool := (s.head.get b).active (s.polarity b) k

/-! ### Phases (section 1.1, R2) -/

/-- The automatic phases, from JACK_SET to RELEASING. -/
def Phase.automatic : Phase → Bool
  | .jackSet | .collaring | .drilling | .retracting | .awaitDecision | .resinInsert | .awaitBolt
  | .boltPush | .mixWait | .mixing | .gelHold | .torquing | .releasing => true
  | _ => false

/-- The phase a Sequencer counts as being in: for a PAUSED boom its return phase (R2). -/
def Sequencer.phase (q : Sequencer) : Phase :=
  if q.state = .paused then q.returnPhase.getD .paused else q.state

/-- The phase boom `b` counts as being in. -/
def State.phase (s : State) (b : Boom) : Phase := (s.seq.get b).phase

/-- Whether boom `b` is in an automatic phase, a PAUSED boom counting as in its return phase (R2). -/
def State.inAutomatic (s : State) (b : Boom) : Bool := (s.phase b).automatic

/-- The functions of the boom a phase uses (R172). -/
def Phase.uses : Phase → List FnKind
  | .jackSet => [.jackUp]
  | .collaring => [.feedUp, .feedDown, .rotFwd, .flush]
  | .drilling => [.feedUp, .feedDown, .rotFwd, .flush]
  | .retracting => [.feedDown]
  | .boltPush => [.feedUp, .rotFwd]
  | .mixing => [.feedUp, .rotFwd]
  | .torquing => [.feedUp, .rotFwd]
  | .gelHold => [.feedUp]
  | .releasing => [.feedDown, .jackDown]
  | _ => []

/-- The phases in which a reservation stands (R120). -/
def Phase.reserves : Phase → Bool
  | .mixWait | .mixing | .gelHold | .torquing => true
  | _ => false

/-- The phases whose FEED_UP and ROT_FWD are class SETTING (R145). -/
def Phase.setting : Phase → Bool
  | .mixing | .gelHold | .torquing => true
  | _ => false

/-! ### Pause causes and choices -/

/-- Whether a cause is in a set. -/
def CauseSet.has (c : CauseSet) : Cause → Bool
  | .operator => c.operator
  | .silence => c.silence
  | .gas => c.gas
  | .scan => c.scan
  | .flush => c.flush

/-- A set with a cause added. -/
def CauseSet.add (c : CauseSet) : Cause → CauseSet
  | .operator => { c with operator := true }
  | .silence => { c with silence := true }
  | .gas => { c with gas := true }
  | .scan => { c with scan := true }
  | .flush => { c with flush := true }

/-- The members of a set, in order. -/
def CauseSet.toList (c : CauseSet) : List Cause :=
  [Cause.operator, .silence, .gas, .scan, .flush].filter c.has

/-- Whether a choice is among the offered ones. -/
def ChoiceSet.has (c : ChoiceSet) : Choice → Bool
  | .proceed => c.proceed
  | .extraFast => c.extraFast
  | .redrill => c.redrill
  | .abandon => c.abandon

/-! ### Routes and FAILED functions (R167, R170) -/

/-- The default entry, read for a number the table does not hold. -/
def Route.default : Route := { primary := 0, alternate := none, kind := .none, conflict := false }

/-- The route of a function. -/
def Valve.route (v : Valve) (f : Fn) : Route := v.routes.getD f.num .default

/-- The channel a route claims, if any (R167). -/
def Route.claims (r : Route) : Option Nat :=
  match r.kind with
  | .primary => some r.primary
  | .alternate => r.alternate
  | .none => none

/-- Whether a function drives no channel (R167). -/
def Valve.isFailed (v : Valve) (f : Fn) : Bool :=
  (v.route f).claims.isNone || (v.route f).conflict

/-- The FAILED functions, in number order. -/
def Valve.failedFns (v : Valve) : List Fn := allFns.filter v.isFailed

/-- The channel of a number. -/
def Valve.channel (v : Valve) (c : Nat) : Channel := v.channels.getD c (Channel.reset c)

/-- Whether a channel exists and is OK. -/
def Valve.chOk (v : Valve) (c : Nat) : Bool :=
  match v.channels[c]? with
  | some ch => ch.state = .ok
  | none => false

/-- The qmax setting of the channel a function drives, 0 when it drives none (R7). -/
def Valve.qmaxOf (v : Valve) (f : Fn) : Nat :=
  if v.isFailed f then 0
  else match (v.route f).claims with
    | some c => (v.channel c).qmax
    | none => 0

/-- Whether some function that phase `p` uses is FAILED for boom `b` (R172). -/
def State.blocked (s : State) (b : Boom) (p : Phase) : Bool :=
  p.uses.any fun k => s.valve.isFailed (.boom b k)

/-! ### Grants -/

/-- The grant of a function as the last computation gave it. -/
def Arbiter.grantOf (a : Arbiter) (f : Fn) : Nat :=
  match a.flow.find? (fun r => r.fn = f) with
  | some r => r.grant
  | none => 0

/-- The total of the ADMITTED reservations (R143). -/
def Arbiter.admittedSum (a : Arbiter) : Nat :=
  (if a.res.a.mark = .admitted then a.res.a.amount else 0) +
  (if a.res.b.mark = .admitted then a.res.b.amount else 0)

/-! ### Orders the manual leaves open (log entry 2) -/

/-- The list in the order the free value gives from count `n` on. -/
def freePermute {α : Type} : Nat → List α → Nat → List α
  | 0, l, _ => l
  | _, [], _ => []
  | fuel + 1, x :: xs, n =>
    let l := x :: xs
    let k := Config.freeOrder n % l.length
    l.getD k x :: freePermute fuel (l.eraseIdx k) (n + 1)

end Sys2Proof.Machine
end

