-- ==== Sys2Proof/Machine/Store.lean ====
section
/-! DEFINITION. The Hole Store and the Bit Rack (chapter 10): hole numbers, the opening and closing of a
record, the wear of the bits. -/

namespace Sys2Proof.Machine

/-! ### Hole numbers and records (R191) -/

/-- The number of records open and queued. -/
def Store.held (st : Store) : Nat :=
  st.queue.length + (if st.opened.a.isSome then 1 else 0) + (if st.opened.b.isSome then 1 else 0)

/-- The numbers of the open holes and the queued records. -/
def Store.numbers (st : Store) : List Nat :=
  (st.queue.map HoleRecord.number) ++ (st.opened.a.toList.map HoleRecord.number) ++
  (st.opened.b.toList.map HoleRecord.number)

/-- The number after `n`: after 65,535 it is 1. -/
def nextNumber (n : Nat) : Nat := if n < 65535 then n + 1 else 1

/-- The first number from `n` on that no open hole and no queued record holds; at most seven are held,
so eight values are enough (R191). -/
def freeNumber (used : List Nat) : Nat → Nat → Nat
  | 0, n => n
  | fuel + 1, n => if used.contains n then freeNumber used fuel (nextNumber n) else n

/-- A record as START_HOLE opens it (R4, R192). -/
def HoleRecord.fresh (number : Nat) (b : Boom) (pos : Nat) (spec : Spec) (bands : List Band)
    (params : List Nat) : HoleRecord :=
  { number := number, boom := b, bitPos := pos, spec := spec, bands := bands
    params := params, segments := [], layers := none, drilledDepth := none, drillOutcome := none
    plan := none, delivered := [], decision := none, mix := none, gel := none, torque := none
    profileFull := false, bitWorn := false, outcome := none, haltReason := none }

/-- The record of a hole number, open or queued. -/
def Store.find (st : Store) (n : Nat) : Option HoleRecord :=
  match (st.opened.a.toList ++ st.opened.b.toList).find? (fun r => r.number = n) with
  | some r => some r
  | none => st.queue.find? (fun r => r.number = n)

/-- Whether a hole number is that of an open hole. -/
def Store.isOpen (st : Store) (n : Nat) : Bool :=
  (st.opened.a.toList ++ st.opened.b.toList).any (fun r => r.number = n)

/-- The outcome of a record that closes with closing outcome `c` (R194). -/
def HoleRecord.derive (r : HoleRecord) : Option Closing → HoleOutcome
  | some .verdict =>
    let flagged := match r.plan with
      | some p => p.flags.anchorWeak || p.flags.shortResin
      | none => false
    let ok := match r.torque with
      | some t => t.verdict = some .ok
      | none => false
    if ok && !flagged && !r.profileFull then .complete else .completeFlagged
  | some .aborted => .aborted
  | some .faulted => .faulted
  | none => .aborted

/-! ### The Bit Table (R197) -/

/-- The position of a number. -/
def State.bitAt (s : State) (p : Nat) : BitPos := s.bits.getD p .reset

/-- Whether a wear reaches the limit (R197). -/
def State.wornOut (s : State) (wear : Nat) : Bool := s.live P.bitWearLimit * 1000000 ≤ wear

/-- Wear as shown, in kJ. -/
def BitPos.kj (p : BitPos) : Nat := p.wear / 1000000

/-- The boom a position is FITTED to. -/
def BitPos.boom? (p : BitPos) : Option Boom :=
  match p.state with
  | .fitted b => some b
  | _ => none

/-- The position fitted to a boom. -/
def State.fittedPos (s : State) (b : Boom) : Option Nat :=
  (List.range 8).find? fun p => (s.bitAt p).state = .fitted b

/-- Changes a position. -/
def State.modBit (s : State) (p : Nat) (f : BitPos → BitPos) : State :=
  s.modBits fun l => l.modify p f

/-- Sets BIT_WORN in the open record of the boom a position is fitted to, if it has one (R193, R198). -/
def State.markBitWorn (s : State) (p : BitPos) : State :=
  match p.boom? with
  | some b => s.modRec b fun r => { r with bitWorn := true }
  | none => s

/-- Evaluates the WORN flag of position `p` afresh; a flag that changes from clear to set sets BIT_WORN in
the fitted boom's record and sends a BIT report (R198). -/
def State.evalWorn (s : State) (p : Nat) : State :=
  let before := (s.bitAt p).worn
  let now := s.wornOut (s.bitAt p).wear
  let s := s.modBit p fun x => { x with worn := now }
  if now && !before then
    (s.markBitWorn (s.bitAt p)).report
      (.bit (.worn p (s.bitAt p).boom? (s.bitAt p).kj (s.live P.bitWearLimit)))
  else s

/-- Adds a segment's work to the wear of the open record's bit position (R53, R198). -/
def State.addWear (s : State) (b : Boom) (work : Nat) : State :=
  match s.rec? b with
  | none => s
  | some r =>
    (s.modBit r.bitPos fun x => { x with wear := min maxWear (x.wear + work) }).evalWorn r.bitPos

/-- The Bit Rack at the close of a hole: the hole count rises, and a bit at the limit is RETIRED (R199). -/
def State.bitClose (s : State) (b : Boom) (p : Nat) : State :=
  let s := s.modBit p fun x => { x with holes := min 65535 (x.holes + 1) }
  if s.wornOut (s.bitAt p).wear then
    let s := s.modBit p fun x => { x with state := .retired }
    s.report (.bit (.retired p b (s.bitAt p).kj (s.bitAt p).holes (s.live P.bitWearLimit)))
  else s

/-- The advised next bit: the SERVICEABLE position with the least wear, the lowest number among equals
(R202). -/
def State.advisedBit (s : State) : Option Nat :=
  (List.range 8).foldl (fun best p =>
    if (s.bitAt p).state = .serviceable then
      match best with
      | none => some p
      | some q => if (s.bitAt p).wear < (s.bitAt q).wear then some p else best
    else best) none

/-- The Store takes a close: the record, with its outcome, leaves its open slot and joins the tail of the
Completed Hole Queue, HOLE_CLOSED is sent, and the Bit Rack takes the close (R194, R199). -/
def State.closeRecord (s : State) (b : Boom) (closing : Option Closing) (reason : Option HaltReason) :
    State :=
  match s.rec? b with
  | none => s
  | some r =>
    let out := r.derive closing
    let why := if out = .faulted then reason else none
    let r' := { r with outcome := some out, haltReason := why }
    let s := s.modStore fun st =>
      { st with opened := st.opened.set b none, queue := st.queue ++ [r'] }
    let s := s.report (.holeClosed r.number b (some out) why (r.torque.bind TorqueResult.verdict)
      s.store.queue.length)
    s.bitClose b r.bitPos

end Sys2Proof.Machine
end

