-- ==== Sys2Proof/Machine/Profiler.lean ====
section
/-! DEFINITION. The Strata Profiler (chapter 2): the advance of a sample, specific energy, classes, the
Segment Table, the end of the profile and the Layer List. -/

namespace Sys2Proof.Machine

/-! ### The arithmetic of a segment (R47 to R49, R53) -/

/-- The numerator N of R47. -/
def seNum (sf st : Nat) : Nat := 271200 * sf + 28400000 * st

/-- The denominator D of R47. -/
def seDen (dia lseg : Nat) : Nat := 213 * (dia * dia) * lseg

/-- The rounded quotient of R47. -/
def seQuotient (sf st dia lseg : Nat) : Nat :=
  (seNum sf st + seDen dia lseg / 2) / seDen dia lseg

/-- Whether a segment is SATURATED (R48). -/
def seSaturated (sf st dia lseg : Nat) : Bool :=
  sf == satWork || st == satWork || 65535 < seQuotient sf st dia lseg

/-- The specific energy of a segment in J/cm³ (R47, R48). -/
def specificEnergy (sf st dia lseg : Nat) : Nat :=
  if seSaturated sf st dia lseg then 65535 else seQuotient sf st dia lseg

/-- The class of a specific energy under thresholds t1 to t4 (R49). -/
def classOf (t1 t2 t3 t4 se : Nat) : Cls :=
  if se < t1 then .void else if se < t2 then .soft else if se < t3 then .medium
  else if se < t4 then .hard else .veryHard

/-- The work of a segment in mJ (R53). -/
def segWork (sf st : Nat) : Nat := sf + st * 35500 / 339

/-- A sum that saturates at 4,294,967,295 (R44). -/
def satAdd (x y : Nat) : Nat := min satWork (x + y)

/-- The place of a class in the order of R49. -/
def Cls.rank : Cls → Nat
  | .void => 0
  | .soft => 1
  | .medium => 2
  | .hard => 3
  | .veryHard => 4

/-! ### The open segment (R44, R45) -/

/-- A new open segment (R44). -/
def OpenSeg.new (top : Nat) : OpenSeg :=
  { top := top, sf := 0, st := 0, lseg := 0, samples := 0, flags := .empty }

/-- The Profiler opens a segment at the next top. -/
def Profiler.openNext (p : Profiler) : Profiler := { p with openSeg := some (OpenSeg.new p.nextTop) }

/-- Hands a segment's work to the Bit Rack; a segment with no added sample hands none (R53, R54). -/
def State.handWork (s : State) (b : Boom) (g : OpenSeg) : State :=
  if g.samples = 0 then s else s.addWear b (segWork g.sf g.st)

/-- The Segment Table entry of a segment that closes at bottom `bottom` (R50). -/
def OpenSeg.entry (g : OpenSeg) (r : HoleRecord) (bottom : Nat) (flags : SegFlags) : Segment :=
  let se := specificEnergy g.sf g.st r.spec.holeDia g.lseg
  { index := r.segments.length, top := g.top, bottom := bottom, samples := g.samples, se := se
    cls := classOf (r.params.getD P.t1 0) (r.params.getD P.t2 0) (r.params.getD P.t3 0)
      (r.params.getD P.t4 0) se
    flags := { flags with saturated := seSaturated g.sf g.st r.spec.holeDia g.lseg } }

/-- The open segment closes at the maximum depth: it is appended with its SEGMENT report, or discarded
with PROFILE_FULL when the table holds 128 entries (R50 to R52); its class becomes the Governor's class
in force (R49, R66), its work goes to the Bit Rack (R53) and the next top moves to its bottom (R45). -/
def State.closeSegment (s : State) (b : Boom) (collar part : Bool) : State :=
  match (s.prof.get b).openSeg, s.rec? b with
  | some g, some r =>
    let e := g.entry r (s.prof.get b).maxDepth
      { g.flags with collar := g.flags.collar || collar, partialSeg := g.flags.partialSeg || part }
    let s := if r.segments.length < 128
      then (s.modRec b fun x => { x with segments := x.segments ++ [e] }).report
        (.segment b r.number e.index e.bottom e.se e.cls e.flags)
      else s.modRec b fun x => { x with profileFull := true }
    let s := s.modGov b fun x => { x with cls := some e.cls }
    let s := s.handWork b g
    s.modProf b fun p => { p with nextTop := p.maxDepth, openSeg := none }
  | _, _ => s

/-! ### Taking a sample (R40 to R45) -/

/-- The depth of a feed position (R40). -/
def Profiler.depthOf (p : Profiler) (feed : Nat) : Nat := feed - p.collarRef.getD feed

/-- The advance of a depth (R41). -/
def Profiler.advance (p : Profiler) (depth : Nat) : Nat := depth - p.maxDepth

/-- Adds a sample to the open segment (R44). -/
def OpenSeg.add (g : OpenSeg) (thrust torque pulses adv : Nat) : OpenSeg :=
  { g with sf := satAdd g.sf (thrust * adv), st := satAdd g.st (torque * pulses)
           lseg := g.lseg + adv, samples := g.samples + 1 }

/-- The Profiler takes the boom's sample in RUNNING: the depth and the maximum depth follow, an advance of
1 to 40 is added to the open segment, and a greater one is an encoder jump (R40 to R42, R44). -/
def Profiler.take (p : Profiler) (feed thrust torque pulses : Nat) : Profiler :=
  let depth := p.depthOf feed
  let adv := p.advance depth
  let p := { p with depth := depth, maxDepth := p.maxDepth + adv }
  if 40 < adv then
    { p with
      jumps := p.jumps + 1
      openSeg := p.openSeg.map fun g => { g with flags := { g.flags with encoderJump := true } } }
  else if 0 < adv then { p with openSeg := p.openSeg.map fun g => g.add thrust torque pulses adv }
  else p

/-- Whether the open segment has reached 20 mm (R45). -/
def Profiler.full (p : Profiler) : Bool :=
  match p.openSeg with
  | some g => 200 ≤ g.lseg
  | none => false

/-- The Profiler takes the sample of boom `b`, and closes the open segment when it is full (R40 to R46). -/
def State.profSample (s : State) (b : Boom) (pulses : Nat) : State :=
  if (s.prof.get b).mode ≠ .running then s
  else
    let collar := (s.seq.get b).state = .collaring
    let h := s.head.get b
    let s := s.modProf b fun p => p.take h.feed h.thrust h.torque pulses
    if (s.prof.get b).full then (s.closeSegment b collar false).modProf b Profiler.openNext else s

/-! ### The Layer List (R57 to R60) -/

/-- A layer under construction: its class and its segments, the topmost first. -/
abbrev RawLayer := Cls × List Segment

/-- First step: one layer from each run of segments of one class (R57). -/
def layerRuns : List Segment → List RawLayer
  | [] => []
  | x :: xs =>
    match layerRuns xs with
    | (c, g) :: rest => if x.cls = c then (c, x :: g) :: rest else (x.cls, [x]) :: (c, g) :: rest
    | [] => [(x.cls, [x])]

/-- Whether a layer is a spike between two layers: one segment, not VOID, its neighbours of one class
(R58). -/
def isSpike (above cur below : RawLayer) : Bool :=
  cur.2.length == 1 && cur.1 != .void && above.1 == below.1

/-- Second step: the pass down the layers that absorbs spikes; `above` is the layer above the one
examined (R58). -/
def absorbFrom (above : RawLayer) : List RawLayer → List RawLayer
  | [] => [above]
  | cur :: rest =>
    match rest with
    | [] => [above, cur]
    | below :: rest' =>
      if isSpike above cur below then absorbFrom (above.1, above.2 ++ cur.2 ++ below.2) rest'
      else above :: absorbFrom cur (below :: rest')

/-- Second step over a whole list. -/
def absorbSpikes : List RawLayer → List RawLayer
  | [] => []
  | first :: rest => absorbFrom first rest

/-- The hardest class of a list of layers. -/
def hardest (ls : List RawLayer) : Cls :=
  ls.foldl (fun c l => if c.rank < l.1.rank then l.1 else c) .void

/-- Third step: the thirty-second layer and every layer below it merge (R59). -/
def capLayers (ls : List RawLayer) : List RawLayer :=
  if ls.length ≤ 32 then ls
  else ls.take 31 ++ [(hardest (ls.drop 31), (ls.drop 31).flatMap Prod.snd)]

/-- The fields of a layer (R60). -/
def RawLayer.toLayer (l : RawLayer) : Layer :=
  let ses := l.2.map Segment.se
  { top := (l.2.head?.map Segment.top).getD 0 / 10
    bottom := (l.2.getLast?.map Segment.bottom).getD 0 / 10
    cls := l.1, count := l.2.length
    minSe := ses.foldl min (ses.headD 0), maxSe := ses.foldl max 0
    meanSe := ses.sum / l.2.length }

/-- The Layer List of a Segment Table (R57 to R60). -/
def buildLayers (segs : List Segment) : List Layer :=
  (capLayers (absorbSpikes (layerRuns segs))).map RawLayer.toLayer

/-! ### The end of the profile (R54, R55) -/

/-- A remnant that will close at a sample taken in COLLARING carries COLLAR (R46). -/
def State.markCollar (s : State) (b : Boom) : State :=
  s.modProf b fun p =>
    { p with openSeg := p.openSeg.map fun x => { x with flags := { x.flags with collar := true } } }

/-- The remnant closes as a PARTIAL segment with 5 mm or more, and is discarded otherwise, handing its
work (R54). -/
def State.takeRemnant (s : State) (b : Boom) : State :=
  match (s.prof.get b).openSeg with
  | some g => if 50 ≤ g.lseg then s.closeSegment b false true else s.handWork b g
  | none => s

/-- The profile ends: the remnant is taken, the drilled depth and the Layer List are written into the open
record, and the Profiler enters ENDED (R54, R55). The current depth stays that of the last sample taken (log
entry 38). -/
def State.endProfile (s : State) (b : Boom) : State :=
  let s := s.takeRemnant b
  let dd := (s.prof.get b).maxDepth
  let s := s.modRec b fun r =>
    { r with drilledDepth := some dd, layers := some (buildLayers r.segments) }
  s.modProf b fun p => { p with mode := .ended, openSeg := none }

/-- The Profiler is armed at entry into COLLARING (R38). -/
def Profiler.arm (_ : Profiler) : Profiler := { Profiler.reset with mode := .armed }

/-- First contact at feed position `feed` (R39). -/
def Profiler.contact (p : Profiler) (feed : Nat) : Profiler :=
  { p with mode := .running, collarRef := some feed, depth := 0, maxDepth := 0, nextTop := 0
           openSeg := some (OpenSeg.new 0) }

/-- The redrill opens a new segment at the next top (R56). -/
def Profiler.redrill (p : Profiler) : Profiler := { p with mode := .running }.openNext

end Sys2Proof.Machine
end

