-- ==== Sys2Proof/Machine/Planner.lean ====
section
/-! DEFINITION. The Resin Planner (chapter 4): it holds nothing; everything it reads and writes is in the
open Hole Record. -/

namespace Sys2Proof.Machine

/-- A value of the record's parameter copy. -/
def HoleRecord.param (r : HoleRecord) (i : Nat) : Nat := r.params.getD i 0

/-- Drilled depth Dd in whole millimetres (R54). -/
def HoleRecord.dd (r : HoleRecord) : Nat := r.drilledDepth.getD 0 / 10

/-- The bolt tip Bt (R86). -/
def HoleRecord.boltTip (r : HoleRecord) : Nat := r.spec.boltLen - r.param P.tailLength

/-- Whether a segment lies wholly or partly between two depths in mm (R88, R89). -/
def Segment.within (x : Segment) (lo hi : Nat) : Bool := x.top < hi * 10 && lo * 10 < x.bottom

/-- The encapsulated length Le (R88). -/
def HoleRecord.encapsulated (r : HoleRecord) : Nat := r.boltTip - r.param P.collarAllowance

/-- The number of voids nv in the encapsulated length (R88). -/
def HoleRecord.voids (r : HoleRecord) : Nat :=
  if r.encapsulated = 0 then 0
  else (r.segments.filter fun x =>
    x.cls = .void && x.within (r.param P.collarAllowance) r.boltTip).length

/-- Whether the anchor zone is weak: a VOID or SOFT segment lies in it (R89). -/
def HoleRecord.anchorWeak (r : HoleRecord) : Bool :=
  r.segments.any fun x =>
    (x.cls = .void || x.cls = .soft) && x.within (r.boltTip - r.param P.anchorZone) r.boltTip

/-- The required annulus volume Vreq, in 10⁻⁴ mm³ less π/4 (R92). -/
def HoleRecord.volume (r : HoleRecord) (le nv : Nat) : Nat :=
  (r.spec.holeDia * r.spec.holeDia - r.spec.boltDia * r.spec.boltDia) *
  (100 * le + 20 * r.param P.voidExtra * nv)

/-- The volume of one fast cartridge Vf (R92). -/
def HoleRecord.fastVolume (r : HoleRecord) : Nat :=
  r.param P.fastDia * r.param P.fastDia * r.param P.fastLen * 100

/-- The volume of one slow cartridge Vs (R92). -/
def HoleRecord.slowVolume (r : HoleRecord) : Nat :=
  r.param P.slowDia * r.param P.slowDia * r.param P.slowLen * 100

/-- The slow count before the limit: the exact ceiling of the residue over 100 × Vs, or 0 (R93). -/
def HoleRecord.slowCount (r : HoleRecord) (vreq nfEff : Nat) : Nat :=
  let need := vreq * (100 + r.param P.waste)
  let supply := 100 * nfEff * r.fastVolume
  if need ≤ supply then 0
  else (need - supply + 100 * r.slowVolume - 1) / (100 * r.slowVolume)

/-- The volume step and the steps after it: volumes, slow count, the limit of eight and the type list
(R92 to R95). -/
def HoleRecord.complete (r : HoleRecord) (p : Plan) (nfEff : Nat) : Plan :=
  let vreq := r.volume (p.le.getD 0) (p.nv.getD 0)
  let ns0 := r.slowCount vreq nfEff
  let tooMany := 8 < nfEff + ns0
  let ns := if tooMany then 8 - nfEff else ns0
  { p with
    status := .ready
    flags := { p.flags with shortResin := tooMany }
    nfEff := some nfEff, vreq := some vreq, ns := some ns
    types := some (List.replicate nfEff .fast ++ List.replicate ns .slow) }

/-- What a plan call returns to the Sequencer (R84). -/
inductive PlanResult where
  | ready | boltLong | anchorWeak
deriving DecidableEq, Repr

/-- The plan as the bolt tip step begins it: pass 2 after a redrill, else 1 (R85, R86, R96). -/
def HoleRecord.newPlan (r : HoleRecord) : Plan :=
  { pass := if r.decision = some .redrill then 2 else 1
    status := .held, dd := r.dd, bt := r.boltTip
    flags := { boltLong := false, anchorWeak := false, shortResin := false }
    le := none, nv := none, nfEff := none, vreq := none, ns := none, types := none }

/-- The plan call (R86, R88 to R90). -/
def HoleRecord.planCall (r : HoleRecord) : Plan × PlanResult :=
  let p := r.newPlan
  if r.dd < r.boltTip then
    ({ p with flags := { p.flags with boltLong := true } }, .boltLong)
  else
    let p := { p with le := some r.encapsulated, nv := some r.voids
                      flags := { p.flags with anchorWeak := r.anchorWeak } }
    if !r.anchorWeak then (r.complete p r.spec.fastCount, .ready)
    else if r.param P.anchorPolicy = 0 then (r.complete p (r.spec.fastCount + 1), .ready)
    else (p, .anchorWeak)

/-- The choices a BOLT_LONG plan offers: REDRILL is barred by a STOP band whose top is less than Bt
(R10, R87). -/
def HoleRecord.boltLongChoices (r : HoleRecord) : ChoiceSet :=
  let barred := r.bands.any fun x => x.attr = .stop && x.top < r.boltTip
  { ChoiceSet.empty with redrill := !barred, abandon := true }

/-- The choices an ANCHOR_WEAK plan offers (R10). -/
def anchorWeakChoices : ChoiceSet :=
  { ChoiceSet.empty with proceed := true, extraFast := true, abandon := true }

end Sys2Proof.Machine
end

