-- ==== Sys2Proof/Machine/Governor.lean ====
section
/-! DEFINITION. The Drill Governor (chapter 3): its stages, targets and demands, the end conditions of
drilling, stalls and back-off. -/

namespace Sys2Proof.Machine

/-! ### Targets and demands (R64 to R68) -/

/-- FEED_DOWN at the approach feed: the demand of RETRACTING, RELEASING and a back-off (R10, R16, R73). -/
def State.approachFlow (s : State) (b : Boom) : Nat := s.hp b P.approachFeed * s.hp b P.feedFlowScale

/-- The rotation demand of an rpm (R64, R68, R100, R105, R113). -/
def State.rotFlow (s : State) (b : Boom) (rpm : Nat) : Nat := rpm * s.hp b P.rotDisplacement / 100

/-- The FEED_UP demand stepped by thrust against a cap (R68). -/
def feedStep (full cap thrust : Nat) : Nat :=
  if thrust ≤ cap then full else if thrust ≤ cap * 5 / 4 then full / 2 else 0

/-- The approach demands (R64). -/
def State.approachDemands (s : State) (b : Boom) (g : Governor) : Governor :=
  { g with feedUp := s.approachFlow b, feedDown := 0
           rotFwd := s.rotFlow b (s.hp b P.collarRpm), flush := true }

/-- The back-off demands (R73). -/
def State.backoffDemands (s : State) (b : Boom) (g : Governor) : Governor :=
  { g with feedUp := 0, rotFwd := 0, feedDown := s.approachFlow b, flush := true }

/-- The demands computed from the targets and a sample's thrust (R68). -/
def State.targetDemands (s : State) (b : Boom) (thrust : Nat) (g : Governor) : Governor :=
  { g with feedUp := feedStep (g.feedTarget * s.hp b P.feedFlowScale) g.thrustCap thrust
           feedDown := 0, rotFwd := s.rotFlow b g.rpmTarget, flush := true }

/-- The collar targets, which CLIMB has too (R65, R79). -/
def State.collarTargets (s : State) (b : Boom) (g : Governor) : Governor :=
  { g with feedTarget := s.hp b P.collarFeed, rpmTarget := s.hp b P.collarRpm
           thrustCap := s.hp b (P.thrustCap + Cls.soft.rank) }

/-- Whether a band contains a maximum depth in tenths (R67). -/
def Band.holds (x : Band) (maxDepth : Nat) : Bool :=
  x.top * 10 ≤ maxDepth && maxDepth < x.bottom * 10

/-- A target limited by the band in force: a CAUTION band gives the lesser value (R67). -/
def bandLimit (band : Option Band) (limit : Band → Nat) (setpoint : Nat) : Nat :=
  match band with
  | some x => if x.attr = .caution then min setpoint (limit x) else setpoint
  | none => setpoint

/-- The band copy of boom `b`'s open record. -/
def State.bandCopy (s : State) (b : Boom) : List Band := ((s.rec? b).map HoleRecord.bands).getD []

/-- The band in force: the index of the band of the record's copy that contains the maximum depth (R62). -/
def State.bandInForce (s : State) (b : Boom) : Option Nat :=
  (s.bandCopy b).findIdx? fun x => x.holds (s.prof.get b).maxDepth

/-- The targets in CUT: the class setpoints, an absent class being taken as MEDIUM, limited by the band
in force (R66, R67). -/
def State.cutTargets (s : State) (b : Boom) (g : Governor) : Governor :=
  let k := (g.cls.getD .medium).rank
  let x := (s.bandInForce b).bind fun j => (s.bandCopy b)[j]?
  { g with feedTarget := bandLimit x Band.feed (s.hp b (P.feedTarget + k))
           rpmTarget := bandLimit x Band.rpm (s.hp b (P.rpmTarget + k))
           thrustCap := bandLimit x Band.thrust (s.hp b (P.thrustCap + k)) }

/-- The Governor goes OFF: demands 0 and FLUSH off (R63); what R63 does not list as kept is as at reset, and
the retry state and its target are kept whatever took the Governor OFF (log entry 15). -/
def Governor.off (g : Governor) : Governor :=
  { g with stage := .off, feedTarget := 0, rpmTarget := 0, thrustCap := 0, band := none
           feedUp := 0, feedDown := 0, rotFwd := 0, flush := false, flushTimer := .zero }

/-- The Governor enters APPROACH (R63, R64). The feed position the head holds is taken as the last sample's
(log entry 28). -/
def State.startApproach (s : State) (b : Boom) : State :=
  let feed := (s.head.get b).feed
  s.modGov b fun g => s.approachDemands b
    { g.off with stage := .approach, cls := none, outcome := none, backingOff := false
                 backoffTarget := 0, approachStall := false, lastFeed := feed, band := s.bandInForce b }

/-- The Governor enters CLIMB (R79): its demands follow from the samples of the climb, and until the first
one they are computed from the latest sample (log entry 16), whose feed position is taken as the last
sample's (log entry 28). -/
def State.startClimb (s : State) (b : Boom) : State :=
  let h := s.head.get b
  s.modGov b fun g => s.targetDemands b h.thrust (s.collarTargets b
    { g with stage := .climb, backingOff := false, lastFeed := h.feed, band := s.bandInForce b })

/-! ### The end of drilling (R69, R70) -/

/-- Whether the maximum depth has reached the planned depth of the record's spec. -/
def State.plannedReached (s : State) (b : Boom) : Bool :=
  match s.rec? b with
  | some r => r.spec.planned * 10 ≤ (s.prof.get b).maxDepth
  | none => false

/-- Whether the record's band copy holds a STOP band whose top the maximum depth has reached. -/
def State.stopReached (s : State) (b : Boom) : Bool :=
  match s.rec? b with
  | some r => r.bands.any fun x => x.attr = .stop && x.top * 10 ≤ (s.prof.get b).maxDepth
  | none => false

/-- The drilling outcome by the first test of R69. -/
def State.drillOutcome (s : State) (b : Boom) : DrillOutcome :=
  if s.plannedReached b then .planned else .shortByPlan

/-- The Governor hands the drilling outcome, which is written beside the drilled depth, and goes OFF
(R69, R70). -/
def State.endGovernor (s : State) (b : Boom) : State :=
  let o := s.drillOutcome b
  let s := s.modGov b fun g => { g.off with outcome := some o }
  s.modRec b fun r => { r with drillOutcome := some o }

/-- The profile and the Governor's work end when the boom leaves the drilling phases by a failure, an abort
or an emergency stop (R55, R70). -/
def State.leaveDrilling (s : State) (b : Boom) : State := (s.endProfile b).endGovernor b

/-! ### Pause and resume (R71) -/

/-- The Governor at the boom's entry into PAUSED: feed and rotation 0, FLUSH kept on (R71). -/
def Governor.pause (g : Governor) : Governor :=
  { g with feedUp := 0, feedDown := 0, rotFwd := 0, flushTimer := .zero }

/-- The Governor at the boom's return (R71). The back-off demands come first (R76, log entry 17). -/
def State.resumeGovernor (s : State) (b : Boom) : State :=
  let s := s.modGov b fun g =>
    if g.backingOff then s.backoffDemands b g
    else if g.stage = .approach then s.approachDemands b g
    else g
  s.clearRotation b

/-! ### Samples (R63 to R69, R74, R80) -/

/-- What the Governor reports to the Sequencer from a sample. -/
inductive GovReport where
  | none | contact | collarDrilled | endOfDrilling
deriving DecidableEq, Repr

/-- Ends the back-off at a sample whose feed position is at or below the target (R74). -/
def State.endBackoff (s : State) (b : Boom) : State :=
  let g := s.gov.get b
  if g.backingOff && (s.head.get b).feed ≤ g.backoffTarget then
    (s.modGov b fun g => { g with backingOff := false, feedDown := 0 }).clearRotation b
  else s

/-- The targets of the stage (R65, R67, R79). -/
def State.stageTargets (s : State) (b : Boom) (g : Governor) : Governor :=
  match g.stage with
  | .collar => s.collarTargets b g
  | .climb => s.collarTargets b g
  | .cut => s.cutTargets b g
  | .approach => g
  | .off => g

/-- Sets the band in force and the stage's targets at the sample, and computes its demands from them while
the retry state is READY (R62, R64 to R68, R80). -/
def State.stageDemands (s : State) (b : Boom) : State :=
  let thrust := (s.head.get b).thrust
  s.modGov b fun g =>
    let g := s.stageTargets b { g with band := s.bandInForce b }
    if g.backingOff then g
    else if g.stage = .approach then s.approachDemands b g
    else s.targetDemands b thrust g

/-- The Governor takes the boom's sample, after the Profiler where the Profiler takes it; `adv` is the
sample's advance and `drilling` says that the boom was in DRILLING at its arrival (R63 to R69, R74, R80). -/
def State.govSample (s : State) (b : Boom) (adv : Nat) (drilling : Bool) : State × GovReport :=
  let h := s.head.get b
  let s := s.modGov b fun g => { g with lastFeed := h.feed }
  match (s.gov.get b).stage with
  | .off => (s, .none)
  | .approach =>
    if s.hp b P.contactThrust ≤ h.thrust then
      let s := s.modProf b fun p => p.contact h.feed
      let s := s.modGov b fun g => { g with stage := .collar, approachStall := false }
      ((s.endBackoff b).stageDemands b, .contact)
    else ((s.endBackoff b).stageDemands b, .none)
  | .collar =>
    if s.hp b P.collarLength * 10 ≤ (s.prof.get b).maxDepth then
      let s := s.modGov b fun g => { g with stage := .cut }
      ((s.endBackoff b).stageDemands b, .collarDrilled)
    else ((s.endBackoff b).stageDemands b, .none)
  | .climb =>
    if drilling && (s.plannedReached b || s.stopReached b) then (s, .endOfDrilling)
    else
      let s := if 0 < adv then s.modGov b fun g => { g with stage := .cut } else s
      ((s.endBackoff b).stageDemands b, .none)
  | .cut =>
    if drilling && (s.plannedReached b || s.stopReached b) then (s, .endOfDrilling)
    else ((s.endBackoff b).stageDemands b, .none)

/-! ### Stalls (R72 to R75) -/

/-- Whether an overflow of boom `b` is a stall (R72). -/
def State.isStall (s : State) (b : Boom) : Bool :=
  let q := s.seq.get b
  let g := s.gov.get b
  (q.state = .collaring || q.state = .drilling) && g.stage ≠ .off && !g.backingOff &&
  0 < s.arb.grantOf (.boom b .rotFwd)

/-- Whether a stall is a second stall: the approach stall mark in APPROACH, STALL_RETRY of the open segment
after contact (R73, R75). -/
def State.secondStall (s : State) (b : Boom) : Bool :=
  let g := s.gov.get b
  if g.stage = .approach then g.approachStall
  else match (s.prof.get b).openSeg with
    | some x => x.flags.stallRetry
    | none => false

/-- A first stall: the mark or the flag is set and the back-off begins (R73). -/
def State.startBackoff (s : State) (b : Boom) : State :=
  let approach := (s.gov.get b).stage = .approach
  let s := if approach then s.modGov b fun g => { g with approachStall := true }
    else s.modProf b fun p =>
      { p with openSeg := p.openSeg.map fun x => { x with flags := { x.flags with stallRetry := true } } }
  s.modGov b fun g => s.backoffDemands b
    { g with backingOff := true, backoffTarget := g.lastFeed - s.hp b P.stallBackoff * 10 }

end Sys2Proof.Machine
end

