-- ==== Sys2Proof/Machine/Setting.lean ====
section
/-! DEFINITION. The Setting Controller (chapter 5): pushing, mixing, the gel hold, torquing and the results
it writes. -/

namespace Sys2Proof.Machine

/-! ### Demands (R100, R105, R111, R113) -/

/-- The push demands (R100). -/
def State.pushDemands (s : State) (b : Boom) (c : Setting) : Setting :=
  { c with feedUp := s.hp b P.pushFeed * s.hp b P.feedFlowScale
           rotFwd := s.rotFlow b (s.hp b P.pushRpm) }

/-- The SETTING demands with rotation at `rpm` (R105, R113). -/
def State.settingDemands (s : State) (b : Boom) (rpm : Nat) (c : Setting) : Setting :=
  { c with feedUp := s.hp b P.holdFeedFlow, rotFwd := s.rotFlow b rpm }

/-- The reservation Rb (R103). -/
def State.reservationOf (s : State) (b : Boom) : Nat :=
  s.rotFlow b (s.hp b P.mixRpm) + s.hp b P.holdFeedFlow

/-- The Controller enters PUSH: the push origin is the feed position of the latest sample (R100). -/
def State.startPush (s : State) (b : Boom) : State :=
  let feed := (s.head.get b).feed
  s.modSett b fun c => s.pushDemands b
    { c with stage := .push, pushOrigin := some feed, pushAdvance := 0 }

/-- The Controller enters MIX (R105). -/
def State.startMix (s : State) (b : Boom) : State :=
  let s := s.modSett b fun c => s.settingDemands b (s.hp b P.mixRpm)
    { c with stage := .mix, mixPulses := 0, stallSeen := false }
  s.clearRotation b

/-- The gel factor of a temperature (section 5.4). -/
def gelFactor (t : Int) : Nat :=
  if t < 5 then 200 else if t < 15 then 150 else if t < 25 then 100 else if t < 35 then 80 else 60

/-- The hold time in 0.1 s: rounded half away from zero and clamped to 5 to 1,200 (R110). -/
def holdTime (base factor : Nat) : Nat := max 5 (min 1200 ((base * factor + 50) / 100))

/-- The Controller enters HOLD: the hold time is computed and written with elapsed time 0, and the gel hold
timer starts (R110, R111). -/
def State.startHold (s : State) (b : Boom) : State :=
  let t := (s.head.get b).temp
  let f := gelFactor t
  let hold := holdTime (s.hp b P.fastGelBase) f
  let s := s.modSett b fun c =>
    { c with stage := .hold, gelTemp := t, gelFactor := f, holdTime := hold, gelTimer := .start
             feedUp := s.hp b P.holdFeedFlow, rotFwd := 0 }
  s.modRec b fun r => { r with gel := some { temp := t, factor := f, hold := hold, elapsed := 0 } }

/-- The Controller enters TORQUE (R113). -/
def State.startTorque (s : State) (b : Boom) : State :=
  let s := s.modSett b fun c => s.settingDemands b (s.hp b P.torqueRpm)
    { c with stage := .torque, turns := 0, angle := 0, peak := 0, snug := none, verdict := none }
  s.clearRotation b

/-! ### Results (R107, R111, R112, R118) -/

/-- Writes the mix result with its end; the time is read from the Sequencer's phase timer (R107). -/
def State.writeMix (s : State) (b : Boom) (e : MixEnd) : State :=
  let c := s.sett.get b
  let t := (s.seq.get b).timer.ms
  s.modRec b fun r =>
    { r with mix := some { pulses := c.mixPulses, revs := c.mixPulses / 60, timeMs := t
                           stallSeen := c.stallSeen, ending := e } }

/-- Writes an elapsed time into the gel hold field. -/
def State.writeElapsed (s : State) (b : Boom) (ms : Nat) : State :=
  s.modRec b fun r => { r with gel := r.gel.map fun g => { g with elapsed := ms } }

/-- A gel hold that ends before its timer expires: the timer stops and the elapsed time counted is written;
one that has expired is left as it is (R111, R112). -/
def State.cutHold (s : State) (b : Boom) : State :=
  let t := (s.sett.get b).gelTimer
  if t.running then (s.writeElapsed b t.ms).modSett b fun c => { c with gelTimer := c.gelTimer.hold }
  else s

/-- Writes the torque result (R118). -/
def State.writeTorque (s : State) (b : Boom) : State :=
  let c := s.sett.get b
  s.modRec b fun r =>
    { r with torque := some { peak := c.peak, snug := c.snug, angle := c.angle, turns := c.turns
                              verdict := c.verdict } }

/-- The Controller goes OFF with demands 0 (R99). -/
def Setting.off (c : Setting) : Setting := { c with stage := .off, feedUp := 0, rotFwd := 0 }

/-- The results the Controller writes when the boom leaves phase `p` for HALTED, STOPPED or RELEASING, the
mix ending as `e` says; then it goes OFF (R99, R107, R112, R118). A boom PAUSED with return phase MIXING
has not entered MIXING and has no mix result. -/
def State.leaveSetting (s : State) (b : Boom) (p : Phase) (e : MixEnd) : State :=
  match p with
  | .boltPush => s.modSett b Setting.off
  | .mixWait => s.modSett b Setting.off
  | .mixing =>
    if (s.seq.get b).state = .mixing then (s.writeMix b e).modSett b Setting.off
    else s.modSett b Setting.off
  | .gelHold => (s.cutHold b).modSett b Setting.off
  | .torquing => (s.writeTorque b).modSett b Setting.off
  | _ => s

/-! ### Pause and resume (R102, R111, R117) -/

/-- The Controller's demands at the boom's entry into PAUSED from phase `p`. -/
def Setting.pause (p : Phase) (c : Setting) : Setting :=
  match p with
  | .boltPush => { c with feedUp := 0, rotFwd := 0 }
  | .torquing => { c with rotFwd := 0 }
  | _ => c

/-! ### Samples, pulses and overflows (R101, R106, R108, R114, R115) -/

/-- What the Controller reports to the Sequencer. -/
inductive SetReport where
  | none | seated | blocked | verdict (v : Verdict)
deriving DecidableEq, Repr

/-- The seat distance of a bolt length, in tenths (R101). -/
def seatDistance (boltLen : Nat) : Nat := (boltLen - 200) * 10

/-- The Controller takes a sample in BOLT_PUSH (R100, R101). -/
def State.pushSample (s : State) (b : Boom) : State × SetReport :=
  let h := s.head.get b
  let s := s.modSett b fun c => { c with pushAdvance := h.feed - c.pushOrigin.getD h.feed }
  let lb := ((s.rec? b).map fun r => r.spec.boltLen).getD 0
  if h.thrust < s.hp b P.seatThrust then (s, .none)
  else
    let r := if seatDistance lb ≤ (s.sett.get b).pushAdvance then SetReport.seated else .blocked
    (s.modSett b fun c => { c with feedUp := 0, rotFwd := 0 }, r)

/-- The torquing figures after a sample of `p` pulses and torque `t`: the turn count, the peak, the snug
point and the angle (R114). -/
def Setting.torqueStep (c : Setting) (snugTorque p t : Nat) : Setting :=
  let c := { c with turns := c.turns + p, peak := max c.peak t }
  match c.snug with
  | some _ => { c with angle := min 65535 (c.angle + p) }
  | none => if snugTorque ≤ t then { c with snug := some c.turns } else c

/-- The verdict at a sample of torque `t` (R115). -/
def Setting.judge (c : Setting) (target angleMin angleMax t : Nat) : Option Verdict :=
  if target ≤ t then
    if c.angle < angleMin then some .early else if angleMax < c.angle then some .slip else some .ok
  else if angleMax < c.angle then some .slip else none

/-- The Controller takes a sample in TORQUING (R114, R115). -/
def State.torqueSample (s : State) (b : Boom) (pulses : Nat) : State × SetReport :=
  let h := s.head.get b
  let s := s.modSett b fun c => c.torqueStep (s.hp b P.snugTorque) pulses h.torque
  match (s.sett.get b).judge (s.hp b P.torqueTarget) (s.hp b P.angleMin) (s.hp b P.angleMax) h.torque with
  | some v => (s, .verdict v)
  | none => (s, .none)

/-- The pulse count that ends a mix (R106). -/
def State.mixGoal (s : State) (b : Boom) : Nat := s.hp b P.mixRevs * 60

end Sys2Proof.Machine
end

