-- ==== Sys2Proof/Machine/Arbiter.lean ====
section
/-! DEFINITION. The Flow Arbiter's arithmetic (chapter 7): whose value each asked demand is, the flow
classes, the withheld demands, the grant computation and the fit of a reservation. -/

namespace Sys2Proof.Machine

/-- The jog setpoint of a function of a boom (R32). -/
def Jogs.get (j : Jogs) : FnKind → Nat
  | .jackUp => j.jackUp
  | .jackDown => j.jackDown
  | .feedUp => j.feedUp
  | .feedDown => j.feedDown
  | .rotFwd => j.rotFwd
  | .rotRev => j.rotRev
  | .flush => if j.flush then 1 else 0

/-- The Drill Governor's demand for a function. -/
def Governor.demand (g : Governor) : FnKind → Nat
  | .feedUp => g.feedUp
  | .feedDown => g.feedDown
  | .rotFwd => g.rotFwd
  | _ => 0

/-- The Setting Controller's demand for a function. -/
def Setting.demand (c : Setting) : FnKind → Nat
  | .feedUp => c.feedUp
  | .rotFwd => c.rotFwd
  | _ => 0

/-- The demand of the block that owns a boom's functions in phase `p`, a PAUSED boom's owners having put
the paused demands of R19 (the table of R144). -/
def State.phaseDemand (s : State) (b : Boom) (p : Phase) (k : FnKind) : Nat :=
  match p with
  | .jackSet => if k = .jackUp then (s.seq.get b).jackUp else 0
  | .collaring => (s.gov.get b).demand k
  | .drilling => (s.gov.get b).demand k
  | .retracting => if k = .feedDown then (s.seq.get b).feedDown else 0
  | .boltPush => (s.sett.get b).demand k
  | .mixing => (s.sett.get b).demand k
  | .gelHold => (s.sett.get b).demand k
  | .torquing => (s.sett.get b).demand k
  | .releasing =>
    if k = .feedDown then (s.seq.get b).feedDown
    else if k = .jackDown then (s.seq.get b).jackDown else 0
  | _ => 0

/-- The asked demand of a function: the value put by the block that owns it (R144). The functions of an
absent boom B ask nothing (R143). -/
def State.asked (s : State) : Fn → Nat
  | .index => s.idx.demand + s.indexJog
  | .tram => 0
  | .boom b k =>
    if !s.present b then 0
    else match (s.seq.get b).state with
      | .manual => (s.seq.get b).jogs.get k
      | .halted => (s.seq.get b).jogs.get k
      | _ => s.phaseDemand b (s.phase b) k

/-- The flow class of a function (R145). -/
def State.flowClass (s : State) : Fn → FlowClass
  | .boom _ .jackUp => .support
  | .boom _ .jackDown => .support
  | .boom b .feedUp => if (s.phase b).setting then .setting else .work
  | .boom b .rotFwd => if (s.phase b).setting then .setting else .work
  | _ => .work

/-- The cause that withholds a function's demand, the first that applies (R146). -/
def State.withheld (s : State) (f : Fn) : Withheld :=
  if s.arb.estop then .estop
  else if s.valve.isFailed f then .failed
  else if s.arb.methane && f.isRotation then .methane
  else .none

/-- The effective demand (R146). -/
def State.effective (s : State) (f : Fn) : Nat :=
  if s.withheld f = .none then s.asked f else 0

/-- The SUPPORT total (R154). -/
def State.supportTotal (s : State) : Nat :=
  s.effective (.boom .A .jackUp) + s.effective (.boom .B .jackUp) +
  s.effective (.boom .A .jackDown) + s.effective (.boom .B .jackDown)

/-! ### The grant computation (R147) -/

/-- The class total of a list of records. -/
def classTotal (rs : List FlowRec) (c : FlowClass) : Nat :=
  ((rs.filter (fun r => r.cls = c)).map FlowRec.effective).sum

/-- The flow granted to a class. -/
def classGranted (rs : List FlowRec) (c : FlowClass) : Nat :=
  ((rs.filter (fun r => r.cls = c)).map FlowRec.grant).sum

/-- The share of an effective demand of a class with total `total`, out of `remaining` (R147). -/
def grantShare (total remaining eff : Nat) : Nat :=
  if total ≤ remaining then eff else eff * remaining / total

/-- Grants one class out of `remaining` and sets its FLOW_LIMITED flags (R147, R151). -/
def grantClass (c : FlowClass) (remaining : Nat) (rs : List FlowRec) : List FlowRec :=
  let total := classTotal rs c
  rs.map fun r =>
    if r.cls = c then
      let g := grantShare total remaining r.effective
      { r with grant := g, limited := g < r.effective }
    else r

/-- The grants of all records and the remaining left unused: the classes in the order SUPPORT, SETTING,
WORK (R147). -/
def grantAll (pump : Nat) (rs : List FlowRec) : List FlowRec × Nat :=
  let r1 := grantClass .support pump rs
  let m1 := pump - classGranted r1 .support
  let r2 := grantClass .setting m1 r1
  let m2 := m1 - classGranted r2 .setting
  let r3 := grantClass .work m2 r2
  (r3, m2 - classGranted r3 .work)

/-- The records of the thirteen functions as the computation reads them. -/
def State.flowInputs (s : State) : List FlowRec :=
  propFns.map fun f =>
    { fn := f, asked := s.asked f, cls := s.flowClass f, effective := s.effective f
      cause := s.withheld f, grant := 0, limited := false }

/-- The grant computation: every grant afresh from the values as they stand, with the FAILED set as the
Valve Driver reports it (R147, R148). -/
def State.computeFlow (s : State) : State :=
  let g := grantAll (s.live P.pumpFlow) s.flowInputs
  s.modArb fun a => { a with flow := g.1, unused := g.2, failed := s.valve.failedFns }

/-- The part of a record that the computation reads. -/
def FlowRec.input (r : FlowRec) : Nat × FlowClass × Withheld := (r.asked, r.cls, r.cause)

/-- Whether a value the computation reads has changed since the last computation: an asked demand, a
class, the FAILED set, the methane or the E-stop state (R148). -/
def State.flowStale (s : State) : Bool :=
  (s.flowInputs.map FlowRec.input != s.arb.flow.map FlowRec.input) ||
  (s.valve.failedFns != s.arb.failed)

/-! ### Reservations (R153, R154) -/

/-- Whether a reservation of an amount fits (R154). -/
def State.fits (s : State) (amount : Nat) : Bool :=
  s.supportTotal + s.arb.admittedSum + amount ≤ s.live P.pumpFlow

/-- The first waiting boom whose reservation fits, taking the waiting list from the head (R154). -/
def State.firstFit (s : State) : Option Boom :=
  s.arb.waiting.find? fun b => s.fits (s.arb.res.get b).amount

/-- Puts boom `b`'s reservation on the waiting list (R153). -/
def State.putReservation (s : State) (b : Boom) (amount : Nat) : State :=
  s.modArb fun a =>
    { a with res := a.res.set b { mark := .waiting, amount := amount }
             waiting := a.waiting.filter (fun x => x ≠ b) ++ [b] }

/-- Marks boom `b`'s reservation ADMITTED and takes it off the list (R154). -/
def State.markAdmitted (s : State) (b : Boom) : State :=
  s.modArb fun a =>
    { a with res := a.res.set b { a.res.get b with mark := .admitted }
             waiting := a.waiting.filter (fun x => x ≠ b) }

/-- Releases boom `b`'s reservation (R157). -/
def State.dropReservation (s : State) (b : Boom) : State :=
  s.modArb fun a =>
    { a with res := a.res.set b { mark := .none, amount := 0 }
             waiting := a.waiting.filter (fun x => x ≠ b) }

end Sys2Proof.Machine
end

