-- ==== Sys2Proof/Machine/Valve.lean ====
section
/-! DEFINITION. The Valve Driver (chapter 8): duties, routes, conflicts, moves at a fault and returns. -/

namespace Sys2Proof.Machine

/-! ### Claims and conflicts (R167, R170) -/

/-- The functions that claim a channel, in number order. -/
def Valve.claimants (v : Valve) (c : Nat) : List Fn :=
  allFns.filter fun f => (v.route f).claims = some c

/-- Whether a function claims a channel that a lower-numbered function claims too. -/
def Valve.loses (v : Valve) (f : Fn) : Bool :=
  match (v.route f).claims with
  | some c => allFns.any fun g => g.num < f.num && (v.route g).claims = some c
  | none => false

/-- Resolves every conflict: the lowest-numbered claimant drives a channel, every other claimant has its
ROUTE_CONFLICT flag set (R170), and each channel's driving function follows (R160). -/
def Valve.resolve (v : Valve) : Valve :=
  { routes := allFns.map fun f => { v.route f with conflict := v.loses f }
    channels := (List.range v.channels.length).map fun c =>
      { v.channel c with driving := (v.claimants c).head? } }

/-- Replaces a function's entry of the Routing Table. -/
def Valve.setRoute (v : Valve) (f : Fn) (r : Route) : Valve :=
  { v with routes := v.routes.set f.num r }

/-- Changes a channel. -/
def Valve.modChannel (v : Valve) (c : Nat) (g : Channel → Channel) : Valve :=
  { v with channels := v.channels.modify c g }

/-- The route a function takes afresh: PRIMARY when its primary is OK, otherwise ALTERNATE when it has
one that is OK, otherwise NONE (R168). -/
def Valve.freshKind (v : Valve) (primary : Nat) (alternate : Option Nat) : RouteKind :=
  if v.chOk primary then .primary
  else match alternate with
    | some a => if v.chOk a then .alternate else .none
    | none => .none

/-- The route of a function that claims the faulted channel, moved to its other channel or to none
(R169). -/
def Valve.movedKind (v : Valve) (r : Route) : RouteKind :=
  match r.kind with
  | .primary =>
    match r.alternate with
    | some a => if v.chOk a then .alternate else .none
    | none => .none
  | .alternate => if v.chOk r.primary then .primary else .none
  | .none => .none

/-- Moves every function that claims channel `c`, which has faulted, and resolves conflicts (R169). -/
def Valve.moveOff (v : Valve) (c : Nat) : Valve :=
  let v' := { v with routes := allFns.map fun f =>
    let r := v.route f
    if r.claims = some c then { r with kind := v.movedKind r } else r }
  v'.resolve

/-! ### Returns (R171) -/

/-- Whether a function is at rest: its grant 0, or off for a switching function. -/
def atRest (grant : Fn → Nat) (on : Fn → Bool) : Fn → Bool
  | .tram => !on .tram
  | .boom b .flush => !on (.boom b .flush)
  | f => grant f = 0

/-- Whether a function on its alternate may return: its primary is OK, no lower-numbered function claims
the primary, and it is at rest. -/
def Valve.mayReturn (v : Valve) (rest : Fn → Bool) (f : Fn) : Bool :=
  let r := v.route f
  r.kind = .alternate && v.chOk r.primary && rest f &&
  !(allFns.any fun g => g.num < f.num && (v.route g).claims = some r.primary)

/-- Returns, in number order, each function of a list that may return, resolving conflicts after each. -/
def Valve.returnAll (rest : Fn → Bool) : List Fn → Valve → Valve
  | [], v => v
  | f :: fs, v =>
    Valve.returnAll rest fs
      (if v.mayReturn rest f then (v.setRoute f { v.route f with kind := .primary }).resolve else v)

/-! ### Notes of changed routes (R173) -/

/-- A function's route as a report or a reply gives it. -/
def Valve.note (v : Valve) (f : Fn) : RouteNote :=
  { fn := f.num, kind := (v.route f).kind, claims := (v.route f).claims
    conflict := (v.route f).conflict, failed := v.isFailed f }

/-- The functions whose route or ROUTE_CONFLICT flag differs between two states of the Driver. -/
def changedFns (v v' : Valve) : List Fn :=
  allFns.filter fun f =>
    (v.route f).kind != (v'.route f).kind || (v.route f).conflict != (v'.route f).conflict ||
    (v.route f).claims != (v'.route f).claims

/-- The notes of the changed functions, as they stand after the change. -/
def routeNotes (v v' : Valve) : List RouteNote := (changedFns v v').map v'.note

/-! ### On states and duties (R162, R163) -/

/-- The on state of a switching function: FLUSH as the owner of the boom's functions puts it, and
TRAM_ENABLE as TRAM does (R163). -/
def State.onState (s : State) : Fn → Bool
  | .tram => s.tram
  | .boom b .flush =>
    if !s.present b then false
    else match (s.seq.get b).state with
      | .manual => (s.seq.get b).jogs.flush
      | .halted => (s.seq.get b).jogs.flush
      | _ => match s.phase b with
        | .collaring => (s.gov.get b).flush
        | .drilling => (s.gov.get b).flush
        | _ => false
  | _ => false

/-- The on states of the three switching functions. -/
def State.onStates (s : State) : List Bool :=
  [s.onState (.boom .A .flush), s.onState (.boom .B .flush), s.tram]

/-- The duty of a proportional function's grant (R162). -/
def dutyOf (ch : Channel) (g : Nat) : Nat :=
  if g = 0 then 0 else ch.dmin + (ch.dmax - ch.dmin) * min g ch.qmax / ch.qmax

/-- The duty a channel drives for its function (R162, R163). -/
def State.channelDuty (s : State) (ch : Channel) : Nat :=
  if s.diu.estop then 0
  else if ch.state ≠ .ok then 0
  else match ch.driving with
    | none => 0
    | some .tram => if s.tram then ch.dmax else 0
    | some (.boom b .flush) => if s.onState (.boom b .flush) then ch.dmax else 0
    | some f => dutyOf ch (s.arb.grantOf f)

/-- Computes every channel's duty from the grants and on states as they stand (R162). -/
def State.computeDuties (s : State) : State :=
  s.modValve fun v =>
    { v with channels := v.channels.map fun ch => { ch with duty := s.channelDuty ch } }

end Sys2Proof.Machine
end

