-- ==== Sys2Proof/Machine/Sequencer.lean ====
section
/-! DEFINITION. The Boom Sequencer's transitions that do not reach the Indexer (chapter 1): halting,
admission, pausing, releasing and closing, the setting phases, deferred items and the emergency stop. -/

namespace Sys2Proof.Machine

/-! ### Entering a state -/

/-- The phases with a timeout (R6). -/
def Phase.timed : Phase → Bool
  | .jackSet | .collaring | .retracting | .boltPush | .mixing | .torquing | .releasing => true
  | _ => false

/-- What every entry into a state other than PAUSED does to the Sequencer: no return phase, an empty cause
set, and the phase timer from zero in the seven phases with a timeout (R1, R6). -/
def Sequencer.enter (p : Phase) (q : Sequencer) : Sequencer :=
  { q with returnPhase := none, causes := .empty
           timer := if p.timed then .start else .zero }

/-- Enters state `p` with the further changes `f`, and sends the PHASE report. -/
def State.enterPhase (s : State) (b : Boom) (p : Phase) (f : Sequencer → Sequencer) : State :=
  s.goPhase b p fun q => f (q.enter p)

/-- The Sequencer's own demands and the JACK_DOWN mark, all 0 and clear. -/
def Sequencer.noDemands (q : Sequencer) : Sequencer :=
  { q with jackUp := 0, jackDown := 0, feedDown := 0, jackDownStarted := false }

/-! ### Halting (R26) -/

/-- What leaving a phase for HALTED, STOPPED or RELEASING does in the boom's workers (R55, R70, R99). Its callers
make it ahead of the PHASE report of the move, so that the SEGMENT of a remnant goes first (DESIGN CHOICE, log
entry 11). -/
def State.leavePhase (s : State) (b : Boom) (e : MixEnd) : State :=
  let p := s.phase b
  if p = .collaring || p = .drilling then s.leaveDrilling b else s.leaveSetting b p e

/-- The Sequencer in HALTED (R26). -/
def Sequencer.halted (reason : HaltReason) (q : Sequencer) : Sequencer :=
  { (q.enter .halted).noDemands with
    haltReason := some reason, choices := .empty, jogs := .zero }

/-- The boom enters HALTED; a boom already HALTED takes the reason without a change of state (R172, log
entry 18). -/
def State.goHalted (s : State) (b : Boom) (reason : HaltReason) : State :=
  if (s.seq.get b).state = .halted then s.modSeq b (Sequencer.halted reason)
  else s.goPhase b .halted (Sequencer.halted reason)

/-- A halt with its release, before the waiting list is tested. Out of COLLARING or DRILLING the remnant's SEGMENT,
with the BIT WORN it may bring, is sent before the boom's PHASE: R55 does not order them (DESIGN CHOICE, log
entry 11). -/
def State.haltCore (s : State) (b : Boom) (reason : HaltReason) (e : MixEnd) : State :=
  let p := s.phase b
  let s := (s.leavePhase b e).goHalted b reason
  if p.reserves then s.dropReservation b else s

/-! ### Admission (R154 to R156) -/

/-- The boom enters MIXING (R105); a FAILED function it uses halts it at the transition (R172). -/
def State.enterMixing (s : State) (b : Boom) : State :=
  if s.blocked b .mixing then s.haltCore b .valveFault .interrupted
  else (s.enterPhase b .mixing id).startMix b

/-- The Sequencer takes an admission according to the boom's state (R156). -/
def State.admitBoom (s : State) (b : Boom) : State :=
  let s := s.markAdmitted b
  let q := s.seq.get b
  if q.state = .mixWait then s.enterMixing b
  else if q.state = .paused && q.returnPhase = some .mixWait then
    (s.modSeq b fun q => { q with returnPhase := some .mixing }).notePhase b
  else s

/-- Tests the waiting list: admits the first entry that fits, and tests again, until none fits (R154,
R155). At most two entries wait, and each admission takes one off. -/
def State.testWaiting : Nat → State → State
  | 0, s => s
  | fuel + 1, s =>
    match s.firstFit with
    | some b => State.testWaiting fuel (s.admitBoom b)
    | none => s

/-- The test of the waiting list, with a round for each entry. -/
def State.testList (s : State) : State := State.testWaiting s.arb.waiting.length s

/-- The Setting Controller's release at the boom's leaving phase `p` for RELEASING, HALTED or STOPPED, and
the test that follows it (R120, R157). -/
def State.releaseFrom (s : State) (b : Boom) (p : Phase) : State :=
  if p.reserves then (s.dropReservation b).testList else s

/-- The boom enters HALTED with `reason` (R26); a mix so ended ends as `e` says. -/
def State.halt (s : State) (b : Boom) (reason : HaltReason) (e : MixEnd) : State :=
  let p := s.phase b
  let s := s.haltCore b reason e
  if p.reserves then s.testList else s

/-! ### Pausing (R17, R19) -/

/-- The Sequencer in PAUSED from phase `p` with one cause: its own demands 0, its timer held (R6, R19). -/
def Sequencer.pausedFrom (p : Phase) (c : Cause) (q : Sequencer) : Sequencer :=
  { q with returnPhase := some p, causes := CauseSet.empty.add c, timer := q.timer.hold
           jackUp := 0, jackDown := 0, feedDown := 0 }

/-- The boom enters PAUSED from its automatic phase (R17, R19, R71, R102, R111, R117). -/
def State.pauseBoom (s : State) (b : Boom) (c : Cause) : State :=
  let p := (s.seq.get b).state
  let s := if p = .collaring || p = .drilling then s.modGov b Governor.pause else s
  let s := s.modSett b (Setting.pause p)
  s.goPhase b .paused (Sequencer.pausedFrom p c)

/-- A cause reaches a boom that is not in MIXING (R17). -/
def State.arriveBasic (s : State) (b : Boom) (c : Cause) : State :=
  let q := s.seq.get b
  if q.state = .paused then
    if q.causes.has c then s
    else (s.modSeq b fun q => { q with causes := q.causes.add c }).notePhase b
  else if q.state.automatic && q.state ≠ .mixing then s.pauseBoom b c
  else s

/-- The standing conditions of a boom (R18), in the order in which R18 names their causes (DESIGN CHOICE, log entry
42). -/
def State.standing (s : State) (b : Boom) : List Cause :=
  (if s.diu.methane then [Cause.gas] else []) ++
  (if (s.head.get b).scanLost then [.scan] else []) ++
  (if s.active b Input.guardClosed then [] else [.operator])

/-- The standing conditions are taken as arriving causes (R18). -/
def State.takeStanding (s : State) (b : Boom) : State :=
  (s.standing b).foldl (fun s c => s.arriveBasic b c) s

/-! ### Releasing and closing (R16, R194) -/

/-- The hole closes: the Store takes the record, the boom's workers clear their state, and the boom goes to
IDLE (R16, R38, R63, R99, R194). -/
def State.closeHole (s : State) (b : Boom) : State :=
  let q := s.seq.get b
  let s := s.closeRecord b q.closing q.haltReason
  let s := s.modProf b fun _ => .reset
  let s := s.modGov b fun _ => .reset
  let s := s.modSett b fun _ => .reset
  s.enterPhase b .idle fun q =>
    { q.noDemands with hole := none, closing := none, haltReason := none, stoppedFrom := none }

/-- JACK_LOWERED, taken after JACK_DOWN has started, closes the hole (R16). -/
def State.jackLowered (s : State) (b : Boom) : State :=
  let q := s.seq.get b
  if q.state = .releasing && q.jackDownStarted then s.closeHole b else s

/-- Starts JACK_DOWN at the qmax of its channel, and takes a JACK_LOWERED already active (R16). -/
def State.startJackDown (s : State) (b : Boom) : State :=
  let flow := s.valve.qmaxOf (.boom b .jackDown)
  let s := s.modSeq b fun q =>
    { q with feedDown := 0, jackDown := flow, jackDownStarted := true }
  if s.active b Input.jackLowered then s.jackLowered b else s

/-- The level tests of RELEASING at entry (R5, R16). -/
def State.testReleasing (s : State) (b : Boom) : State :=
  let q := s.seq.get b
  if q.state = .releasing && !q.jackDownStarted && s.active b Input.feedRetracted then
    s.startJackDown b
  else s

/-- The boom enters RELEASING (R16); from HALTED it takes the standing conditions at its entry (R18). A
release's test of the waiting list is made before a JACK_DOWN that the same event puts (R157, log entry 33), and
the SEGMENT of a remnant is sent before the PHASE (log entry 11). -/
def State.toReleasing (s : State) (b : Boom) : State :=
  if s.blocked b .releasing then s.halt b .valveFault .interrupted
  else
    let p := s.phase b
    let fromHalted := (s.seq.get b).state = .halted
    let s := s.leavePhase b .interrupted
    let feed := s.approachFlow b
    let s := s.enterPhase b .releasing fun q => { q.noDemands with feedDown := feed }
    let s := s.releaseFrom b p
    let s := if fromHalted then s.takeStanding b else s
    s.testReleasing b

/-- An abort taken from an automatic phase: closing outcome ABORTED (R28). -/
def State.abortFrom (s : State) (b : Boom) : State :=
  (s.modSeq b fun q =>
    { q with closing := some .aborted, choices := .empty, holdComplete := false }).toReleasing b

/-- An abort taken from HALTED: closing outcome FAULTED, jog setpoints 0 (R27). -/
def State.abortHalted (s : State) (b : Boom) : State :=
  (s.modSeq b fun q => { q with closing := some .faulted, jogs := .zero }).toReleasing b

/-! ### The end of MIXING (R24, R25) -/

/-- The deferred abort and then the deferred causes are taken in the state the end of the mix gave (R24). R24 names no
order among the causes: the model lets them arrive in the order in which R1 lists the members of the set, OPERATOR,
SILENCE, GAS, SCAN, FLUSH (DESIGN CHOICE, log entry 42), which shows in the cause sets of the PHASE reports alone. -/
def State.takeDeferred (s : State) (b : Boom) : State :=
  let s :=
    if (s.seq.get b).deferredAbort then
      let s := s.modSeq b fun q => { q with deferredAbort := false }
      match (s.seq.get b).state with
      | .gelHold => s.abortFrom b
      | .halted => s.abortHalted b
      | _ => s
    else s
  let cs := (s.seq.get b).deferred.toList
  let s := s.modSeq b fun q => { q with deferred := .empty }
  cs.foldl (fun s c => s.arriveBasic b c) s

/-- GAS, or a failure of ROT_FWD or FEED_UP, ends the mix INTERRUPTED (R25, R109). -/
def State.mixInterrupted (s : State) (b : Boom) : State :=
  (s.halt b .mixInterrupted .interrupted).takeDeferred b

/-- A cause reaches a boom (R17, R23, R25). -/
def State.arrive (s : State) (b : Boom) (c : Cause) : State :=
  let q := s.seq.get b
  if q.state = .mixing then
    if c = .gas then s.mixInterrupted b
    else if q.deferred.has c then s
    else (s.modSeq b fun q => { q with deferred := q.deferred.add c }).notePhase b
  else s.arriveBasic b c

/-! ### The setting phases (R15) -/

/-- The boom enters BOLT_PUSH (R100, R172). -/
def State.enterBoltPush (s : State) (b : Boom) : State :=
  if s.blocked b .boltPush then s.halt b .valveFault .interrupted
  else (s.enterPhase b .boltPush id).startPush b

/-- The BOLT_PRESENT event, or the input found active (R14). -/
def State.boltPresent (s : State) (b : Boom) : State :=
  if (s.seq.get b).state = .awaitBolt then s.enterBoltPush b else s

/-- The boom enters AWAIT_BOLT and tests BOLT_PRESENT (R5, R14). -/
def State.enterAwaitBolt (s : State) (b : Boom) : State :=
  let s := s.enterPhase b .awaitBolt id
  if s.active b Input.boltPresent then s.boltPresent b else s

/-- Seating moves the boom to MIX_WAIT, where its reservation is put and tested (R15, R103, R153). -/
def State.enterMixWait (s : State) (b : Boom) : State :=
  let s := s.enterPhase b .mixWait id
  let s := s.modSett b fun c => { c with stage := .wait, feedUp := 0, rotFwd := 0 }
  (s.putReservation b (s.reservationOf b)).testList

/-- The boom enters GEL_HOLD (R110, R111); the hold complete mark is cleared (R15). -/
def State.enterGelHold (s : State) (b : Boom) : State :=
  if s.blocked b .gelHold then s.halt b .valveFault .complete
  else (s.enterPhase b .gelHold fun q => { q with holdComplete := false }).startHold b

/-- The boom enters TORQUING (R113, R172). -/
def State.enterTorquing (s : State) (b : Boom) : State :=
  if s.blocked b .torquing then s.halt b .valveFault .interrupted
  else (s.enterPhase b .torquing id).startTorque b

/-- The pulse that completes the mix: the result is written, the boom goes to GEL_HOLD and the deferred
items are taken (R24, R106). -/
def State.mixComplete (s : State) (b : Boom) : State :=
  let s := s.writeMix b .complete
  let s := s.modSett b fun c => { c with rotFwd := 0 }
  (s.enterGelHold b).takeDeferred b

/-- The Setting Controller takes a rotation pulse of boom `b` (R106). -/
def State.mixPulse (s : State) (b : Boom) : State :=
  if (s.seq.get b).state = .mixing then
    let s := s.modSett b fun c => { c with mixPulses := c.mixPulses + 1 }
    if s.mixGoal b ≤ (s.sett.get b).mixPulses then s.mixComplete b else s
  else s

/-- A torque verdict: the demands go to 0, the closing outcome is VERDICT and the boom moves to RELEASING
(R15, R115, R116). -/
def State.giveVerdict (s : State) (b : Boom) (v : Verdict) : State :=
  let s := s.modSett b fun c => { c with verdict := some v, feedUp := 0, rotFwd := 0 }
  (s.modSeq b fun q => { q with closing := some .verdict }).toReleasing b

/-! ### The emergency stop (R30) -/

/-- The Sequencer in STOPPED (R30). -/
def Sequencer.stopped (frm : Phase) (q : Sequencer) : Sequencer :=
  { (q.enter .stopped).noDemands with
    stoppedFrom := some frm, deferred := .empty, deferredAbort := false, abortPending := false
    choices := .empty, jogs := .zero }

/-- The Sequencer takes the assertion of E_STOP; a boom already STOPPED stays so (R30, R120). The SEGMENT of a
remnant is sent before the PHASE (log entry 11). -/
def State.stopBoom (s : State) (b : Boom) : State :=
  if (s.seq.get b).state = .stopped then s
  else
    let p := s.phase b
    let s := s.leavePhase b .stopped
    let s := s.goPhase b .stopped (Sequencer.stopped p)
    s.releaseFrom b p

end Sys2Proof.Machine
end

