-- ==== Sys2Proof/Machine/Indexer.lean ====
section
/-! DEFINITION. The Cartridge Indexer (chapter 6): slot selection, the Request Queue, the carousel, the
delivery of a cartridge, starvation, the ends of a burst and the emergency stop. -/

namespace Sys2Proof.Machine

/-! ### The Magazine Table (R122 to R124) -/

/-- A slot of the table. -/
def Indexer.slot (x : Indexer) (n : Nat) : Slot := x.slots.getD n .empty

/-- Whether slot `n` is a candidate for type `t` (R124). -/
def Indexer.candidate (x : Indexer) (t : CartType) (n : Nat) : Bool :=
  (x.slot n).state = .loaded && (x.slot n).type = some t

/-- The load sequence number of a slot, 0 when absent. -/
def Indexer.seqOf (x : Indexer) (n : Nat) : Nat := (x.slot n).seq.getD 0

/-- The slot selected for a type: the lowest load sequence number, the lower slot among equals (R124). -/
def Indexer.select (x : Indexer) (t : CartType) : Option Nat :=
  (List.range x.slots.length).foldl (fun best n =>
    if x.candidate t n then
      match best with
      | none => some n
      | some m => if x.seqOf n < x.seqOf m then some n else best
    else best) none

/-- The result of one item of LOAD_SLOTS, at its value of R203. -/
inductive LoadResult where
  | ok | range | refusedLoaded
deriving DecidableEq, Repr

/-- Applies one item of LOAD_SLOTS (R123). -/
def Indexer.loadItem (x : Indexer) (n : Nat) (t : CartType) : Indexer × LoadResult :=
  if x.slots.length ≤ n then (x, .range)
  else if (x.slot n).state = .loaded then (x, .refusedLoaded)
  else
    ({ x with slots := x.slots.set n { state := .loaded, type := some t, seq := some x.seqCounter
                                       fails := 0 }
              seqCounter := min 4294967295 (x.seqCounter + 1) }, .ok)

/-- Applies the items in list order, each with its own result (R123). -/
def Indexer.loadItems : Indexer → List (Nat × CartType) → Indexer × List LoadResult
  | x, [] => (x, [])
  | x, (n, t) :: rest =>
    let r := x.loadItem n t
    let rs := Indexer.loadItems r.1 rest
    (rs.1, r.2 :: rs.2)

/-! ### The Request Queue (R126) -/

/-- The wanted type of a request (R128). -/
def Burst.wanted (r : Burst) : Option CartType := r.types[r.progress]?

/-- Whether the Indexer serves a burst: its head is the burst in service (R126). -/
def Indexer.serving (x : Indexer) : Bool :=
  x.state = .positioning || x.state = .awaitReady || x.state = .ejecting || x.state = .starved

/-- The slot for a request's wanted type, if one is LOADED. -/
def Indexer.slotFor (x : Indexer) (r : Burst) : Option Nat := r.wanted.bind x.select

/-- Whether the Indexer serves a burst or holds a queued request (R32, R168). -/
def Indexer.busy (x : Indexer) : Bool := x.serving || !x.queue.isEmpty

/-- Whether a requester is paused (R127). -/
def State.requesterPaused (s : State) (b : Boom) : Bool :=
  (s.seq.get b).state = .paused && (s.seq.get b).returnPhase = some .resinInsert

/-! ### The ends of a burst (R137, R13, R20, R29) -/

/-- The Sequencer of boom `b` takes the end of its burst (R13, R20, R29). With the abort pending mark set a PAUSED
boom too goes to RELEASING, which drops the causes that joined it since the abort, and it is not paused again for a
condition that still stands (DESIGN CHOICE, log entry 41). -/
def State.seqBurstEnd (s : State) (b : Boom) (k : BurstEnd) : State :=
  let q := s.seq.get b
  if s.phase b ≠ .resinInsert then s
  else if q.abortPending then
    (s.modSeq b fun q => { q with abortPending := false, closing := some .aborted }).toReleasing b
  else match k with
    | .done =>
      if q.state = .paused then
        (s.modSeq b fun q => { q with returnPhase := some .awaitBolt }).notePhase b
      else s.enterAwaitBolt b
    | .readyTimeout => s.halt b .burstFailed .interrupted
    | .failed => s.halt b .burstFailed .interrupted
    | .stopped => s

/-- Hands the end of request `r` to its Sequencer and sends the BURST report (R137). -/
def State.notifyEnd (s : State) (r : Burst) (k : BurstEnd) : State :=
  (s.seqBurstEnd r.boom k).report (.burst r.boom r.hole k r.types.length r.delivered)

/-- What an end of the burst in service clears in the Indexer (R137). -/
def Indexer.endService (x : Indexer) : Indexer :=
  { x with stepTimer := x.stepTimer.hold, readyTimer := x.readyTimer.hold
           passTimer := x.passTimer.hold, demand := 0, selected := none, stopMark := false
           homing := false, remaining := 0 }

/-- The Indexer enters FAULT with a cause: the burst in service ends FAILED, or STOPPED with the stop mark
set (R139, R140). -/
def State.idxFault (s : State) (c : IdxFault) : State :=
  let x := s.idx
  let kind := if x.stopMark then BurstEnd.stopped else .failed
  let s := s.modIdx fun x =>
    { x.endService with state := .fault, fault := some c, queue := x.queue.tail }
  let s := match x.queue.head? with
    | some r => s.notifyEnd r kind
    | none => s
  s.report (.magazine (.fault c x.position))

/-! ### Waiting for the injector (R132) -/

/-- The Indexer enters EJECTING. -/
def Indexer.eject (x : Indexer) : Indexer :=
  { x with state := .ejecting, readyTimer := x.readyTimer.hold, passTimer := .start }

/-- In AWAIT_READY: EJECTING when the requester is not paused and its INJECTOR_READY is active; otherwise
the ready-wait timer runs while it is not paused, and holds its count while it is. -/
def State.readySync (s : State) : State :=
  if s.idx.state = .awaitReady then
    match s.idx.queue.head? with
    | some r =>
      if s.requesterPaused r.boom then s.modIdx fun x => { x with readyTimer := x.readyTimer.hold }
      else if s.active r.boom Input.injectorReady then s.modIdx Indexer.eject
      else s.modIdx fun x => { x with readyTimer := x.readyTimer.resume }
    | none => s
  else s

/-- The Indexer enters AWAIT_READY with the ready-wait timer at 0 (R130, R132). -/
def State.enterAwaitReady (s : State) : State :=
  (s.modIdx fun x =>
    { x with state := .awaitReady, demand := 0, stepTimer := x.stepTimer.hold
             readyTimer := .zero }).readySync

/-! ### The carousel (R129, R130) -/

/-- A homing or a move that needs a step puts the INDEX demand and starts the step timer, or faults with
INDEX_FAILED (R129, R130, R131). -/
def State.startStep (s : State) : State :=
  if s.valve.isFailed .index then s.idxFault .indexFailed
  else
    let flow := s.live P.indexFlow
    s.modIdx fun x => { x with demand := flow, stepTimer := .start }

/-- The steps from position `p` to slot `t` of `n` slots in the carousel's one direction (R130). -/
def stepsBetween (n p t : Nat) : Nat := (t + n - p) % n

/-- The move from the known position to the selected slot begins (R130). -/
def State.startMove (s : State) : State :=
  match s.idx.position, s.idx.selected with
  | some p, some t =>
    let k := stepsBetween s.idx.slots.length p t
    let s := s.modIdx fun x => { x with remaining := k }
    if k = 0 then s.enterAwaitReady else s.startStep
  | _, _ => s

/-- The position becomes 0, the homing mark is cleared, and the move begins (R129). -/
def State.homeFound (s : State) : State :=
  (s.modIdx fun x => { x with position := some 0, homing := false }).startMove

/-- The Indexer enters POSITIONING toward the selected slot, homing first when the position is UNKNOWN
(R129). -/
def State.startPositioning (s : State) : State :=
  let s := s.modIdx fun x => { x with state := .positioning }
  match s.idx.position with
  | some _ => s.startMove
  | none =>
    let s := s.modIdx fun x => { x with homing := true, homeCount := 0 }
    if s.diu.indexHome then s.homeFound else s.startStep

/-! ### Takes and starvation (R128, R135, R136) -/

/-- A take that found slot `n`; a new burst clears the stop mark (R128). -/
def State.takeSlot (s : State) (n : Nat) (fresh : Bool) : State :=
  (s.modIdx fun x =>
    { x with selected := some n, stopMark := if fresh then false else x.stopMark }).startPositioning

/-- The set-aside test of a STARVED Indexer: when the waiting request's wanted type has a LOADED slot, the
starved request moves to the tail and the new head is taken (R135). -/
def State.trySetAside (s : State) : State :=
  match s.idx.queue with
  | r :: w :: rest =>
    match s.idx.slotFor w with
    | some n => (s.modIdx fun x => { x with queue := w :: rest ++ [r] }).takeSlot n true
    | none => s
  | _ => s

/-- The Indexer enters STARVED with request `r` in service, sends MAGAZINE and applies the set-aside test
(R135). -/
def State.starve (s : State) (r : Burst) : State :=
  let s := s.modIdx fun x =>
    { x with state := .starved, demand := 0, selected := none, stepTimer := x.stepTimer.hold
             readyTimer := x.readyTimer.hold, passTimer := x.passTimer.hold }
  (s.report (.magazine (.starved r.boom (r.wanted.getD .fast)))).trySetAside

/-- The Indexer takes the head of the queue (R128). -/
def State.takeHead (s : State) (fresh : Bool) : State :=
  match s.idx.queue.head? with
  | some r =>
    match s.idx.slotFor r with
    | some n => s.takeSlot n fresh
    | none => s.starve r
  | none => s

/-- The end of the burst in service, and the take of a waiting request or IDLE (R137). -/
def State.endBurst (s : State) (k : BurstEnd) : State :=
  match s.idx.queue with
  | r :: rest =>
    let s := s.modIdx fun x => { x.endService with queue := rest, state := .idle }
    let s := s.notifyEnd r k
    s.takeHead true
  | [] => s

/-- The end of boom `b`'s waiting request: the Indexer's state and timers are untouched (R137). -/
def State.endWaiting (s : State) (b : Boom) (k : BurstEnd) : State :=
  match s.idx.queue.find? (fun r => r.boom = b) with
  | some r =>
    (s.modIdx fun x => { x with queue := x.queue.filter (fun r => r.boom ≠ b) }).notifyEnd r k
  | none => s

/-- The STARVED burst is tested again after a LOAD_SLOTS (R136). -/
def State.retestStarved (s : State) : State :=
  if s.idx.state = .starved then
    match s.idx.queue.head? with
    | some r =>
      match s.idx.slotFor r with
      | some n => s.takeSlot n false
      | none => s.trySetAside
    | none => s
  else s

/-- Boom `b`'s Sequencer posts a burst request (R13, R126, R141). -/
def State.postBurst (s : State) (b : Boom) : State :=
  match s.rec? b with
  | none => s
  | some rec =>
    let r : Burst :=
      { boom := b, hole := rec.number, types := (rec.plan.bind Plan.types).getD [], progress := 0
        delivered := [] }
    let s := s.setIndexJog 0
    if s.diu.estop then s.notifyEnd r .stopped
    else
      let s := s.modIdx fun x => { x with queue := x.queue ++ [r] }
      match s.idx.state with
      | .idle => s.takeHead true
      | .starved => s.trySetAside
      | _ => s

/-- The Indexer takes a STOP from boom `b`'s Sequencer (R138). -/
def State.stopBurst (s : State) (b : Boom) : State :=
  if s.idx.serving && (s.idx.queue.head?.map Burst.boom) = some b then
    match s.idx.state with
    | .awaitReady => s.endBurst .stopped
    | .starved => s.endBurst .stopped
    | _ => s.modIdx fun x => { x with stopMark := true }
  else s.endWaiting b .stopped

/-! ### Steps (R129 to R131, R139) -/

/-- A step taken while homing (R129, R139). -/
def State.homingStep (s : State) : State :=
  let s := s.modIdx fun x => { x with homeCount := x.homeCount + 1 }
  if s.diu.indexHome then
    if s.idx.stopMark then (s.modIdx fun x => { x with position := some 0 }).endBurst .stopped
    else s.homeFound
  else if s.idx.slots.length ≤ s.idx.homeCount then s.idxFault .homeNotFound
  else if s.idx.stopMark then s.endBurst .stopped
  else s.modIdx fun x => { x with stepTimer := .start }

/-- A step taken in a move (R130, R139). -/
def State.moveStep (s : State) : State :=
  let s := s.modIdx fun x =>
    { x with position := x.position.map (fun p => (p + 1) % x.slots.length)
             remaining := x.remaining - 1 }
  if s.diu.indexHome != (s.idx.position == some 0) then s.idxFault .homeMismatch
  else if s.idx.stopMark then s.endBurst .stopped
  else if s.idx.remaining = 0 then s.enterAwaitReady
  else s.modIdx fun x => { x with stepTimer := .start }

/-- A stray step (R131). -/
def State.strayStep (s : State) : State :=
  let s := s.modIdx fun x => { x with position := none }
  if s.idx.state = .awaitReady then
    (s.modIdx fun x => { x with readyTimer := x.readyTimer.hold }).startPositioning
  else s

/-- The Indexer takes an INDEX_STEP event (R129 to R131, R139). -/
def State.idxStep (s : State) : State :=
  if s.idx.state = .positioning then
    if s.idx.homing then s.homingStep else s.moveStep
  else s.strayStep

/-- A FAILED INDEX taken while a step is under way (R131). -/
def State.indexFailed (s : State) : State :=
  if s.idx.state = .positioning && s.idx.stepTimer.running then s.idxFault .indexFailed else s

/-! ### Delivery (R133, R134) -/

/-- Accounts the selected slot's cartridge in the table, the request and the timers (R133). -/
def Indexer.account (x : Indexer) (n : Nat) (t : CartType) : Indexer :=
  { x with slots := x.slots.set n .empty, passTimer := x.passTimer.hold, selected := none
           queue := match x.queue with
             | r :: rest => { r with progress := r.progress + 1, delivered := r.delivered ++ [(n, t)] } :: rest
             | [] => [] }

/-- The Indexer takes a CARTRIDGE_PASSED event of boom `b` (R133). -/
def State.cartridgePassed (s : State) (b : Boom) : State :=
  match s.idx.queue.head?, s.idx.selected with
  | some r, some n =>
    if s.idx.state = .ejecting && r.boom = b then
      let t := (s.idx.slot n).type.getD (r.wanted.getD .fast)
      let s := s.modIdx fun x => x.account n t
      let s := s.modRec b fun c => { c with delivered := c.delivered ++ [(n, t)] }
      if r.types.length ≤ r.progress + 1 then s.endBurst .done
      else if s.idx.stopMark then s.endBurst .stopped
      else s.takeHead false
    else s.modIdx fun x => { x with strayPass := min 65535 (x.strayPass + 1) }
  | _, _ => s.modIdx fun x => { x with strayPass := min 65535 (x.strayPass + 1) }

/-- A slot after a failed pass: JAMMED at the second (R134). -/
def Slot.failPass (x : Slot) : Slot :=
  if 2 ≤ x.fails + 1 then { x with state := .jammed, seq := none, fails := 2 }
  else { x with fails := x.fails + 1 }

/-- The pass timer's expiry in EJECTING (R134, R139). -/
def State.passFailed (s : State) : State :=
  match s.idx.selected with
  | some n =>
    let s := s.modIdx fun x =>
      { x with slots := x.slots.modify n Slot.failPass, passTimer := x.passTimer.hold, selected := none }
    let s := if (s.idx.slot n).state = .jammed then
        s.report (.magazine (.jam n ((s.idx.slot n).type.getD .fast)))
      else s
    if s.idx.stopMark then s.endBurst .stopped else s.takeHead false
  | none => s

/-! ### The emergency stop and CLEAR_MAGAZINE (R140, R141) -/

/-- The Indexer takes the assertion of E_STOP (R141). -/
def State.stopIndexer (s : State) : State :=
  let ended := s.idx.queue
  let s := s.modIdx fun x =>
    { x.endService with state := .idle, position := none, fault := none, queue := [] }
  ended.foldl (fun s r => s.notifyEnd r .stopped) s

/-- CLEAR_MAGAZINE taken in FAULT (R140). -/
def State.clearMagazine (s : State) : State :=
  (s.modIdx fun x => { x with fault := none, position := none, state := .idle }).takeHead true

end Sys2Proof.Machine
end

