-- ==== Sys2Proof/Machine/Cycle.lean ====
section
/-! DEFINITION. The Boom Sequencer's transitions through the drilling phases, the plan and the burst, the
input events it takes, the return from PAUSED and the abort (chapter 1). -/

namespace Sys2Proof.Machine

/-! ### The plan and its decision (R10 to R13) -/

/-- The boom enters RESIN_INSERT and posts its burst request (R13). -/
def State.enterResinInsert (s : State) (b : Boom) : State :=
  (s.enterPhase b .resinInsert id).postBurst b

/-- The DECISION_NEEDED report, with the plan flag that called for the decision (R11). -/
def State.sendDecision (s : State) (b : Boom) : State :=
  let q := s.seq.get b
  let weak := match (s.rec? b).bind HoleRecord.plan with
    | some p => p.flags.anchorWeak
    | none => false
  s.report (.decisionNeeded b (q.hole.getD 0) weak q.choices)

/-- The boom enters AWAIT_DECISION with the offered choices (R10, R11). -/
def State.enterAwaitDecision (s : State) (b : Boom) (c : ChoiceSet) : State :=
  (s.enterPhase b .awaitDecision fun q => { q with choices := c }).sendDecision b

/-- The plan call at FEED_RETRACTED, and where its result takes the boom (R10, R84). -/
def State.planHole (s : State) (b : Boom) : State :=
  let s := s.modSeq b fun q => { q with feedDown := 0 }
  match s.rec? b with
  | none => s
  | some r =>
    let p := r.planCall
    let s := s.modRec b fun x => { x with plan := some p.1 }
    match p.2 with
    | .ready => s.enterResinInsert b
    | .boltLong => s.enterAwaitDecision b r.boltLongChoices
    | .anchorWeak => s.enterAwaitDecision b anchorWeakChoices

/-- The completion call of a DECIDE, with `extra` fast cartridges more (R12, R91). -/
def State.completePlan (s : State) (b : Boom) (extra : Nat) : State :=
  s.modRec b fun r => { r with plan := r.plan.map fun p => r.complete p (r.spec.fastCount + extra) }

/-- The boom enters DRILLING by REDRILL, the planned depth already at the bolt length (R12, R56, R79). -/
def State.enterRedrill (s : State) (b : Boom) : State :=
  let s := s.modRec b fun r => { r with spec := { r.spec with planned := r.spec.boltLen } }
  if s.blocked b .drilling then s.halt b .valveFault .interrupted
  else
    let s := s.enterPhase b .drilling id
    let s := s.modProf b Profiler.redrill
    (s.startClimb b).clearRotation b

/-- A DECIDE that is taken (R12). -/
def State.decideTaken (s : State) (b : Boom) (c : Choice) : State :=
  let s := s.modRec b fun r => { r with decision := some c }
  let s := s.modSeq b fun q => { q with choices := .empty }
  match c with
  | .proceed => (s.completePlan b 0).enterResinInsert b
  | .extraFast => (s.completePlan b 1).enterResinInsert b
  | .redrill => s.enterRedrill b
  | .abandon => (s.modSeq b fun q => { q with closing := some .aborted }).toReleasing b

/-! ### The drilling phases (R7 to R10) -/

/-- The boom enters COLLARING (R8, R38, R63). -/
def State.enterCollaring (s : State) (b : Boom) : State :=
  if s.blocked b .collaring then s.halt b .valveFault .interrupted
  else
    let s := s.enterPhase b .collaring fun q => { q with jackUp := 0 }
    let s := s.modProf b Profiler.arm
    (s.startApproach b).clearRotation b

/-- The JACK_AT_ROOF event, or the input found active (R5, R7). -/
def State.jackAtRoof (s : State) (b : Boom) : State :=
  if (s.seq.get b).state = .jackSet then s.enterCollaring b else s

/-- The level test of JACK_SET (R5). -/
def State.testJackSet (s : State) (b : Boom) : State :=
  if s.active b Input.jackAtRoof then s.jackAtRoof b else s

/-- The boom enters JACK_SET at an accepted START_HOLE: a FAILED JACK_UP halts it there, and otherwise the
standing conditions are taken before the level test (R7, R18, R172). -/
def State.enterJackSet (s : State) (b : Boom) : State :=
  let flow := s.valve.qmaxOf (.boom b .jackUp)
  let s := s.enterPhase b .jackSet fun q => { q with jackUp := flow }
  if s.blocked b .jackSet then s.halt b .valveFault .interrupted
  else (s.takeStanding b).testJackSet b

/-- First contact stops CONTACT_TIMEOUT (R8). -/
def State.contactMade (s : State) (b : Boom) : State :=
  s.modSeq b fun q => { q with timer := q.timer.hold }

/-- A halt at a sample: the remnant that it closes carries COLLAR in COLLARING (R46). -/
def State.haltAtSample (s : State) (b : Boom) (reason : HaltReason) : State :=
  let collaring := (s.seq.get b).state = .collaring
  (if collaring then s.markCollar b else s).halt b reason .interrupted

/-- The collar is drilled: the boom enters DRILLING (R8, R172). -/
def State.enterDrilling (s : State) (b : Boom) : State :=
  if s.blocked b .drilling then s.haltAtSample b .valveFault else s.enterPhase b .drilling id

/-- The FEED_RETRACTED event, or the input found active (R5, R10, R16). -/
def State.feedRetracted (s : State) (b : Boom) : State :=
  let q := s.seq.get b
  if q.state = .retracting then s.planHole b
  else if q.state = .releasing && !q.jackDownStarted then s.startJackDown b
  else s

/-- The end of drilling: the Governor and the Profiler end their work and the boom enters RETRACTING
(R9, R10, R69). -/
def State.endDrilling (s : State) (b : Boom) : State :=
  if s.blocked b .retracting then s.halt b .valveFault .interrupted
  else
    let s := s.leaveDrilling b
    let flow := s.approachFlow b
    let s := s.enterPhase b .retracting fun q => { q with feedDown := flow }
    if s.active b Input.feedRetracted then s.feedRetracted b else s

/-! ### RESUME (R19, R20, R22) -/

/-- What the boom's return to phase `p` puts and tests again (R11, R19, R71, R102, R117). A jack demand is
put at the qmax as it stands at the return (log entry 34). -/
def State.reenter (s : State) (b : Boom) (p : Phase) : State :=
  match p with
  | .jackSet =>
    let flow := s.valve.qmaxOf (.boom b .jackUp)
    (s.modSeq b fun q => { q with jackUp := flow }).testJackSet b
  | .collaring => s.resumeGovernor b
  | .drilling => s.resumeGovernor b
  | .retracting =>
    let flow := s.approachFlow b
    let s := s.modSeq b fun q => { q with feedDown := flow }
    if s.active b Input.feedRetracted then s.feedRetracted b else s
  | .awaitDecision => s.sendDecision b
  | .awaitBolt => if s.active b Input.boltPresent then s.boltPresent b else s
  | .boltPush => s.modSett b (s.pushDemands b)
  | .gelHold => if (s.seq.get b).holdComplete then s.enterTorquing b else s
  | .torquing =>
    (s.modSett b (s.settingDemands b (s.hp b P.torqueRpm))).clearRotation b
  | .releasing =>
    if (s.seq.get b).jackDownStarted then
      let flow := s.valve.qmaxOf (.boom b .jackDown)
      let s := s.modSeq b fun q => { q with jackDown := flow }
      if s.active b Input.jackLowered then s.jackLowered b else s
    else
      let flow := s.approachFlow b
      (s.modSeq b fun q => { q with feedDown := flow }).testReleasing b
  | _ => s

/-- Whether the timer of phase `p` runs on at the boom's return (R6): that of COLLARING only until first
contact. -/
def State.timerReturns (s : State) (b : Boom) (p : Phase) : Bool :=
  p.timed && (p ≠ .collaring || (s.gov.get b).stage = .approach)

/-- The boom returns to its return phase (R19, R22, R172). A return phase MIXING is entered (R19), and a
FAILED function that bars it ends the mix as R24 has it (log entry 19). -/
def State.resumeBoom (s : State) (b : Boom) : State :=
  match (s.seq.get b).returnPhase with
  | none => s
  | some p =>
    if p = .mixing then
      let s := (s.enterMixing b).testList
      if (s.seq.get b).state = .halted then s.takeDeferred b else s
    else if s.blocked b p then s.halt b .valveFault .interrupted
    else
      let run := s.timerReturns b p
      let s := s.goPhase b p fun q =>
        { q with returnPhase := none, causes := .empty
                 timer := if run then q.timer.resume else q.timer }
      s.reenter b p

/-! ### ABORT_HOLE (R27 to R29) -/

/-- An abort taken in RESIN_INSERT, or PAUSED with that return phase (R29). -/
def State.abortBurst (s : State) (b : Boom) : State :=
  if (s.seq.get b).abortPending then s
  else (s.modSeq b fun q => { q with abortPending := true }).stopBurst b

/-- Whether the boom's gas or scan condition holds a request back with CAUSE_ACTIVE (R22, R28). -/
def State.causeActive (s : State) (b : Boom) : Bool := s.diu.methane || (s.head.get b).scanLost

/-- An abort taken in MIXING, or PAUSED with that return phase: the deferred abort mark is set, and a second
abort finds it set (R23). -/
def State.deferAbort (s : State) (b : Boom) : State :=
  if (s.seq.get b).deferredAbort then s
  else (s.modSeq b fun q => { q with deferredAbort := true }).notePhase b

/-- An ABORT_HOLE of a PAUSED boom that R28 lets through: the cause set is emptied, and the abort is taken as
from return phase `p`. A second one, with the abort pending or the deferred abort mark set, empties the causes
that have joined since and changes nothing more (R28 against R23 and R29: DESIGN CHOICE, log entry 40). -/
def State.abortPaused (s : State) (b : Boom) (p : Phase) : State :=
  let s := s.modSeq b fun q => { q with causes := .empty }
  match p with
  | .resinInsert => s.abortBurst b
  | .mixing => s.deferAbort b
  | _ => s.abortFrom b

/-- ABORT_HOLE by the boom's state (R28). -/
def State.abortHole (s : State) (b : Boom) : State × Result :=
  let q := s.seq.get b
  match q.state with
  | .idle => (s, .state)
  | .manual => (s, .state)
  | .stopped => (s, .state)
  | .releasing => (s, .state)
  | .mixing => (s.deferAbort b, .ok)
  | .halted => (s.abortHalted b, .ok)
  | .resinInsert => (s.abortBurst b, .ok)
  | .paused =>
    match q.returnPhase with
    | none => (s, .state)
    | some p =>
      if p = .releasing then (s, .state)
      else if s.causeActive b then (s, .causeActive)
      else (s.abortPaused b p, .ok)
  | _ => (s.abortFrom b, .ok)

/-! ### CLEAR_STOP (R31) -/

/-- A STOPPED boom leaves STOPPED (R31). -/
def State.clearStopBoom (s : State) (b : Boom) : State :=
  if (s.seq.get b).state = .stopped then
    if (s.seq.get b).hole.isSome then s.goPhase b .halted (Sequencer.halted .estop)
    else s.goPhase b .idle fun q => { q.enter .idle with stoppedFrom := none }
  else s

/-! ### Failed functions (R172, R131) -/

/-- Boom `b`'s Sequencer takes a function that has become FAILED (R20, R109, R172); a boom PAUSED with return
phase MIXING takes its deferred items from HALTED as at the end of a mix (R24, log entry 19). A halt made here
is of the failed function and not at a sample, so R46 gives no COLLAR to the remnant it closes, whatever began
the event (log entry 35). -/
def State.boomFailed (s : State) (b : Boom) (k : FnKind) : State :=
  let q := s.seq.get b
  if (s.phase b).uses.contains k && (q.state.automatic || q.state = .paused) then
    if q.state = .mixing then s.mixInterrupted b
    else if s.phase b = .mixing then (s.halt b .valveFault .interrupted).takeDeferred b
    else s.halt b .valveFault .interrupted
  else s

/-- The functions that have become FAILED are taken in number order. -/
def State.takeFailed (s : State) (fs : List Fn) : State :=
  fs.foldl (fun s f =>
    match f with
    | .boom b k => s.boomFailed b k
    | .index => s.indexFailed
    | .tram => s) s

/-! ### The emergency stop (R30, R33, R35) -/

/-- The jog setpoints of every boom and of INDEX go to 0 (R33). -/
def State.zeroJogs (s : State) : State :=
  let s := s.modSeq .A fun q => { q with jogs := .zero }
  let s := s.modSeq .B fun q => { q with jogs := .zero }
  s.setIndexJog 0

end Sys2Proof.Machine
end

