-- ==== Sys2Proof/Machine/Settle.lean ====
section
/-! DEFINITION. What follows every event (R35, R77, R132, R148, R155, R162, R171, R172): the test of the
waiting list, one grant computation, the returns of functions to their primaries, the FAILED functions,
the timers that follow an input, and the duties. -/

namespace Sys2Proof.Machine

/-- TRAM_ENABLE goes off when the JACK_LOWERED input of a present boom is inactive (R35). -/
def State.tramCheck (s : State) : State :=
  if s.tram && s.booms.any (fun b => !s.active b Input.jackLowered) then s.setTram false else s

/-- The flush-loss timer runs while the boom is in DRILLING and FLUSH_PRESSURE_OK is inactive; a stopped one
is at 0 (R77). -/
def State.flushSync (s : State) (b : Boom) : State :=
  let run := (s.seq.get b).state = .drilling && !s.active b Input.flushPressureOk
  s.modGov b fun g => { g with flushTimer := if run then g.flushTimer.resume else .zero }

/-- The functions FAILED now that were not among `before`. -/
def newlyFailed (before now : List Fn) : List Fn := now.filter fun f => !before.contains f

/-- The functions that a change of the Driver from `v` has made FAILED are taken, at the event that makes
them so (R172). -/
def State.takeNewlyFailed (s : State) (v : Valve) : State :=
  s.takeFailed (newlyFailed v.failedFns s.valve.failedFns)

/-- Function `f` returns to its primary when it may, with its CHANNEL report unless a request's reply
carries the change, and the functions it makes FAILED are taken (R171 to R173). -/
def State.returnOne (quiet : Bool) (s : State) (f : Fn) : State :=
  let v := s.valve
  if v.mayReturn (atRest s.arb.grantOf s.onState) f then
    let v' := (v.setRoute f { v.route f with kind := .primary }).resolve
    let s := s.modValve fun _ => v'
    let c := (v.route f).primary
    let s := if quiet then s else s.report (.channel c (v'.channel c).state (routeNotes v v'))
    s.takeNewlyFailed v
  else s

/-- The test of R171 over all functions, in number order. -/
def State.returnTest (s : State) (quiet : Bool) : State := allFns.foldl (State.returnOne quiet) s

/-- The rounds of an event: the list is tested, the grants are computed when a value they read has changed
(or `force`), and the returns are tested at a computation or a change of an on state; the round repeats until
nothing changes. -/
def State.settle (quiet : Bool) : Nat → Bool → List Bool → State → State
  | 0, _, _, s => s
  | fuel + 1, force, on, s =>
    let s := s.testList
    let stale := force || s.flowStale
    let s := if stale then s.computeFlow else s
    let now := s.onStates
    if stale || now != on then State.settle quiet fuel false now (s.returnTest quiet) else s

/-- The number of rounds that is enough: each round after the second follows the return of a function or a
boom that has halted. -/
def settleRounds : Nat := 40

/-- The end of an event, from the on states before it. -/
def State.finishFrom (on : List Bool) (force quiet : Bool) (s : State) : State :=
  let s := s.tramCheck
  let s := State.settle quiet settleRounds force on s
  let s := (s.flushSync .A).flushSync .B
  s.readySync.computeDuties

/-- The end of an event that began in `s0`. -/
def State.finish (s0 s : State) : State := s.finishFrom s0.onStates false false

/-- The end of an event that began in `s0` and at which the Arbiter recomputes whatever else changed: a
change of the E-stop or the methane state (R148 to R150). -/
def State.finishComputed (s0 s : State) : State := s.finishFrom s0.onStates true false

/-! ### Events of several blocks in an open order (log entry 2) -/

/-- Folds a list of steps in its own order, or in the free order when `open` order matters. -/
def State.inOrder {α : Type} (s : State) (free : Bool) (l : List α) (f : State → α → State) : State :=
  if free then
    (freePermute l.length l s.freeCount).foldl f { s with freeCount := s.freeCount + l.length }
  else l.foldl f s

/-- The blocks that take the E-stop state with an effect on one another. -/
inductive StopBlock where
  | arbiter | seq (b : Boom) | indexer
deriving DecidableEq, Repr

/-- A block takes the assertion of E_STOP, with the test of the waiting list that its change calls for
(R30, R141, R149, R155). -/
def State.takeStop (s : State) : StopBlock → State
  | .arbiter => (s.modArb fun a => { a with estop := true }).testList
  | .seq b => (s.stopBoom b).testList
  | .indexer => s.stopIndexer.testList

/-- The assertion of E_STOP reaches the blocks; their order is free where an admission or a burst can tell
it (R185). -/
def State.assertStop (s : State) : State :=
  let s := (s.modDiu fun d => { d with estop := true }).setTram false
  let s := s.setIndexJog 0
  let free := !s.arb.waiting.isEmpty || !s.idx.queue.isEmpty
  s.inOrder free ([StopBlock.arbiter] ++ s.booms.map .seq ++ [.indexer]) State.takeStop

/-- A pause cause reaches boom `b`, with the test of the waiting list that the fall of a jack demand or a
release calls for (R155). -/
def State.arriveTested (s : State) (c : Cause) (b : Boom) : State := (s.arrive b c).testList

/-- A pause cause reaches every present boom; the order is free where a test can let a boom in. -/
def State.arriveAll (s : State) (c : Cause) : State :=
  s.inOrder (!s.arb.waiting.isEmpty) s.booms fun s b => s.arriveTested c b

/-- The places the expiry of the presence timer is handed to (R209). -/
inductive SilencePlace where
  | boom (b : Boom) | jogs | tram
deriving DecidableEq, Repr

/-- A place takes the expiry of the presence timer. -/
def State.takeSilence (s : State) : SilencePlace → State
  | .boom b => s.arriveTested .silence b
  | .jogs => s.zeroJogs.testList
  | .tram => s.setTram false

end Sys2Proof.Machine
end

