-- ==== Sys2Proof/Machine/Scan.lean ====
section
/-! DEFINITION. The Head Scan Unit (chapter 9): the check and the ranges of a frame, good and bad frames,
debounce, the input events, and the sample as the boom's blocks take it. -/

namespace Sys2Proof.Machine

/-! ### The frame's check and ranges (R174, R176, R177) -/

/-- One bit of the CRC-8 of R176: polynomial x⁸ + x² + x + 1. -/
def crc8Step (r : BitVec 8) (bit : Bool) : BitVec 8 :=
  if r.msb != bit then (r <<< 1) ^^^ 0x07#8 else r <<< 1

/-- The first 72 bits of a frame in the order they were clocked. -/
def frameBits (f : BitVec 80) : List Bool := (List.range 72).map fun i => f.getLsbD (79 - i)

/-- The CRC-8 of a frame's first 72 bits. -/
def frameCrc (f : BitVec 80) : BitVec 8 := (frameBits f).foldl crc8Step 0#8

/-- Whether a frame passes its check; the frame of 80 zero bits fails it (R176). -/
def framePasses (f : BitVec 80) : Bool := f != 0#80 && frameCrc f == f.extractLsb' 0 8

/-- A feed position as read (R177). -/
def feedField (v : Nat) : Option Nat := if v ≤ 65534 then some v else none

/-- A field with a clamp band above its range (R177). -/
def clampField (top lastClamped v : Nat) : Option Nat :=
  if v ≤ top then some v else if v ≤ lastClamped then some top else none

/-- A temperature with its two clamp bands (R177). -/
def tempField (t : Int) : Option Int :=
  if t < -40 then none
  else if t < -20 then some (-20)
  else if t ≤ 60 then some t
  else if t ≤ 100 then some 60
  else none

/-- The values of a good frame. -/
structure FrameValues where
  feed   : Nat
  thrust : Nat
  torque : Nat
  temp   : Int
  bits   : BitVec 16
deriving DecidableEq, Repr

/-- Judges a frame: its clamped values when it is good (R176, R177). -/
def judgeFrame (f : BitVec 80) : Option FrameValues :=
  if framePasses f then
    match feedField (f.extractLsb' 48 16).toNat, clampField 6500 7499 (f.extractLsb' 32 16).toNat,
      clampField 1000 1199 (f.extractLsb' 16 16).toNat, tempField (f.extractLsb' 8 8).toInt with
    | some feed, some thrust, some torque, some temp =>
      some { feed := feed, thrust := thrust, torque := torque, temp := temp
             bits := f.extractLsb' 64 16 }
    | _, _, _, _ => none
  else none

/-! ### Good and bad frames (R178, R179, R181) -/

/-- Whether input `k` completes a change at a good frame with discrete bits `bits` (R181). -/
def Head.completes (h : Head) (bits : BitVec 16) (debounce k : Nat) : Bool :=
  (bits.getLsbD k != h.levels.getLsbD k) && decide (debounce ≤ h.changes.getD k 0 + 1)

/-- The change count of input `k` after a good frame (R181). -/
def Head.countAfter (h : Head) (bits : BitVec 16) (debounce k : Nat) : Nat :=
  if bits.getLsbD k == h.levels.getLsbD k then 0
  else if debounce ≤ h.changes.getD k 0 + 1 then 0 else h.changes.getD k 0 + 1

/-- A mask of the inputs of a list. -/
def inputMask (ks : List Nat) : BitVec 16 := ks.foldl (fun m k => m ||| (1#16 <<< k)) 0#16

/-- Debounce of the sixteen inputs at a good frame; the first good frame sets the levels directly (R181). -/
def Head.debounce (h : Head) (bits : BitVec 16) (n : Nat) : Head :=
  if h.valid then
    { h with levels := h.levels ^^^ inputMask ((List.range 16).filter (h.completes bits n))
             changes := (List.range 16).map (h.countAfter bits n) }
  else { h with levels := bits, changes := List.replicate 16 0 }

/-- The unit takes a good frame's values and bits (R178). -/
def Head.takeGood (h : Head) (v : FrameValues) (n : Nat) : Head :=
  { h.debounce v.bits n with
    feed := v.feed, thrust := v.thrust, torque := v.torque, temp := v.temp, rawBits := v.bits
    valid := true, badRun := 0
    goodRun := if h.scanLost then (if h.goodRun + 1 = 3 then 0 else h.goodRun + 1) else h.goodRun
    scanLost := h.scanLost && h.goodRun + 1 ≠ 3 }

/-- The unit takes a bad frame (R178, R179). -/
def Head.takeBad (h : Head) : Head :=
  { h with badRun := min 65535 (h.badRun + 1), badTotal := min 65535 (h.badTotal + 1), goodRun := 0
           scanLost := h.scanLost || h.badRun + 1 = 5 }

/-- Whether a frame is the bad frame that brings the bad run to 5: SCAN_LOST is set and cause SCAN is handed
at it, the mark set already or not (R179). -/
def Head.losesScan (h : Head) (f : BitVec 80) : Bool := (judgeFrame f).isNone && h.badRun + 1 == 5

/-- The Head Scan Unit takes a frame of boom `b`, with the INTERLOCK report of a setting or a clearing of
SCAN_LOST (R178, R179). -/
def State.takeFrame (s : State) (b : Boom) (f : BitVec 80) : State :=
  let h := s.head.get b
  let n := s.live P.debounce
  let s := match judgeFrame f with
    | some v => s.modHead b fun h => h.takeGood v n
    | none => s.modHead b Head.takeBad
  if h.losesScan f then s.report (.interlock (.scanLost b true))
  else if h.scanLost && !(s.head.get b).scanLost then s.report (.interlock (.scanLost b false))
  else s

/-! ### Input events (R180, R182) -/

/-- FLUSH_PRESSURE_OK becomes active: FLUSH leaves the cause set of a PAUSED boom (R17, R78). -/
def State.flushReturned (s : State) (b : Boom) : State :=
  let q := s.seq.get b
  if q.state = .paused && q.causes.flush then
    (s.modSeq b fun q => { q with causes := { q.causes with flush := false } }).notePhase b
  else s

/-- The block that takes input `k` takes its event (R180). -/
def State.takeInput (b : Boom) (s : State) (k : Nat) : State :=
  match k with
  | 0 => s.feedRetracted b
  | 1 => s.jackAtRoof b
  | 2 => s.jackLowered b
  | 3 => s.boltPresent b
  | 4 => s.readySync
  | 5 => s.cartridgePassed b
  | 6 => s.flushReturned b
  | _ => s

/-- The inputs of boom `b` active in `s` and not in `s0`. -/
def State.newInputs (s0 s : State) (b : Boom) : List Nat :=
  (List.range 16).filter fun k => s.active b k && !s0.active b k

/-- Whether the Indexer waits for boom `b`'s injector (R132). -/
def State.awaitsInjector (s : State) (b : Boom) : Bool :=
  s.idx.state = .awaitReady && (s.idx.queue.head?.map Burst.boom) = some b && !s.requesterPaused b

/-- Whether the order of the input events `ks` of one arrival can change the outcome: a CARTRIDGE_PASSED beside
the INJECTOR_READY that the Indexer awaits, or beside the FEED_RETRACTED that can take the boom through its plan
and its post to EJECTING, is accounted in EJECTING and stray before it (R10, R132, R133). -/
def State.passOrderMatters (s : State) (b : Boom) (ks : List Nat) : Bool :=
  ks.contains Input.cartridgePassed &&
    ((ks.contains Input.injectorReady && s.awaitsInjector b) ||
      (ks.contains Input.feedRetracted && (s.seq.get b).state = .retracting))

/-- The input events of one arrival. The spec gives them no order: it is free where it can change the outcome, and
elsewhere the model takes them in number order (DESIGN CHOICE, log entry 2). -/
def State.takeInputs (s : State) (b : Boom) (ks : List Nat) : State :=
  s.inOrder (s.passOrderMatters b ks) ks (State.takeInput b)

/-! ### The sample (R183) -/

/-- The reports of the Drill Governor are taken by the Sequencer (R8, R9). -/
def State.takeGovReport (s : State) (b : Boom) : GovReport → State
  | .none => s
  | .contact => s.contactMade b
  | .collarDrilled => s.enterDrilling b
  | .endOfDrilling => s.endDrilling b

/-- The Profiler and then the Governor take the sample; a third encoder jump halts the boom (R40 to R43,
R63, R9). -/
def State.drillSample (s : State) (b : Boom) (pulses : Nat) : State :=
  let p := s.prof.get b
  let adv := if p.mode = .running then p.advance (p.depthOf (s.head.get b).feed) else 0
  let drilling := (s.seq.get b).state = .drilling
  let s := s.profSample b pulses
  if p.jumps < (s.prof.get b).jumps && 3 ≤ (s.prof.get b).jumps then
    s.haltAtSample b .encoderFault
  else
    let r := s.govSample b adv drilling
    r.1.takeGovReport b r.2

/-- The reports of the Setting Controller are taken by the Sequencer (R15). -/
def State.takeSetReport (s : State) (b : Boom) : SetReport → State
  | .none => s
  | .seated => s.enterMixWait b
  | .blocked => s.halt b .boltBlocked .interrupted
  | .verdict v => s.giveVerdict b v

/-- The workers take the sample by the boom's state at its arrival, and the Sequencer their reports. -/
def State.workSample (s : State) (b : Boom) (pulses : Nat) : State :=
  match (s.seq.get b).state with
  | .collaring => s.drillSample b pulses
  | .drilling => s.drillSample b pulses
  | .boltPush =>
    let r := s.pushSample b
    r.1.takeSetReport b r.2
  | .torquing =>
    let r := s.torqueSample b pulses
    r.1.takeSetReport b r.2
  | _ => s

/-- One arrival: the frame is taken, the sample is built and taken by the workers, then the input events,
and the pause causes last (R183). -/
def State.scanArrival (s : State) (b : Boom) (f : BitVec 80) : State :=
  let s0 := s
  let wasValid := (s.head.get b).valid
  let setNow := (s.head.get b).losesScan f
  let s := s.takeFrame b f
  let ks := if wasValid then s0.newInputs s b else []
  let pulses := (s.rot.get b).samplePulses
  let s := s.modRot b fun r => { r with samplePulses := 0 }
  let s := s.workSample b pulses
  let s := s.takeInputs b ks
  let s := if s.active b Input.guardClosed then s else s.arrive b .operator
  if setNow then s.arrive b .scan else s

/-! ### Rotation (R187, R188) -/

/-- The measured rpm (R189). -/
def Rotation.rpm (r : Rotation) : Nat :=
  if r.noRotation then 0
  else match r.last with
    | none => 0
    | some (i, k) => 1000000 / (max 1 i * 25 * 2 ^ k)

/-- A rotation pulse in the Direct Input Unit; the interval is under the shift then in force (R187). -/
def Rotation.pulse (r : Rotation) : Rotation :=
  { r with samplePulses := min 255 (r.samplePulses + 1)
           last := if r.pulseSeen && !r.noRotation then some (r.interval, r.shift) else r.last
           interval := 0, noRotation := false, pulseSeen := true }

/-- The overflow of the interval count (R188). -/
def Rotation.overflow (r : Rotation) : Rotation :=
  { r with interval := 4095, noRotation := true, pulseSeen := false }

/-- The overflow is handed to the Governor and the Controller (R72, R73, R75, R108, R116). -/
def State.takeOverflow (s : State) (b : Boom) : State :=
  let turning := decide (0 < s.arb.grantOf (.boom b .rotFwd))
  match (s.seq.get b).state with
  | .mixing => if turning then s.modSett b fun c => { c with stallSeen := true } else s
  | .torquing =>
    if turning && (s.sett.get b).verdict.isNone then s.giveVerdict b .stalled else s
  | _ =>
    if s.isStall b then
      if s.secondStall b then s.halt b .drillStall .interrupted else s.startBackoff b
    else s

/-- The event of an overflow of boom `b` (R188). -/
def State.rotationOverflow (s : State) (b : Boom) : State :=
  s.finish ((s.modRot b Rotation.overflow).takeOverflow b)

/-- The tick that would take boom `b`'s count past 4,095 gives the overflow; where a pulse or a clear has come
first the count has restarted, and while NO_ROTATION is set it does not rise: no overflow is given (R188). -/
def State.tickOverflow (s : State) (b : Boom) : State :=
  if 4095 ≤ (s.rot.get b).interval && !(s.rot.get b).noRotation then s.rotationOverflow b else s

/-! ### The current reading (R164, R165) -/

/-- A channel takes its reading: the measured current, and the low-current count (R164, R165). -/
def Channel.read (c : Channel) (ma : Nat) : Channel :=
  let ma := min 5000 ma
  { c with current := ma
           lowCount :=
             if c.state ≠ .ok then c.lowCount
             else if c.shortTh < ma then 0
             else if c.duty = 0 then 0
             else if ma < c.openTh then c.lowCount + 1
             else 0 }

/-- The fault a reading finds on a channel that has taken it: a short above the short threshold, an open
coil at the third low reading, none on a channel that is not OK (R164, R165). -/
def Channel.fault (c : Channel) : Option ChState :=
  if c.state ≠ .ok then none
  else if c.shortTh < c.current then some .short
  else if 3 ≤ c.lowCount then some .openCoil
  else none

/-- Every channel takes its reading. -/
def Valve.readAll (v : Valve) (currents : List Nat) : Valve :=
  { v with channels := (List.range v.channels.length).map fun i =>
      (v.channel i).read (currents.getD i 0) }

/-- The channels a reading finds faulty, in number order. -/
def Valve.faults (v : Valve) : List (Nat × ChState) :=
  (List.range v.channels.length).filterMap fun i => (v.channel i).fault.map fun st => (i, st)

/-- A channel fault: the channel's state, the moves, the CHANNEL report, and the functions that become
FAILED (R164, R165, R169, R172, R173). It is an event of its own, with its own end (R155). -/
def State.channelFault (s : State) (x : Nat × ChState) : State :=
  let s0 := s
  let v := s.valve
  let s := s.modValve fun v =>
    (v.modChannel x.1 fun c => { c with state := x.2, duty := 0, lowCount := 0 }).moveOff x.1
  let s := s.report (.channel x.1 x.2 (routeNotes v s.valve))
  s0.finish (s.takeNewlyFailed v)

/-- The Valve Driver takes a current reading; two faults of one reading are taken in the free order (log
entry 2). -/
def State.currentReading (s : State) (currents : List Nat) : State :=
  let s := s.modValve fun v => v.readAll currents
  let fs := s.valve.faults
  s.inOrder (2 ≤ fs.length) fs State.channelFault

end Sys2Proof.Machine
end

