-- ==== Sys2Proof/Machine/Bytes.lean ====
section
/-! DEFINITION. The coding of values and frames on the line (R203): numbers, optional values, lists, sets,
the codes of the enumerations and the CRC-16. -/

namespace Sys2Proof.Machine

/-! ### Numbers, marks, sets, optional values and lists -/

/-- A number in `n` bytes, big-endian. -/
def be : Nat → Nat → List Byte
  | 0, _ => []
  | n + 1, v => be n (v / 256) ++ [BitVec.ofNat 8 v]

/-- The number that bytes spell, big-endian. -/
def fromBe (bs : List Byte) : Nat := bs.foldl (fun a x => a * 256 + x.toNat) 0

def u8 (v : Nat) : List Byte := be 1 v
def u16 (v : Nat) : List Byte := be 2 v
def u32 (v : Nat) : List Byte := be 4 v
def u64 (v : Nat) : List Byte := be 8 v

/-- A signed number in one byte, two's complement. -/
def s8 (v : Int) : List Byte := [BitVec.ofInt 8 v]

/-- A signed number in four bytes, two's complement. -/
def s32 (v : Int) : List Byte := be 4 (BitVec.ofInt 32 v).toNat

/-- A mark: 1 set, 0 clear. -/
def mark (v : Bool) : List Byte := if v then [1] else [0]

/-- The number whose bit k is the k-th member of a set. -/
def setNum : List Bool → Nat
  | [] => 0
  | x :: xs => (if x then 1 else 0) + 2 * setNum xs

/-- A set of at most eight members. -/
def set8 (l : List Bool) : List Byte := u8 (setNum l)

/-- An optional value: a presence byte, then the value when it is present. -/
def opt {α : Type} (f : α → List Byte) : Option α → List Byte
  | none => [0]
  | some x => 1 :: f x

/-- A list: a count byte, then the items. -/
def listOf {α : Type} (f : α → List Byte) (l : List α) : List Byte := u8 l.length ++ l.flatMap f

/-! ### The enumerations, each numbered from 0 in the order of its table or rule -/

def boomByte (b : Boom) : List Byte := u8 (boomNum b)

def Phase.code : Phase → Nat
  | .idle => 0
  | .manual => 1
  | .jackSet => 2
  | .collaring => 3
  | .drilling => 4
  | .retracting => 5
  | .awaitDecision => 6
  | .resinInsert => 7
  | .awaitBolt => 8
  | .boltPush => 9
  | .mixWait => 10
  | .mixing => 11
  | .gelHold => 12
  | .torquing => 13
  | .releasing => 14
  | .paused => 15
  | .halted => 16
  | .stopped => 17

def HaltReason.code : HaltReason → Nat
  | .jackNotSet => 0
  | .noContact => 1
  | .encoderFault => 2
  | .drillStall => 3
  | .retractTimeout => 4
  | .burstFailed => 5
  | .pushTimeout => 6
  | .boltBlocked => 7
  | .mixShort => 8
  | .mixInterrupted => 9
  | .valveFault => 10
  | .releaseTimeout => 11
  | .estop => 12

def Verdict.code : Verdict → Nat
  | .ok => 0
  | .early => 1
  | .slip => 2
  | .stalled => 3
  | .timeout => 4

def Choice.code : Choice → Nat
  | .proceed => 0
  | .extraFast => 1
  | .redrill => 2
  | .abandon => 3

def ProfMode.code : ProfMode → Nat
  | .inactive => 0
  | .armed => 1
  | .running => 2
  | .ended => 3

def GovStage.code : GovStage → Nat
  | .off => 0
  | .approach => 1
  | .collar => 2
  | .climb => 3
  | .cut => 4

def DrillOutcome.code : DrillOutcome → Nat
  | .planned => 0
  | .shortByPlan => 1

def BandAttr.code : BandAttr → Nat
  | .normal => 0
  | .caution => 1
  | .stop => 2

def SetStage.code : SetStage → Nat
  | .off => 0
  | .push => 1
  | .wait => 2
  | .mix => 3
  | .hold => 4
  | .torque => 5

def CartType.code : CartType → Nat
  | .fast => 0
  | .slow => 1

def SlotState.code : SlotState → Nat
  | .empty => 0
  | .loaded => 1
  | .jammed => 2

def IdxState.code : IdxState → Nat
  | .idle => 0
  | .positioning => 1
  | .awaitReady => 2
  | .ejecting => 3
  | .starved => 4
  | .fault => 5

def IdxFault.code : IdxFault → Nat
  | .stepTimeout => 0
  | .homeNotFound => 1
  | .homeMismatch => 2
  | .indexFailed => 3

def BurstEnd.code : BurstEnd → Nat
  | .done => 0
  | .readyTimeout => 1
  | .failed => 2
  | .stopped => 3

def FlowClass.code : FlowClass → Nat
  | .support => 0
  | .setting => 1
  | .work => 2

def Withheld.code : Withheld → Nat
  | .none => 0
  | .estop => 1
  | .failed => 2
  | .methane => 3

def ResMark.code : ResMark → Nat
  | .none => 0
  | .waiting => 1
  | .admitted => 2

def ChState.code : ChState → Nat
  | .ok => 0
  | .openCoil => 1
  | .short => 2

def RouteKind.code : RouteKind → Nat
  | .primary => 0
  | .alternate => 1
  | .none => 2

def PlanStatus.code : PlanStatus → Nat
  | .held => 0
  | .ready => 1

def MixEnd.code : MixEnd → Nat
  | .complete => 0
  | .short => 1
  | .interrupted => 2
  | .stopped => 3

def HoleOutcome.code : HoleOutcome → Nat
  | .complete => 0
  | .completeFlagged => 1
  | .aborted => 2
  | .faulted => 3

/-- The rows of the table of section 10.4, FITTED(A) before FITTED(B). -/
def BitState.code : BitState → Nat
  | .empty => 0
  | .serviceable => 1
  | .fitted b => 2 + boomNum b
  | .retired => 4

def ResetCause.code : ResetCause → Nat
  | .power => 0
  | .line => 1
  | .message => 2

/-- The result codes of R203. -/
def Result.code : Result → Nat
  | .ok => 0
  | .clamped => 1
  | .state => 2
  | .range => 3
  | .noSuchBoom => 4
  | .unknownKind => 5
  | .badLength => 6
  | .queueFull => 7
  | .bitRetired => 8
  | .noSuchHole => 9
  | .owned => 10
  | .causeActive => 11
  | .notChoice => 12

/-- The per-item results of LOAD_SLOTS: OK, RANGE and REFUSED_LOADED (R203). -/
def LoadResult.code : LoadResult → Nat
  | .ok => 0
  | .range => 3
  | .refusedLoaded => 13

/-! ### Sets -/

def CauseSet.bytes (c : CauseSet) : List Byte := set8 [c.operator, c.silence, c.gas, c.scan, c.flush]
def ChoiceSet.bytes (c : ChoiceSet) : List Byte := set8 [c.proceed, c.extraFast, c.redrill, c.abandon]
def SegFlags.bytes (f : SegFlags) : List Byte :=
  set8 [f.collar, f.partialSeg, f.saturated, f.encoderJump, f.stallRetry]
def PlanFlags.bytes (f : PlanFlags) : List Byte := set8 [f.boltLong, f.anchorWeak, f.shortResin]

/-! ### Frames (R203) -/

/-- The SYNC byte. -/
def sync : Byte := 0xC3

/-- One bit of the CRC-16 of R203: polynomial x¹⁶ + x¹² + x⁵ + 1. -/
def crc16Step (r : BitVec 16) (bit : Bool) : BitVec 16 :=
  if r.msb != bit then (r <<< 1) ^^^ 0x1021#16 else r <<< 1

/-- The bits of a byte, most significant first. -/
def byteBits (x : Byte) : List Bool := (List.range 8).map fun i => x.getLsbD (7 - i)

/-- The CRC-16 of a list of bytes, the remainder register preset to 0xFFFF (log entry 6). -/
def crc16 (bs : List Byte) : BitVec 16 := (bs.flatMap byteBits).foldl crc16Step 0xFFFF#16

/-- The two check bytes of the covered bytes, high byte first. -/
def checkBytes (covered : List Byte) : List Byte := u16 (crc16 covered).toNat

/-- A whole frame (R203). -/
def frameOf (kind tag : Byte) (body : List Byte) : List Byte :=
  let covered := u8 body.length ++ [kind, tag] ++ body
  sync :: covered ++ checkBytes covered

/-- The greatest LEN a frame may have (R203, R204). -/
def maxLen : Nat := 240

/-- The content bytes of one part of a reply (R206). -/
def partBytes : Nat := 237

end Sys2Proof.Machine
end

