-- ==== Sys2Proof/Machine/Encode.lean ====
section
/-! DEFINITION. The contents of reports and replies, each in the order its rule lists it, coded by R203
(widths: log entries 5 and 29; presence and count bytes: log entry 39). -/

namespace Sys2Proof.Machine

/-! ### Pieces -/

def Straps.bytes (st : Straps) : List Byte := mark st.boomB ++ mark st.magazine24 ++ mark st.linkRate

/-- A slot and type pair of a delivered list. -/
def pairBytes (x : Nat × CartType) : List Byte := u8 x.1 ++ u8 x.2.code

/-- A band as R82 gives it. -/
def Band.bytes (x : Band) : List Byte :=
  u16 x.top ++ u16 x.bottom ++ u8 x.attr.code ++ u8 x.feed ++ u16 x.rpm ++ u16 x.thrust

/-- A function's route in the form of a CHANNEL report (R173). -/
def RouteNote.bytes (n : RouteNote) : List Byte :=
  u8 n.fn ++ u8 n.kind.code ++ opt u8 n.claims ++ mark n.conflict ++ mark n.failed

/-- A timer as the time counted in ms with its running mark. -/
def Timer.bytes (t : Timer) : List Byte := u32 t.ms ++ mark t.running

/-! ### Reports (section 11.3) -/

/-- The KIND of a report. -/
def Report.kind : Report → Byte
  | .started _ _ => 0x60
  | .phase _ => 0x61
  | .segment _ _ _ _ _ _ _ => 0x62
  | .holeClosed _ _ _ _ _ _ => 0x63
  | .decisionNeeded _ _ _ _ => 0x64
  | .burst _ _ _ _ _ => 0x65
  | .magazine _ => 0x66
  | .channel _ _ _ => 0x67
  | .interlock _ => 0x68
  | .bit _ => 0x69

/-- R5. -/
def PhaseNote.bytes (n : PhaseNote) : List Byte :=
  boomByte n.b ++ u16 n.hole ++ u8 n.left.code ++ u8 n.entered.code ++
  opt (fun p => u8 p.code) n.returnPhase ++ n.causes.bytes ++ n.deferred.bytes ++
  mark n.deferredAbort ++ opt (fun r => u8 r.code) n.haltReason

/-- R134, R135, R140. An UNKNOWN position is an absent optional value (DESIGN CHOICE, log entry 39). -/
def MagazineNote.bytes : MagazineNote → List Byte
  | .jam slot t => u8 slot ++ u8 t.code
  | .starved b t => boomByte b ++ u8 t.code
  | .fault c pos => u8 c.code ++ opt u8 pos

/-- R179, R185, R186, R209; the names in the order SCAN_LOST, E_STOP, METHANE, SILENCE. -/
def Interlock.bytes : Interlock → List Byte
  | .scanLost b v => boomByte b ++ u8 0 ++ mark v
  | .eStop v => u8 1 ++ u8 (if v then 0 else 1)
  | .methane v => u8 2 ++ u8 (if v then 0 else 1)
  | .silence v => u8 3 ++ mark v

/-- R198, R199; the kinds WORN 0 and RETIRED 1. The kind byte of RETIRED stands last, as R198 lists it for WORN
(log entry 36). The boom of WORN is an optional value, absent for a position on no boom (log entry 39). -/
def BitNote.bytes : BitNote → List Byte
  | .worn pos b wear limit => u8 pos ++ opt boomByte b ++ u32 wear ++ u32 limit ++ u8 0
  | .retired pos b wear holes limit =>
    u8 pos ++ boomByte b ++ u32 wear ++ u16 holes ++ u32 limit ++ u8 1

/-- The content of a report, after its status byte. -/
def Report.bytes : Report → List Byte
  | .started c st => u8 c.code ++ Straps.bytes st
  | .phase n => n.bytes
  | .segment b hole index bottom se cls flags =>
    boomByte b ++ u16 hole ++ u8 index ++ u16 bottom ++ u16 se ++ u8 cls.rank ++ flags.bytes
  | .holeClosed hole b outcome reason verdict queued =>
    u16 hole ++ boomByte b ++ outcome.elim [] (fun o => u8 o.code) ++
    opt (fun r => u8 r.code) reason ++ opt (fun v => u8 v.code) verdict ++ u8 queued
  | .decisionNeeded b hole weak choices =>
    boomByte b ++ u16 hole ++ u8 (if weak then 1 else 0) ++ choices.bytes
  | .burst b hole kind length delivered =>
    boomByte b ++ u16 hole ++ u8 kind.code ++ u8 length ++ listOf pairBytes delivered
  | .magazine n => n.bytes
  | .channel ch st changed => u8 ch ++ u8 st.code ++ listOf RouteNote.bytes changed
  | .interlock n => n.bytes
  | .bit n => n.bytes

/-! ### GET_STATUS (R36, R61, R83, R121, R190, R208) -/

/-- The UNIT section; the raw and then the qualified level of each input, a byte each, 1 for the active level (log
entry 30), and TRAM_ENABLE on as 1 (log entry 8). -/
def State.unitBytes (s : State) : List Byte :=
  u8 s.resetCause.code ++ Straps.bytes s.straps ++
  u8 (if s.diu.estop then 0 else 1) ++ u32 s.diu.releaseTimer.ms ++
  u8 (if s.diu.methane then 0 else 1) ++ u32 s.diu.clearTimer.ms ++
  mark s.diu.rawEstop ++ mark s.diu.estop ++ mark s.diu.rawMethane ++ mark s.diu.methane ++
  mark s.diu.rawIndexHome ++ mark s.diu.indexHome ++ mark s.diu.rawIndexStep ++ mark s.diu.indexStep ++
  u8 (s.live P.stallTickShift) ++ u8 (s.live P.debounce) ++ mark s.tram ++
  mark s.link.silence ++ u32 s.link.presence.ms ++
  u8 s.link.inbound.length ++ u8 s.link.replies.length ++ u8 s.link.reports.length ++
  mark s.link.dropped ++ mark s.link.overrun

/-- The jog setpoints of a boom; FLUSH on is 1 (log entry 8). -/
def Jogs.bytes (j : Jogs) : List Byte :=
  u16 j.jackUp ++ u16 j.jackDown ++ u16 j.feedUp ++ u16 j.feedDown ++ u16 j.rotFwd ++ u16 j.rotRev ++
  mark j.flush

/-- The SEQUENCE section (R36). -/
def Sequencer.bytes (q : Sequencer) : List Byte :=
  u8 q.state.code ++ opt (fun p => u8 p.code) q.returnPhase ++ q.causes.bytes ++ q.deferred.bytes ++
  mark q.deferredAbort ++ mark q.abortPending ++ opt (fun r => u8 r.code) q.haltReason ++
  opt (fun p => u8 p.code) q.stoppedFrom ++ q.choices.bytes ++ mark q.holdComplete ++
  opt u16 q.hole ++ u32 q.timer.ms ++ q.jogs.bytes

/-- The open segment as R61 gives it (the ranges of Lseg and of the sample count: R45, R50, log entry 29). -/
def OpenSeg.bytes (g : OpenSeg) : List Byte :=
  u16 g.top ++ u8 g.lseg ++ u8 g.samples ++ g.flags.bytes

/-- The PROFILE section (R61; no rule states a range for the current depth, so R203 gives it 4 bytes, and the collar
reference has the range of a feed position: log entry 29; the open segment under one presence byte: log entry 39). -/
def State.profileBytes (s : State) (b : Boom) : List Byte :=
  let p := s.prof.get b
  u8 p.mode.code ++ opt u16 p.collarRef ++ u32 p.depth ++ u16 p.maxDepth ++ u8 p.jumps ++
  u8 (((s.rec? b).map fun r => r.segments.length).getD 0) ++ opt OpenSeg.bytes p.openSeg

/-- The DRILL section (R83); FLUSH on is 1 and off 0, as a mark (log entry 8). The ranges of the targets, of the
band in force, of the demands and of the back-off target: log entry 29. -/
def Governor.bytes (g : Governor) : List Byte :=
  u8 g.stage.code ++ opt (fun c => u8 c.rank) g.cls ++ u8 g.feedTarget ++ u16 g.rpmTarget ++
  u16 g.thrustCap ++ opt u8 g.band ++ u16 g.feedUp ++ u16 g.feedDown ++ u16 g.rotFwd ++
  mark g.flush ++ mark g.backingOff ++ opt u16 (if g.backingOff then some g.backoffTarget else none) ++
  mark g.approachStall ++ u32 g.flushTimer.ms ++ opt (fun o => u8 o.code) g.outcome

/-- The SETTING section (R121). No rule states a range for the push advance, so R203 gives it 4 bytes; the push origin
has the range of a feed position, the peak torque of a torque and the demands of an asked demand (log entry 29). -/
def State.settingBytes (s : State) (b : Boom) : List Byte :=
  let c := s.sett.get b
  let r := s.arb.res.get b
  u8 c.stage.code ++ opt u16 c.pushOrigin ++ u32 c.pushAdvance ++ u8 r.mark.code ++ u32 r.amount ++
  u16 c.mixPulses ++ mark c.stallSeen ++ s8 c.gelTemp ++ u8 c.gelFactor ++ u16 c.holdTime ++
  c.gelTimer.bytes ++ u32 c.turns ++ opt u32 c.snug ++ u16 c.angle ++ u16 c.peak ++
  opt (fun v => u8 v.code) c.verdict ++ u16 c.feedUp ++ u16 c.rotFwd

/-- The INPUTS section (R190); input by input the debounced level, the change count and the active state, a
byte each (log entry 30), and the last interval with its shift under one presence byte (log entry 39). -/
def State.inputBytes (s : State) (b : Boom) : List Byte :=
  let h := s.head.get b
  let r := s.rot.get b
  u16 h.feed ++ u16 h.thrust ++ u16 h.torque ++ s8 h.temp ++ mark h.valid ++ u16 h.rawBits.toNat ++
  ((List.range 16).flatMap fun k =>
    mark (h.levels.getLsbD k) ++ u8 (h.changes.getD k 0) ++ mark (s.active b k)) ++
  u16 h.badRun ++ u8 h.goodRun ++ mark h.scanLost ++ u16 h.badTotal ++ u16 (s.polarity b).toNat ++
  u16 r.interval ++ mark r.noRotation ++ opt (fun x => u16 x.1 ++ u8 x.2) r.last ++ u32 r.rpm

/-! ### The magazine (R142) -/

def Slot.bytes (x : Slot) : List Byte :=
  u8 x.state.code ++ opt (fun t => u8 t.code) x.type ++ opt u32 x.seq ++ u8 x.fails

/-- A queued request, with its mark of being the burst in service. -/
def Burst.bytes (inService : Bool) (r : Burst) : List Byte :=
  boomByte r.boom ++ u16 r.hole ++ listOf (fun t => u8 t.code) r.types ++ u8 r.progress ++
  listOf pairBytes r.delivered ++ mark inService

def Indexer.queueBytes (x : Indexer) : List Byte :=
  u8 x.queue.length ++
  match x.queue with
  | [] => []
  | r :: rest => r.bytes x.serving ++ rest.flatMap (Burst.bytes false)

/-- The GET_MAGAZINE reply (R142). No rule states a range for the steps remaining and the home step count, so R203
gives them 4 bytes; the INDEX demand has the range of an asked demand (log entry 29; the type of a selected slot
without a request: log entry 26). R203 names no code for an UNKNOWN
carousel position, and the model sends it as an absent optional value, presence byte 0; the selected slot and its
wanted type have one presence byte together (DESIGN CHOICE, log entry 39). -/
def Indexer.bytes (x : Indexer) : List Byte :=
  u8 x.slots.length ++ x.slots.flatMap Slot.bytes ++ u32 x.seqCounter ++ u8 x.state.code ++
  opt u8 x.position ++
  opt (fun n => u8 n ++ u8 ((x.queue.head?.bind Burst.wanted).getD .fast).code) x.selected ++
  u32 x.remaining ++ mark x.homing ++ u32 x.homeCount ++ mark x.stopMark ++
  opt (fun c => u8 c.code) x.fault ++ x.stepTimer.bytes ++ x.readyTimer.bytes ++ x.passTimer.bytes ++
  u16 x.demand ++ u16 x.strayPass ++ x.queueBytes

/-! ### Valves and flow (R159, R161, R168, R173) -/

/-- The six settings of a channel; polarity HIGH 0, LOW 1. -/
def Channel.settings (c : Channel) : List Byte :=
  u16 c.dmin ++ u16 c.dmax ++ u16 c.qmax ++ u8 (if c.polarityHigh then 0 else 1) ++ u16 c.openTh ++
  u16 c.shortTh

def Channel.bytes (c : Channel) : List Byte :=
  c.settings ++ u8 c.state.code ++ u16 c.duty ++ u16 c.current ++ u8 c.lowCount ++
  opt (fun (f : Fn) => u8 f.num) c.driving

/-- A function's entry, its route and its ROUTE_CONFLICT flag (R168). -/
def Route.bytes (r : Route) : List Byte :=
  u8 r.primary ++ opt u8 r.alternate ++ u8 r.kind.code ++ mark r.conflict

/-- A function as GET_CHANNELS gives it. -/
def Valve.fnBytes (v : Valve) (f : Fn) : List Byte :=
  let r := v.route f
  u8 r.primary ++ opt u8 r.alternate ++ u8 r.kind.code ++ opt u8 r.claims ++ mark r.conflict ++
  mark (v.isFailed f)

/-- The GET_CHANNELS reply. -/
def Valve.bytes (v : Valve) : List Byte :=
  v.channels.flatMap Channel.bytes ++ allFns.flatMap v.fnBytes

/-- A function record of GET_FLOW (R159; no rule states a range for the grant, so R203 gives it 4 bytes: log entry
29). -/
def FlowRec.bytes (r : FlowRec) : List Byte :=
  u8 r.fn.num ++ u16 r.asked ++ u8 r.cls.code ++ u16 r.effective ++ u8 r.cause.code ++ u32 r.grant ++
  mark r.limited

/-- The total of a class and the sum granted to it, as the last computation left them. -/
def Arbiter.classBytes (a : Arbiter) (c : FlowClass) : List Byte :=
  u32 (classTotal a.flow c) ++ u32 (classGranted a.flow c)

/-- The margin of a waiting entry (R159). -/
def State.margin (s : State) (b : Boom) : Int :=
  (s.live P.pumpFlow : Int) - (s.supportTotal : Int) - (s.arb.admittedSum : Int) -
  ((s.arb.res.get b).amount : Int)

/-- The GET_FLOW reply; a waiting entry's margin stands in the list beside its boom, before the admitted sum
(log entry 31). -/
def State.flowBytes (s : State) : List Byte :=
  u16 (s.live P.pumpFlow) ++ u8 (if s.arb.estop then 0 else 1) ++ u8 (if s.arb.methane then 0 else 1) ++
  s.arb.flow.flatMap FlowRec.bytes ++
  s.arb.classBytes .support ++ s.arb.classBytes .setting ++ s.arb.classBytes .work ++
  u32 s.arb.unused ++
  s.booms.flatMap (fun b => u8 (s.arb.res.get b).mark.code ++ u32 (s.arb.res.get b).amount) ++
  listOf (fun b => boomByte b ++ s32 (s.margin b)) s.arb.waiting ++ u32 s.arb.admittedSum

/-! ### Hole Records (R195, R196) -/

def Spec.bytes (x : Spec) : List Byte :=
  u16 x.planned ++ u16 x.holeDia ++ u16 x.boltLen ++ u16 x.boltDia ++ u8 x.fastCount

/-- The indices of up to 24 snapshot entries from parameter index `start` on. -/
def snapshotIndices (start : Nat) : List Nat :=
  ((List.range 73).filter fun i => isHoleParam i && start ≤ i).take 24

def HoleRecord.headerBytes (r : HoleRecord) (isOpen : Bool) (start : Nat) : List Byte :=
  u16 r.number ++ boomByte r.boom ++ u8 r.bitPos ++ u8 (if isOpen then 0 else 1) ++ r.spec.bytes ++
  opt u16 r.drilledDepth ++ opt (fun o => u8 o.code) r.drillOutcome ++
  opt (fun c => u8 c.code) r.decision ++ set8 [r.profileFull, r.bitWorn] ++
  opt (fun o => u8 o.code) r.outcome ++ opt (fun h => u8 h.code) r.haltReason ++
  u8 r.segments.length ++ u8 ((r.layers.getD []).length) ++ listOf Band.bytes r.bands ++
  listOf (fun i => u8 i ++ u32 (r.params.getD i 0)) (snapshotIndices start)

/-- An entry of the Segment Table (R50). -/
def Segment.bytes (g : Segment) : List Byte :=
  u8 g.index ++ u16 g.top ++ u16 g.bottom ++ u8 g.samples ++ u16 g.se ++ u8 g.cls.rank ++ g.flags.bytes

def HoleRecord.segmentBytes (r : HoleRecord) (start : Nat) : List Byte :=
  u8 r.segments.length ++ listOf Segment.bytes ((r.segments.drop start).take 40)

/-- A layer (R60). No rule states a range for its top and bottom in mm and its segment count, so R203 gives them 4
bytes; its SE figures have the range of an SE (R47, log entry 29). -/
def Layer.bytes (l : Layer) : List Byte :=
  u32 l.top ++ u32 l.bottom ++ u8 l.cls.rank ++ u32 l.count ++ u16 l.minSe ++ u16 l.maxSe ++ u16 l.meanSe

def HoleRecord.layerBytes (r : HoleRecord) (start : Nat) : List Byte :=
  mark r.layers.isSome ++ u8 ((r.layers.getD []).length) ++
  listOf Layer.bytes (((r.layers.getD []).drop start).take 16)

/-- The plan record (R85). No rule states a range for Dd, Bt, Le and nv, so R203 gives them 4 bytes (log entry 29);
each field that R85 may leave out has its presence byte (log entry 39). -/
def Plan.bytes (p : Plan) : List Byte :=
  u8 p.pass ++ u8 p.status.code ++ u32 p.dd ++ u32 p.bt ++ p.flags.bytes ++ opt u32 p.le ++ opt u32 p.nv ++
  opt u8 p.nfEff ++ opt u64 p.vreq ++ opt u8 p.ns ++ opt (listOf fun (t : CartType) => u8 t.code) p.types

def HoleRecord.resinBytes (r : HoleRecord) : List Byte :=
  opt Plan.bytes r.plan ++ listOf pairBytes r.delivered

/-- The mix result (R107). No rule states a range for the revolutions, so R203 gives them 4 bytes (log entry 29); R98
states that of the pulses. -/
def MixResult.bytes (m : MixResult) : List Byte :=
  u16 m.pulses ++ u32 m.revs ++ u32 m.timeMs ++ mark m.stallSeen ++ u8 m.ending.code

def GelHold.bytes (g : GelHold) : List Byte :=
  s8 g.temp ++ u8 g.factor ++ u16 g.hold ++ u32 g.elapsed

/-- The torque result (R118; the peak torque has the range of a torque: R177, log entry 29). -/
def TorqueResult.bytes (t : TorqueResult) : List Byte :=
  u16 t.peak ++ opt u32 t.snug ++ u16 t.angle ++ u32 t.turns ++ opt (fun v => u8 v.code) t.verdict

def HoleRecord.settingBytes (r : HoleRecord) : List Byte :=
  opt MixResult.bytes r.mix ++ opt GelHold.bytes r.gel ++ opt TorqueResult.bytes r.torque

/-- The LIST_HOLES reply (R196). -/
def State.holeListBytes (s : State) : List Byte :=
  listOf (fun r =>
    u16 (HoleRecord.number r) ++ boomByte r.boom ++ r.outcome.elim [] (fun o => u8 o.code)) s.store.queue ++
  s.booms.flatMap fun b => opt (fun r => u16 (HoleRecord.number r)) (s.rec? b)

/-! ### The Bit Table (R202) -/

def BitPos.bytes (p : BitPos) : List Byte :=
  u8 p.state.code ++ u32 p.kj ++ u16 p.holes ++ mark p.worn

/-- The GET_BITS reply; the advised bit and its WORN flag have one presence byte together (log entry 39). -/
def State.bitBytes (s : State) : List Byte :=
  s.bits.flatMap BitPos.bytes ++ u32 (s.live P.bitWearLimit) ++
  opt (fun p => u8 p ++ mark (s.bitAt p).worn) s.advisedBit

end Sys2Proof.Machine
end

