-- ==== Sys2Proof/Machine/Operands.lean ====
section
/-! DEFINITION. The fields of a request's body: how each is read, and the length that the fields give
(R203, R205; log entry 5). -/

namespace Sys2Proof.Machine

/-! ### Reading a body -/

/-- The number in one byte at offset `k`. -/
def byteAt (body : List Byte) (k : Nat) : Nat := (body.getD k 0).toNat

/-- The number in `n` bytes at offset `k`. -/
def numAt (body : List Byte) (k n : Nat) : Nat := fromBe ((body.drop k).take n)

/-- The boom a byte names. -/
def boomOfByte (v : Nat) : Option Boom := if v = 0 then some .A else if v = 1 then some .B else none

/-- The boom named at offset `k`, when it exists; R1 and the boom checks give NO_SUCH_BOOM otherwise. -/
def State.boomAt (s : State) (body : List Byte) (k : Nat) : Option Boom :=
  match boomOfByte (byteAt body k) with
  | some b => if s.present b then some b else none
  | none => none

/-- Whether a function is of a boom that is absent (R1). -/
def State.absentFn (s : State) : Fn → Bool
  | .boom b _ => !s.present b
  | _ => false

/-- The type a byte names. -/
def typeOfByte (v : Nat) : Option CartType := if v = 0 then some .fast else if v = 1 then some .slow else none

/-- The choice a byte names (R12). -/
def choiceOfByte (v : Nat) : Option Choice :=
  match v with
  | 0 => some .proceed
  | 1 => some .extraFast
  | 2 => some .redrill
  | 3 => some .abandon
  | _ => none

/-- The attribute a byte names (section 3.7). -/
def attrOfByte (v : Nat) : Option BandAttr :=
  match v with
  | 0 => some .normal
  | 1 => some .caution
  | 2 => some .stop
  | _ => none

/-- The items of a list whose items have `n` bytes each. -/
def chunks (n : Nat) : Nat → List Byte → List (List Byte)
  | 0, _ => []
  | k + 1, bs => bs.take n :: chunks n k (bs.drop n)

/-- A hole spec (section 1.2). -/
def specAt (body : List Byte) (k : Nat) : Spec :=
  { planned := numAt body k 2, holeDia := numAt body (k + 2) 2, boltLen := numAt body (k + 4) 2
    boltDia := numAt body (k + 6) 2, fastCount := byteAt body (k + 8) }

/-- Whether every field of a hole spec lies in its range (R3). -/
def Spec.inRange (x : Spec) : Bool :=
  300 ≤ x.planned && x.planned ≤ 2500 && 200 ≤ x.holeDia && x.holeDia ≤ 450 &&
  300 ≤ x.boltLen && x.boltLen ≤ 2600 && 120 ≤ x.boltDia && x.boltDia ≤ 300 &&
  x.boltDia + 20 ≤ x.holeDia && 1 ≤ x.fastCount && x.fastCount ≤ 3

/-- A band of a SET_BANDS body, absent when its attribute is none of the three. -/
def bandOf (bs : List Byte) : Option Band :=
  (attrOfByte (byteAt bs 4)).map fun a =>
    { top := numAt bs 0 2, bottom := numAt bs 2 2, attr := a, feed := byteAt bs 5
      rpm := numAt bs 6 2, thrust := numAt bs 8 2 }

/-! ### The length that the fields give -/

/-- A body of exactly `n` bytes. -/
def fixedLen (n : Nat) (body : List Byte) : Bool := body.length == n

/-- PING carries 0 to 32 bytes (R208). -/
def pingLen (body : List Byte) : Bool := body.length ≤ 32

/-- GET_STATUS: UNIT names no boom, the boom sections name one; a section that is none of the six is judged
by R208 whichever length it comes with. -/
def statusLen (body : List Byte) : Bool :=
  match body with
  | [] => false
  | x :: rest =>
    if x.toNat = 0 then rest.length == 0
    else if x.toNat < 6 then rest.length == 1
    else rest.length ≤ 1

/-- SET_BANDS: a boom, then a list of bands of ten bytes. -/
def bandsLen (body : List Byte) : Bool := 2 ≤ body.length && body.length == 2 + 10 * byteAt body 1

/-- LOAD_SLOTS: a list of items of two bytes. -/
def slotsLen (body : List Byte) : Bool := 1 ≤ body.length && body.length == 1 + 2 * byteAt body 0

/-- SET_ROUTE: a function, a primary and an optional alternate, whose presence byte is 0 or 1; any other
presence byte gives no length a body could have, and so BAD_LENGTH (log entry 32). -/
def routeLen (body : List Byte) : Bool :=
  (body.length == 3 && byteAt body 2 == 0) || (body.length == 4 && byteAt body 2 == 1)

/-! ### Clamping -/

/-- A value replaced by the nearest value of a range. -/
def clampTo (lo hi v : Nat) : Nat := max lo (min hi v)

/-- The window of R211 for a parameter of an ordered group, from the live values of the others; the whole
range for any other. -/
def State.window (s : State) (r : ParamRow) : Nat × Nat :=
  if r.index = P.t1 then (1, s.live P.t2 - 1)
  else if r.index = P.t2 then (s.live P.t1 + 1, s.live P.t3 - 1)
  else if r.index = P.t3 then (s.live P.t2 + 1, s.live P.t4 - 1)
  else if r.index = P.t4 then (s.live P.t3 + 1, 65000)
  else if r.index = P.snugTorque then (10, s.live P.torqueTarget - 10)
  else if r.index = P.torqueTarget then (max 50 (s.live P.snugTorque + 10), 800)
  else if r.index = P.angleMin then (0, s.live P.angleMax - 1)
  else if r.index = P.angleMax then (s.live P.angleMin + 1, 600)
  else (r.lo, r.hi)

/-- The value SET_PARAM stores: the range clamp first, the ordering clamp second (R210, R211). -/
def State.storedValue (s : State) (r : ParamRow) (v : Nat) : Nat :=
  let w := s.window r
  clampTo w.1 w.2 (clampTo r.lo r.hi v)

/-! ### Taking a request (R205, R206) -/

/-- Places a reply behind every reply queued. -/
def State.reply (s : State) (kind tag : Byte) (r : Result) (content : List Byte) : State :=
  s.modLink fun l =>
    { l with replies := l.replies ++
        [{ kind := kind, tag := tag, result := r, content := content, sent := 0 }] }

/-- A good frame joins the inbound queue, or is discarded with INBOUND_OVERRUN when it is full (R204). -/
def Link.join (l : Link) (f : Frame) : Link :=
  if l.inbound.length < inboundPlaces then { l with inbound := l.inbound ++ [f] }
  else { l with overrun := true }

/-- Whether the Link Port takes a request: a reply place is free, and no RESTART has been taken (R205,
R206, R214). -/
def State.takes (s : State) : Bool := s.link.replies.length < replyPlaces && !s.link.restarting

/-- What a request's owner answers: the state after it, the result and the content. -/
abbrev Answer := State × Result × List Byte

/-- A refusal: nothing changes. -/
def State.refuse (s : State) (r : Result) : Answer := (s, r, [])

/-- Takes a request whose body the length rule `len` judges and the owner `f` answers; without a free reply
place the frame waits in the inbound queue (R205, R206). -/
def State.takeRequest (s : State) (kind tag : Byte) (body : List Byte) (len : List Byte → Bool)
    (f : State → Answer) : State :=
  if s.power ≠ .running then s
  else if !s.takes then s.modLink fun l => l.join { kind := kind, tag := tag, body := body }
  else if !len body then s.reply kind tag .badLength []
  else
    let a := f s
    a.1.reply kind tag a.2.1 a.2.2

end Sys2Proof.Machine
end

