-- ==== Sys2Proof/Machine/LinkRequests.lean ====
section
/-! DEFINITION. The requests of the group "link and unit": PING, GET_STATUS, SET_PARAM, GET_PARAM and
RESTART (R208 to R211, R214), and the reply to an unknown KIND (R205). -/

namespace Sys2Proof.Machine

/-! ### PING and GET_STATUS (R208) -/

/-- PING echoes its body. -/
def execPing (tag : Byte) (body : List Byte) (s : State) : Host.Outcome State Fault Refusal :=
  .next (s.takeRequest 0x01 tag body pingLen fun s => (s, .ok, body))

/-- The content of a boom section of GET_STATUS. -/
def State.sectionBytes (s : State) (b : Boom) : Nat → List Byte
  | 1 => (s.seq.get b).bytes
  | 2 => s.profileBytes b
  | 3 => (s.gov.get b).bytes
  | 4 => s.settingBytes b
  | _ => s.inputBytes b

/-- What GET_STATUS answers: UNIT 0, then SEQUENCE, PROFILE, DRILL, SETTING and INPUTS 1 to 5. -/
def State.answerStatus (body : List Byte) (s : State) : Answer :=
  let sec := byteAt body 0
  if 5 < sec then s.refuse .range
  else if sec = 0 then (s, .ok, s.unitBytes)
  else match s.boomAt body 1 with
    | none => s.refuse .noSuchBoom
    | some b => (s, .ok, s.sectionBytes b sec)

def execGetStatus (tag : Byte) (body : List Byte) (s : State) : Host.Outcome State Fault Refusal :=
  .next (s.takeRequest 0x02 tag body statusLen (State.answerStatus body))

/-! ### Expiry of the presence timer (R209) -/

/-- The presence timer expires: SILENCE is set with its effects, in the free order where an admission can
tell it (log entry 2). -/
def State.presenceExpired (s : State) : State :=
  let limit := s.live P.presenceTimeout
  let s := s.modLink fun l => { l with presence := l.presence.expire limit, silence := true }
  let s := s.report (.interlock (.silence true))
  s.inOrder (!s.arb.waiting.isEmpty) (s.booms.map SilencePlace.boom ++ [.jogs, .tram]) State.takeSilence

/-! ### Expiry of the Indexer's timers (R125) -/

/-- The ready-wait timer reaches READY_WAIT (R132). -/
def State.readyExpired (s : State) : State :=
  let limit := s.live P.readyWait
  (s.modIdx fun x => { x with readyTimer := x.readyTimer.expire limit }).endBurst .readyTimeout

/-- The pass timer reaches PASS_TIMEOUT (R134). -/
def State.passExpired (s : State) : State :=
  let limit := s.live P.passTimeout
  (s.modIdx fun x => { x with passTimer := x.passTimer.expire limit }).passFailed

/-- The step timer reaches STEP_TIMEOUT (R129, R130). -/
def State.stepExpired (s : State) : State :=
  let limit := s.live P.stepTimeout
  (s.modIdx fun x => { x with stepTimer := x.stepTimer.expire limit }).idxFault .stepTimeout

/-! ### SET_PARAM and GET_PARAM (R210, R211) -/

/-- Takes the input events that a change of mask gives boom `b` (R182). -/
def State.maskEvents (s0 s : State) (b : Boom) : State :=
  if s.present b then s.takeInputs b (s0.newInputs s b) else s

/-- The owner's rule acts on a write of parameter `i`; `s0` is the state before it. -/
def State.paramWritten (s0 s : State) (i : Nat) : State :=
  if i = P.presenceTimeout then
    if s.link.presence.due (s.live i) then s.presenceExpired else s
  else if i = P.bitWearLimit then (List.range 8).foldl State.evalWorn s
  else if i = P.inputPolarityA then s0.maskEvents s .A
  else if i = P.inputPolarityB then s0.maskEvents s .B
  else if i = P.indexFlow then
    s.modIdx fun x => { x with demand := if x.demand = 0 then 0 else s.live i }
  else if i = P.readyWait then
    if s.idx.state = .awaitReady && s.live i * ticksPerMs ≤ s.idx.readyTimer.ticks then s.readyExpired else s
  else if i = P.passTimeout then
    if s.idx.state = .ejecting && s.idx.passTimer.due (s.live i) then s.passExpired else s
  else if i = P.stepTimeout then
    if s.idx.state = .positioning && s.idx.stepTimer.due (s.live i) then s.stepExpired else s
  else s

/-- Stores a parameter's live value. -/
def State.storeParam (s : State) (i v : Nat) : State := { s with params := s.params.set i v }

/-- SET_PARAM: an index and a 4-byte value (R210). -/
def State.answerSetParam (body : List Byte) (s : State) : Answer :=
  let i := byteAt body 0
  let v := numAt body 1 4
  match paramRow? i with
  | none => s.refuse .range
  | some r =>
    let w := s.storedValue r v
    let s' := (s.paramWritten (s.storeParam i w) i).finishFrom s.onStates (i = P.pumpFlow) false
    (s', if w = v then .ok else .clamped, u8 i ++ u32 w)

def execSetParam (tag : Byte) (body : List Byte) (s : State) : Host.Outcome State Fault Refusal :=
  .next (s.takeRequest 0x03 tag body (fixedLen 5) (State.answerSetParam body))

/-- GET_PARAM: the live value of an index (R210). -/
def State.answerGetParam (body : List Byte) (s : State) : Answer :=
  match paramRow? (byteAt body 0) with
  | none => s.refuse .range
  | some r => (s, .ok, u32 (s.live r.index))

def execGetParam (tag : Byte) (body : List Byte) (s : State) : Host.Outcome State Fault Refusal :=
  .next (s.takeRequest 0x04 tag body (fixedLen 1) (State.answerGetParam body))

/-! ### RESTART and an unknown KIND (R205, R214) -/

/-- RESTART: no further request is taken after it (R214). -/
def State.answerRestart (s : State) : Answer := (s.modLink fun l => { l with restarting := true }, .ok, [])

def execRestart (tag : Byte) (body : List Byte) (s : State) : Host.Outcome State Fault Refusal :=
  .next (s.takeRequest 0x05 tag body (fixedLen 0) State.answerRestart)

/-- A KIND that is not in the catalogue, which is judged before the length (R205). -/
def execUnknownKindRequest (kind tag : Byte) (body : List Byte) (s : State) :
    Host.Outcome State Fault Refusal :=
  .next (s.takeRequest kind tag body (fun _ => true) fun s => s.refuse .unknownKind)

end Sys2Proof.Machine
end

