-- ==== Sys2Proof/Machine/CycleRequests.lean ====
section
/-! DEFINITION. The requests of the groups "cycle" and "manual": START_HOLE, DECIDE, PAUSE, RESUME,
ABORT_HOLE, CLEAR_STOP, JOG, END_MANUAL and TRAM (chapter 1). -/

namespace Sys2Proof.Machine

/-- Ends a request's event that may have changed any block, with the result `r` and content `c`. -/
def State.done (s0 s : State) (r : Result) (c : List Byte) : Answer := (s0.finish s, r, c)

/-! ### START_HOLE (R3, R4) -/

/-- Whether the boom's fitted bit is below the wear limit (R3, check 4). -/
def State.bitUsable (s : State) (b : Boom) : Bool :=
  match s.fittedPos b with
  | some p => !s.wornOut (s.bitAt p).wear
  | none => false

/-- The checks (2) to (5) of R3, in order: the first that fails gives the result. -/
def State.startRefusal (s : State) (b : Boom) (spec : Spec) : Option Result :=
  if (s.seq.get b).state ≠ .idle || s.tram then some .state
  else if !spec.inRange then some .range
  else if !s.bitUsable b then some .bitRetired
  else if recordPlaces ≤ s.store.held then some .queueFull
  else none

/-- The number the Hole Store gives the next hole (R191). -/
def State.nextHole (s : State) : Nat := freeNumber s.store.numbers 8 s.store.counter

/-- The hole is opened: number, record, and the Sequencer's marks cleared (R4, R191). -/
def State.openHole (s : State) (b : Boom) (spec : Spec) : State :=
  let n := s.nextHole
  let r := HoleRecord.fresh n b ((s.fittedPos b).getD 0) spec (s.bands.get b) (holeCopy s.params)
  let s := s.modStore fun st => { st with opened := st.opened.set b (some r), counter := nextNumber n }
  s.modSeq b fun q =>
    { q with hole := some n, haltReason := none, closing := none, choices := .empty
             deferred := .empty, deferredAbort := false, abortPending := false, holdComplete := false }

def State.answerStartHole (body : List Byte) (s : State) : Answer :=
  match s.boomAt body 0 with
  | none => s.refuse .noSuchBoom
  | some b =>
    let spec := specAt body 1
    match s.startRefusal b spec with
    | some r => s.refuse r
    | none => s.done ((s.openHole b spec).enterJackSet b) .ok (u16 s.nextHole)

def execStartHole (tag : Byte) (body : List Byte) (s : State) : Host.Outcome State Fault Refusal :=
  .next (s.takeRequest 0x10 tag body (fixedLen 10) (State.answerStartHole body))

/-! ### DECIDE (R12) -/

/-- DECIDE: the boom (R1), then the refusals in the order of R12's sentences: RANGE, STATE, NOT_CHOICE (DEDUCED from
R205, log entry 43). -/
def State.answerDecide (body : List Byte) (s : State) : Answer :=
  match s.boomAt body 0 with
  | none => s.refuse .noSuchBoom
  | some b =>
    match choiceOfByte (byteAt body 1) with
    | none => s.refuse .range
    | some c =>
      if (s.seq.get b).state ≠ .awaitDecision then s.refuse .state
      else if !(s.seq.get b).choices.has c then s.refuse .notChoice
      else s.done (s.decideTaken b c) .ok []

def execDecide (tag : Byte) (body : List Byte) (s : State) : Host.Outcome State Fault Refusal :=
  .next (s.takeRequest 0x11 tag body (fixedLen 2) (State.answerDecide body))

/-! ### PAUSE, RESUME, ABORT_HOLE and CLEAR_STOP (R21, R22, R28, R31) -/

def State.answerPause (body : List Byte) (s : State) : Answer :=
  match s.boomAt body 0 with
  | none => s.refuse .noSuchBoom
  | some b =>
    let p := (s.seq.get b).state
    if p.automatic || p = .paused then s.done (s.arrive b .operator) .ok [] else s.refuse .state

def execPause (tag : Byte) (body : List Byte) (s : State) : Host.Outcome State Fault Refusal :=
  .next (s.takeRequest 0x12 tag body (fixedLen 1) (State.answerPause body))

def State.answerResume (body : List Byte) (s : State) : Answer :=
  match s.boomAt body 0 with
  | none => s.refuse .noSuchBoom
  | some b =>
    if (s.seq.get b).state ≠ .paused then s.refuse .state
    else if s.causeActive b then s.refuse .causeActive
    else s.done (s.resumeBoom b) .ok []

def execResume (tag : Byte) (body : List Byte) (s : State) : Host.Outcome State Fault Refusal :=
  .next (s.takeRequest 0x13 tag body (fixedLen 1) (State.answerResume body))

def State.answerAbort (body : List Byte) (s : State) : Answer :=
  match s.boomAt body 0 with
  | none => s.refuse .noSuchBoom
  | some b =>
    let a := s.abortHole b
    if a.2 = .ok then s.done a.1 .ok [] else s.refuse a.2

def execAbortHole (tag : Byte) (body : List Byte) (s : State) : Host.Outcome State Fault Refusal :=
  .next (s.takeRequest 0x14 tag body (fixedLen 1) (State.answerAbort body))

def State.answerClearStop (s : State) : Answer :=
  if s.diu.estop then s.refuse .state
  else if s.booms.all (fun b => (s.seq.get b).state ≠ .stopped) then s.refuse .state
  else s.done (s.booms.foldl State.clearStopBoom s) .ok []

def execClearStop (tag : Byte) (body : List Byte) (s : State) : Host.Outcome State Fault Refusal :=
  .next (s.takeRequest 0x15 tag body (fixedLen 0) State.answerClearStop)

/-! ### JOG, END_MANUAL and TRAM (R32, R34, R35) -/

/-- The largest flow demand of a JOG. -/
def jogMax : Nat := 3000

/-- The result of a JOG's clamp. -/
def jogResult (v : Nat) : Result := if jogMax < v then .clamped else .ok

/-- The jog setpoints with one function's setpoint taken. -/
def Jogs.put (j : Jogs) (k : FnKind) (v : Nat) : Jogs :=
  match k with
  | .jackUp => { j with jackUp := min jogMax v }
  | .jackDown => { j with jackDown := min jogMax v }
  | .feedUp => { j with feedUp := min jogMax v }
  | .feedDown => { j with feedDown := min jogMax v }
  | .rotFwd => { j with rotFwd := min jogMax v }
  | .rotRev => { j with rotRev := min jogMax v }
  | .flush => { j with flush := v ≠ 0 }

/-- A JOG of function `k` of boom `b`, by the boom's state (R32). -/
def State.jogBoom (s : State) (b : Boom) (k : FnKind) (v : Nat) : Answer :=
  let r := if k = .flush then Result.ok else jogResult v
  match (s.seq.get b).state with
  | .idle => s.done (s.goPhase b .manual fun q => { q with jogs := q.jogs.put k v }) r []
  | .manual => s.done (s.modSeq b fun q => { q with jogs := q.jogs.put k v }) r []
  | .halted => s.done (s.modSeq b fun q => { q with jogs := q.jogs.put k v }) r []
  | _ => s.refuse .owned

def State.answerJog (body : List Byte) (s : State) : Answer :=
  let v := numAt body 1 2
  match fnOfNum (byteAt body 0) with
  | none => s.refuse .range
  | some .tram => s.refuse .range
  | some .index =>
    if s.idx.busy then s.refuse .owned
    else s.done (s.setIndexJog (min jogMax v)) (jogResult v) []
  | some (.boom b k) => if s.present b then s.jogBoom b k v else s.refuse .noSuchBoom

def execJog (tag : Byte) (body : List Byte) (s : State) : Host.Outcome State Fault Refusal :=
  .next (s.takeRequest 0x18 tag body (fixedLen 3) (State.answerJog body))

def State.answerEndManual (body : List Byte) (s : State) : Answer :=
  match s.boomAt body 0 with
  | none => s.refuse .noSuchBoom
  | some b =>
    match (s.seq.get b).state with
    | .manual => s.done (s.goPhase b .idle fun q => { q with jogs := .zero }) .ok []
    | .halted => s.done (s.modSeq b fun q => { q with jogs := .zero }) .ok []
    | _ => s.refuse .state

def execEndManual (tag : Byte) (body : List Byte) (s : State) : Host.Outcome State Fault Refusal :=
  .next (s.takeRequest 0x19 tag body (fixedLen 1) (State.answerEndManual body))

/-- Whether TRAM(on) is taken: every present boom is IDLE or MANUAL with its jack lowered (R35). -/
def State.mayTram (s : State) : Bool :=
  s.booms.all fun b =>
    ((s.seq.get b).state = .idle || (s.seq.get b).state = .manual) && s.active b Input.jackLowered

def State.answerTram (body : List Byte) (s : State) : Answer :=
  if byteAt body 0 % 2 = 0 then s.done (s.setTram false) .ok []
  else if s.mayTram then s.done (s.setTram true) .ok []
  else s.refuse .state

def execTram (tag : Byte) (body : List Byte) (s : State) : Host.Outcome State Fault Refusal :=
  .next (s.takeRequest 0x1A tag body (fixedLen 1) (State.answerTram body))

end Sys2Proof.Machine
end

