-- ==== Sys2Proof/Machine/ShopRequests.lean ====
section
/-! DEFINITION. The requests of the groups "drilling", "magazine" and "valves and flow": SET_BANDS,
GET_BANDS, LOAD_SLOTS, GET_MAGAZINE, CLEAR_MAGAZINE, SET_CHANNEL, SET_ROUTE, CLEAR_CHANNEL, GET_CHANNELS
and GET_FLOW. -/

namespace Sys2Proof.Machine

/-! ### SET_BANDS and GET_BANDS (R81, R82) -/

/-- The bands of a SET_BANDS body, each absent when its attribute is none of the three. -/
def bandList (body : List Byte) : List (Option Band) :=
  (chunks 10 (byteAt body 1) (body.drop 2)).map bandOf

/-- Whether the bands from `prev` (the bottom of the band before) on are in order and in range (R81). -/
def bandsGood : Nat → List (Option Band) → Bool
  | _, [] => true
  | _, none :: _ => false
  | prev, some x :: rest =>
    x.top < x.bottom && x.bottom ≤ 2600 && prev ≤ x.top && bandsGood x.bottom rest

/-- A band with its limits clamped (R81, section 3.7). -/
def Band.clamped (x : Band) : Band :=
  { x with feed := clampTo 2 100 x.feed, rpm := clampTo 50 800 x.rpm
           thrust := clampTo 50 6000 x.thrust }

def State.answerSetBands (body : List Byte) (s : State) : Answer :=
  match s.boomAt body 0 with
  | none => s.refuse .noSuchBoom
  | some b =>
    if 8 < byteAt body 1 then s.refuse .range
    else if !bandsGood 0 (bandList body) then s.refuse .range
    else
      let sent := (bandList body).filterMap id
      let stored := sent.map Band.clamped
      ({ s with bands := s.bands.set b stored }, if stored = sent then .ok else .clamped,
       listOf Band.bytes stored)

def execSetBands (tag : Byte) (body : List Byte) (s : State) : Host.Outcome State Fault Refusal :=
  .next (s.takeRequest 0x20 tag body bandsLen (State.answerSetBands body))

/-- GET_BANDS: the tables LIVE 0 and HOLE 1 (R82). The boom is checked before the selector and the open hole: R1
refuses a request that names boom B without the strap with NO_SUCH_BOOM before any other check. For a boom byte above
1, which R1 does not name, the same order is the model's choice (log entry 8). -/
def State.answerGetBands (body : List Byte) (s : State) : Answer :=
  match s.boomAt body 0 with
  | none => s.refuse .noSuchBoom
  | some b =>
    match byteAt body 1 with
    | 0 => (s, .ok, listOf Band.bytes (s.bands.get b))
    | 1 =>
      match s.rec? b with
      | some r => (s, .ok, listOf Band.bytes r.bands)
      | none => s.refuse .state
    | _ => s.refuse .range

def execGetBands (tag : Byte) (body : List Byte) (s : State) : Host.Outcome State Fault Refusal :=
  .next (s.takeRequest 0x21 tag body (fixedLen 2) (State.answerGetBands body))

/-! ### The magazine (R123, R140, R142) -/

/-- The items of a LOAD_SLOTS body, the type absent when it is neither FAST nor SLOW. -/
def itemList (body : List Byte) : List (Nat × Option CartType) :=
  (chunks 2 (byteAt body 0) (body.drop 1)).map fun x => (byteAt x 0, typeOfByte (byteAt x 1))

def State.answerLoadSlots (body : List Byte) (s : State) : Answer :=
  let items := itemList body
  if items.isEmpty || 24 < items.length || items.any (fun x => x.2.isNone) then s.refuse .range
  else
    let r := s.idx.loadItems (items.filterMap fun x => x.2.map fun t => (x.1, t))
    s.done ((s.modIdx fun _ => r.1).retestStarved) .ok (listOf (fun x => u8 (LoadResult.code x)) r.2)

def execLoadSlots (tag : Byte) (body : List Byte) (s : State) : Host.Outcome State Fault Refusal :=
  .next (s.takeRequest 0x28 tag body slotsLen (State.answerLoadSlots body))

def execGetMagazine (tag : Byte) (body : List Byte) (s : State) : Host.Outcome State Fault Refusal :=
  .next (s.takeRequest 0x29 tag body (fixedLen 0) fun s => (s, .ok, s.idx.bytes))

def State.answerClearMagazine (s : State) : Answer :=
  if s.idx.state = .fault then s.done s.clearMagazine .ok [] else s.refuse .state

def execClearMagazine (tag : Byte) (body : List Byte) (s : State) : Host.Outcome State Fault Refusal :=
  .next (s.takeRequest 0x2A tag body (fixedLen 0) State.answerClearMagazine)

/-! ### SET_CHANNEL (R161) -/

/-- The six settings of a SET_CHANNEL, in the order dmin, dmax, qmax, polarity, open, short. -/
structure Settings where
  dmin    : Nat
  dmax    : Nat
  qmax    : Nat
  high    : Bool
  openTh  : Nat
  shortTh : Nat
deriving DecidableEq, Repr

/-- The settings as sent. -/
def settingsAt (body : List Byte) : Settings :=
  { dmin := numAt body 1 2, dmax := numAt body 3 2, qmax := numAt body 5 2
    high := byteAt body 7 = 0, openTh := numAt body 8 2, shortTh := numAt body 10 2 }

/-- The settings as stored: each clamped in the order of R161. -/
def Settings.stored (x : Settings) : Settings :=
  let dmin := clampTo 0 500 x.dmin
  let short := clampTo 200 5000 x.shortTh
  { dmin := dmin, dmax := clampTo (dmin + 1) 1000 x.dmax, qmax := clampTo 10 3000 x.qmax, high := x.high
    openTh := clampTo 0 (min 2000 (short - 50)) x.openTh, shortTh := short }

/-- A channel with its settings replaced whole. -/
def Channel.withSettings (c : Channel) (x : Settings) : Channel :=
  { c with dmin := x.dmin, dmax := x.dmax, qmax := x.qmax, polarityHigh := x.high, openTh := x.openTh
           shortTh := x.shortTh }

def State.answerSetChannel (body : List Byte) (s : State) : Answer :=
  let c := byteAt body 0
  if 19 < c || 1 < byteAt body 7 then s.refuse .range
  else
    let sent := settingsAt body
    let x := sent.stored
    let s' := s.modValve fun v => v.modChannel c fun ch => ch.withSettings x
    s.done s' (if x = sent then .ok else .clamped) (s'.valve.channel c).settings

def execSetChannel (tag : Byte) (body : List Byte) (s : State) : Host.Outcome State Fault Refusal :=
  .next (s.takeRequest 0x30 tag body (fixedLen 12) (State.answerSetChannel body))

/-! ### SET_ROUTE and CLEAR_CHANNEL (R166, R168, R171) -/

/-- Whether a function's owner holds its route (R168). -/
def State.routeOwned (s : State) : Fn → Bool
  | .boom b _ => s.inAutomatic b
  | .index => s.idx.busy
  | .tram => s.tram

/-- The alternate a SET_ROUTE names. -/
def alternateAt (body : List Byte) : Option Nat := if byteAt body 2 = 0 then none else some (byteAt body 3)

/-- Whether a SET_ROUTE's channels are in range, its alternate not its primary (R168). -/
def routeInRange (primary : Nat) (alternate : Option Nat) : Bool :=
  primary ≤ 19 && match alternate with
    | some a => a ≤ 19 && a ≠ primary
    | none => true

/-- Ends a request that has changed routes and whose reply carries every route it changed: the functions it
has made FAILED are taken, and the returns are tested (R171 to R173). -/
def State.doneQuiet (s0 s : State) : State :=
  ((s.takeNewlyFailed s0.valve).returnTest true).finishFrom s0.onStates false true

/-- The function's entry replaced and its route set afresh, conflicts resolved (R168). -/
def Valve.rerouted (v : Valve) (f : Fn) (primary : Nat) (alternate : Option Nat) : Valve :=
  (v.setRoute f { primary := primary, alternate := alternate
                  kind := v.freshKind primary alternate, conflict := false }).resolve

/-- The reply of SET_ROUTE: the entry, then each other function changed (R168). -/
def routeReply (v v' : Valve) (f : Fn) : List Byte :=
  (v'.route f).bytes ++ listOf RouteNote.bytes (((changedFns v v').filter (· ≠ f)).map v'.note)

def State.answerSetRoute (body : List Byte) (s : State) : Answer :=
  let primary := byteAt body 1
  let alternate := alternateAt body
  match fnOfNum (byteAt body 0) with
  | none => s.refuse .range
  | some f =>
    if s.absentFn f then s.refuse .noSuchBoom
    else if !routeInRange primary alternate then s.refuse .range
    else if s.routeOwned f then s.refuse .owned
    else
      let s' := s.doneQuiet (s.modValve fun v => v.rerouted f primary alternate)
      (s', .ok, routeReply s.valve s'.valve f)

def execSetRoute (tag : Byte) (body : List Byte) (s : State) : Host.Outcome State Fault Refusal :=
  .next (s.takeRequest 0x31 tag body routeLen (State.answerSetRoute body))

/-- A function with route NONE takes a route afresh at the clear of its primary or its alternate (R171). -/
def Valve.recover (v : Valve) (c : Nat) : Valve :=
  let routes := allFns.map fun f =>
    let r := v.route f
    if r.kind = .none && (r.primary = c || r.alternate = some c) then
      { r with kind := v.freshKind r.primary r.alternate }
    else r
  Valve.resolve { v with routes := routes }

def State.answerClearChannel (body : List Byte) (s : State) : Answer :=
  let c := byteAt body 0
  if 19 < c then s.refuse .range
  else if (s.valve.channel c).state = .ok then s.refuse .state
  else
    let s' := s.doneQuiet (s.modValve fun v =>
      (v.modChannel c fun ch => { ch with state := .ok, lowCount := 0 }).recover c)
    (s', .ok, listOf RouteNote.bytes (routeNotes s.valve s'.valve))

def execClearChannel (tag : Byte) (body : List Byte) (s : State) : Host.Outcome State Fault Refusal :=
  .next (s.takeRequest 0x32 tag body (fixedLen 1) (State.answerClearChannel body))

def execGetChannels (tag : Byte) (body : List Byte) (s : State) : Host.Outcome State Fault Refusal :=
  .next (s.takeRequest 0x33 tag body (fixedLen 0) fun s => (s, .ok, s.valve.bytes))

def execGetFlow (tag : Byte) (body : List Byte) (s : State) : Host.Outcome State Fault Refusal :=
  .next (s.takeRequest 0x34 tag body (fixedLen 0) fun s => (s, .ok, s.flowBytes))

end Sys2Proof.Machine
end

