-- ==== Sys2Proof/Machine/RecordRequests.lean ====
section
/-! DEFINITION. The requests of the group "records and bits": FETCH_HOLE, RELEASE_HOLE, LIST_HOLES,
BIT_FITTED, REPLACE_BIT and GET_BITS (chapter 10). -/

namespace Sys2Proof.Machine

/-! ### Hole Records (R195, R196) -/

/-- One section of a record, or RANGE for a start or a section the rule refuses: HEADER 0, SEGMENTS 1,
LAYERS 2, PLAN_AND_RESIN 3 and SETTING 4 (R195). -/
def HoleRecord.fetchSection (r : HoleRecord) (isOpen : Bool) (sec start : Nat) : Result × List Byte :=
  match sec with
  | 0 => (.ok, r.headerBytes isOpen start)
  | 1 => if r.segments.length < start then (.range, []) else (.ok, r.segmentBytes start)
  | 2 => if (r.layers.getD []).length < start then (.range, []) else (.ok, r.layerBytes start)
  | 3 => (.ok, r.resinBytes)
  | 4 => (.ok, r.settingBytes)
  | _ => (.range, [])

/-- FETCH_HOLE: the refusals in the order of R195's sentences, NO_SUCH_HOLE before RANGE (DEDUCED from R205, log entry
43). -/
def State.answerFetchHole (body : List Byte) (s : State) : Answer :=
  let n := numAt body 0 2
  match if n = 0 then none else s.store.find n with
  | none => s.refuse .noSuchHole
  | some r => (s, r.fetchSection (s.store.isOpen n) (byteAt body 2) (numAt body 3 4))

def execFetchHole (tag : Byte) (body : List Byte) (s : State) : Host.Outcome State Fault Refusal :=
  .next (s.takeRequest 0x38 tag body (fixedLen 7) (State.answerFetchHole body))

/-- Removes the record of a number from the Completed Hole Queue (R196). -/
def Store.release (st : Store) (n : Nat) : Store := { st with queue := st.queue.filter fun r => r.number ≠ n }

def State.answerReleaseHole (body : List Byte) (s : State) : Answer :=
  let n := numAt body 0 2
  if s.store.queue.any (fun r => r.number = n) then
    let s' := s.modStore fun st => st.release n
    (s', .ok, u8 s'.store.queue.length)
  else s.refuse .noSuchHole

def execReleaseHole (tag : Byte) (body : List Byte) (s : State) : Host.Outcome State Fault Refusal :=
  .next (s.takeRequest 0x39 tag body (fixedLen 2) (State.answerReleaseHole body))

def execListHoles (tag : Byte) (body : List Byte) (s : State) : Host.Outcome State Fault Refusal :=
  .next (s.takeRequest 0x3A tag body (fixedLen 0) fun s => (s, .ok, s.holeListBytes))

/-! ### The Bit Table (R200 to R202) -/

/-- The state of a bit that leaves its boom: RETIRED when its wear reaches the limit (R200). -/
def State.offState (s : State) (wear : Nat) : BitState := if s.wornOut wear then .retired else .serviceable

/-- The bit previously fitted to a boom leaves it (R200). -/
def State.takeOffBit (s : State) (b : Boom) : State :=
  match s.fittedPos b with
  | some p =>
    let st := s.offState (s.bitAt p).wear
    s.modBit p fun x => { x with state := st }
  | none => s

/-- The previous position with its new state, as the reply of BIT_FITTED gives it: one presence byte for the two (log
entry 39). -/
def State.previousBytes (s : State) (b : Boom) : List Byte :=
  opt (fun p => u8 p ++ u8 (s.offState (s.bitAt p).wear).code) (s.fittedPos b)

def State.answerBitFitted (body : List Byte) (s : State) : Answer :=
  let p := byteAt body 1
  match s.boomAt body 0 with
  | none => s.refuse .noSuchBoom
  | some b =>
    if 7 < p then s.refuse .range
    else if (s.seq.get b).state ≠ .idle && (s.seq.get b).state ≠ .manual then s.refuse .state
    else if (s.bitAt p).state ≠ .serviceable then s.refuse .state
    else
      ((s.takeOffBit b).modBit p fun x => { x with state := .fitted b }, .ok, u8 p ++ s.previousBytes b)

def execBitFitted (tag : Byte) (body : List Byte) (s : State) : Host.Outcome State Fault Refusal :=
  .next (s.takeRequest 0x3B tag body (fixedLen 2) (State.answerBitFitted body))

/-- Whether a position is FITTED. -/
def BitState.isFitted : BitState → Bool
  | .fitted _ => true
  | _ => false

def State.answerReplaceBit (body : List Byte) (s : State) : Answer :=
  let p := byteAt body 0
  if 7 < p then s.refuse .range
  else if (s.bitAt p).state.isFitted then s.refuse .state
  else
    (s.modBit p fun _ => { state := .serviceable, wear := 0, holes := 0, worn := false }, .ok, [])

def execReplaceBit (tag : Byte) (body : List Byte) (s : State) : Host.Outcome State Fault Refusal :=
  .next (s.takeRequest 0x3C tag body (fixedLen 1) (State.answerReplaceBit body))

def execGetBits (tag : Byte) (body : List Byte) (s : State) : Host.Outcome State Fault Refusal :=
  .next (s.takeRequest 0x3D tag body (fixedLen 0) fun s => (s, .ok, s.bitBytes))

end Sys2Proof.Machine
end

