-- ==== Sys2Proof/Machine/LinkPort.lean ====
section
/-! DEFINITION. The Link Port's line (R204, R206, R207, R209) and the part's power, straps, resets and
start-up (R212 to R214). -/

namespace Sys2Proof.Machine

/-! ### Taking the inbound queue (R205, R206) -/

/-- The taking of a request: the meaning of its command. A command that is no request is not taken. -/
def runRequest (c : Instr) (s : State) : Host.Outcome State Fault Refusal :=
  match c with
  | .ping tag body => execPing tag body s
  | .getStatus tag body => execGetStatus tag body s
  | .setParam tag body => execSetParam tag body s
  | .getParam tag body => execGetParam tag body s
  | .restart tag body => execRestart tag body s
  | .startHole tag body => execStartHole tag body s
  | .decide tag body => execDecide tag body s
  | .pause tag body => execPause tag body s
  | .resume tag body => execResume tag body s
  | .abortHole tag body => execAbortHole tag body s
  | .clearStop tag body => execClearStop tag body s
  | .jog tag body => execJog tag body s
  | .endManual tag body => execEndManual tag body s
  | .tram tag body => execTram tag body s
  | .setBands tag body => execSetBands tag body s
  | .getBands tag body => execGetBands tag body s
  | .loadSlots tag body => execLoadSlots tag body s
  | .getMagazine tag body => execGetMagazine tag body s
  | .clearMagazine tag body => execClearMagazine tag body s
  | .setChannel tag body => execSetChannel tag body s
  | .setRoute tag body => execSetRoute tag body s
  | .clearChannel tag body => execClearChannel tag body s
  | .getChannels tag body => execGetChannels tag body s
  | .getFlow tag body => execGetFlow tag body s
  | .fetchHole tag body => execFetchHole tag body s
  | .releaseHole tag body => execReleaseHole tag body s
  | .listHoles tag body => execListHoles tag body s
  | .bitFitted tag body => execBitFitted tag body s
  | .replaceBit tag body => execReplaceBit tag body s
  | .getBits tag body => execGetBits tag body s
  | .unknownKindRequest kind tag body => execUnknownKindRequest kind tag body s
  | _ => .next s

/-- The head of the inbound queue is taken when a reply place is free (R205). -/
def State.takeHeadFrame (s : State) : State :=
  match s.link.inbound with
  | f :: rest =>
    if s.takes then
      match runRequest (requestOf f.kind f.tag f.body) (s.modLink fun l => { l with inbound := rest }) with
      | .next t => t
      | _ => s
    else s
  | [] => s

/-- The inbound queue is taken from its head, one request at a time, while a reply place is free. -/
def State.takeWaiting : Nat → State → State
  | 0, s => s
  | n + 1, s => State.takeWaiting n s.takeHeadFrame

/-- The test of the inbound queue, with a round for each frame of it. -/
def State.drainInbound (s : State) : State := State.takeWaiting s.link.inbound.length s

/-! ### The receiver (R204) -/

/-- The number of bytes of a frame whose LEN is `n`. -/
def frameLength (n : Nat) : Nat := n + 6

/-- The frame that bytes beginning with a SYNC spell, when its CHECK is right. -/
def readFrame (bs : List Byte) : Option Frame :=
  let n := byteAt bs 1
  let covered := (bs.drop 1).take (n + 3)
  if (bs.drop (n + 4)).take 2 = checkBytes covered then
    some { kind := bs.getD 2 0, tag := bs.getD 3 0, body := (bs.drop 4).take n }
  else none

/-- Hunts through received bytes: the good frames found, and the bytes from the SYNC of a frame not yet
whole. Hunting resumes at the byte after a discarded frame's SYNC. With `cut`, more than 5 ms have passed
since the last byte, so a frame not yet whole is discarded too. -/
def hunt (cut : Bool) : Nat → List Byte → List Frame × List Byte
  | 0, _ => ([], [])
  | _, [] => ([], [])
  | fuel + 1, x :: rest =>
    if x ≠ sync then hunt cut fuel rest
    else match rest with
      | [] => ([], if cut then [] else [x])
      | n :: _ =>
        if maxLen < n.toNat then hunt cut fuel rest
        else if (x :: rest).length < frameLength n.toNat then
          if cut then hunt cut fuel rest else ([], x :: rest)
        else match readFrame (x :: rest) with
          | some f =>
            let r := hunt cut fuel ((x :: rest).drop (frameLength n.toNat))
            (f :: r.1, r.2)
          | none => hunt cut fuel rest

/-- A good frame arrives: the presence timer restarts, SILENCE is cleared with its report, the frame joins the
inbound queue, and the queue is taken while a reply place is free (R204, R205, R209). -/
def State.frameGood (s : State) (f : Frame) : State :=
  let silent := s.link.silence
  let s := s.modLink fun l => { l with presence := .start, silence := false }
  let s := if silent then s.report (.interlock (.silence false)) else s
  (s.modLink fun l => l.join f).drainInbound

/-- The receiver takes bytes after those it holds. -/
def State.receive (s : State) (cut : Bool) (bytes : List Byte) : State :=
  let all := s.link.rx ++ bytes
  let r := hunt cut (all.length + 1) all
  let s := s.modLink fun l =>
    { l with rx := r.2, rxGap := if r.2.isEmpty then .zero else .start }
  r.1.foldl State.frameGood s

/-- The last check byte of a frame arrives; during start-up every byte is discarded (R204). -/
def execFrameArrival (bytes : List Byte) (s : State) : Host.Outcome State Fault Refusal :=
  .next (if s.power = .running then s.receive false bytes else s)

/-- More than 5 ms pass after a byte of a frame not yet whole, so the frame is discarded and the bytes after
its SYNC are scanned again (R204). -/
def execFrameByteTimeout (s : State) : Host.Outcome State Fault Refusal :=
  .next (if s.power = .running then
    (s.modLink fun l => { l with rx := l.rx.drop 1 }).receive true []
  else s)

/-- A LEN above 240 follows a SYNC: the frame is discarded at once (R204). The SYNC is the one held, or the
one that came with the LEN. -/
def execLenAbove240Discard (len : Byte) (s : State) : Host.Outcome State Fault Refusal :=
  .next (if s.power = .running && decide (maxLen < len.toNat) then
    s.receive false (if s.link.rx = [sync] then [len] else [sync, len])
  else s)

/-! ### The transmitter (R206, R207) -/

/-- The parts of a content of `n` bytes. -/
def partCount (n : Nat) : Nat := max 1 ((n + partBytes - 1) / partBytes)

/-- The status byte. -/
def Link.status (l : Link) : Byte := (if l.dropped then 1 else 0) ||| (if l.overrun then 2 else 0)

/-- The part of a reply that is sent next, as a frame (R203, R206). To an unknown request KIND of 0x80 or more
the sum is one byte, modulo 256 (log entry 37). -/
def Reply.frame (r : Reply) (status : Byte) : List Byte :=
  frameOf (r.kind + 0x80) r.tag
    (u8 r.result.code ++ [status] ++ u8 (partCount r.content.length - 1 - r.sent) ++
     (r.content.drop (r.sent * partBytes)).take partBytes)

/-- A report as a frame. -/
def Report.frame (r : Report) (status : Byte) : List Byte := frameOf r.kind 0 (status :: r.bytes)

/-- The transmitter begins the head of the outbound queue: a reply ahead of every report; the marks the
frame carries are cleared, and the entry's place is freed as its transmission, or that of its last part,
begins. -/
def Link.transmit (l : Link) : Link :=
  match l.replies with
  | r :: rest =>
    { l with tx := r.frame l.status, dropped := false, overrun := false
             replies := if partCount r.content.length ≤ r.sent + 1 then rest
                        else { r with sent := r.sent + 1 } :: rest }
  | [] =>
    match l.reports with
    | r :: rest => { l with tx := r.frame l.status, dropped := false, overrun := false, reports := rest }
    | [] => l

/-- The transmitter begins a frame; a reply place that it frees lets the inbound queue be taken (R205, R206). -/
def execFrameTransmitStart (s : State) : Host.Outcome State Fault Refusal :=
  .next (if s.power = .running then (s.modLink Link.transmit).drainInbound else s)

/-- The presence timer expires (R209). -/
def execPresenceTimeout (s : State) : Host.Outcome State Fault Refusal :=
  .next (if s.power = .running && s.link.presence.running then s.finish s.presenceExpired else s)

/-! ### Power, resets and start-up (R212 to R214) -/

/-- The levels of the direct inputs as they stand. -/
def State.pins (s : State) : Pins :=
  { eStop := s.diu.rawEstop, methane := s.diu.rawMethane, indexHome := s.diu.rawIndexHome
    indexStep := s.diu.rawIndexStep, resetLine := s.diu.resetLine }

/-- A start-up begins (R212): every block is reset and the outputs are held inactive. -/
def State.beginReset (s : State) (cause : ResetCause) (st : Straps) (p : Pins) : State :=
  { State.inStartUp cause st p with pending := s.pending, freeCount := s.freeCount }

/-- POWER_ON samples the straps (R212). -/
def execPowerOn (st : Straps) (p : Pins) (s : State) : Host.Outcome State Fault Refusal :=
  .next (s.beginReset .power st p)

/-- The supply is lost: nothing is kept, straps included (R212). -/
def execPowerLoss (s : State) : Host.Outcome State Fault Refusal :=
  .next { State.unpowered with pending := s.pending, freeCount := s.freeCount }

/-- A qualified release of RESET sets the armed mark (R213). -/
def execResetReleased (s : State) : Host.Outcome State Fault Refusal :=
  .next (if s.power = .off then s
    else s.modDiu fun d => { d with resetLine := false, armed := true })

/-- A qualified assertion of RESET begins a LINE reset when the armed mark is set (R213). -/
def execResetAsserted (s : State) : Host.Outcome State Fault Refusal :=
  .next (if s.power = .off then s
    else if s.diu.armed then s.beginReset .line s.straps { s.pins with resetLine := true }
    else s.modDiu fun d => { d with resetLine := true })

/-- The last byte of the RESTART reply leaves the line: the MESSAGE reset begins (R214). -/
def execRestartReplySent (s : State) : Host.Outcome State Fault Refusal :=
  .next (if s.power = .running && s.link.restarting && s.link.replies.isEmpty then
    s.beginReset .message s.straps s.pins
  else s)

/-- The 250 ms of a start-up end: every block is in the state its own rule gives (R212). A RESET line found
released is a released level (R213). -/
def execStartUpEnd (s : State) : Host.Outcome State Fault Refusal :=
  .next (if s.power = .startUp then
    { State.afterReset s.resetCause s.straps s.pins (s.diu.armed || !s.diu.resetLine) with
      pending := s.pending, freeCount := s.freeCount }
  else s)

end Sys2Proof.Machine
end

