-- ==== Sys2Proof/Machine/Rig.lean ====
section
/-! DEFINITION. The events of the rig: head frames, carousel sensors, rotation, the interlocks and the coil
currents (chapters 6, 8 and 9). The raw levels of the direct inputs follow them during a start-up too. -/

namespace Sys2Proof.Machine

/-- Whether an event of boom `b` reaches a running part with that boom. -/
def State.sees (s : State) (b : Boom) : Bool := s.power = .running && s.present b

/-! ### Head frames and rotation -/

/-- A head frame arrives and builds the boom's sample (R178, R183). -/
def execScanFrameArrival (b : Boom) (frame : BitVec 80) (s : State) : Host.Outcome State Fault Refusal :=
  .next (if s.sees b then s.finish (s.scanArrival b frame) else s)

/-- A rotation pulse: the Direct Input Unit's count, interval and timer, and the mix count (R106, R187). -/
def execRotationPulse (b : Boom) (s : State) : Host.Outcome State Fault Refusal :=
  .next (if s.sees b then
    s.finish ((s.modRot b Rotation.pulse).mixPulse b)
  else s)

/-- The interval count overflows (R188): the command is the tick that would take the full count on (log entry
3), so behind a pulse or a clear, and while NO_ROTATION is set, it gives no overflow. -/
def execRotationOverflow (b : Boom) (s : State) : Host.Outcome State Fault Refusal :=
  .next (if s.sees b then s.tickOverflow b else s)

/-! ### The carousel sensors (R184, R190) -/

/-- INDEX_STEP: a change to active is the step event (R129 to R131). -/
def execIndexStep (active : Bool) (s : State) : Host.Outcome State Fault Refusal :=
  .next (if s.power = .off then s
    else
      let s' := s.modDiu fun d => { d with rawIndexStep := active, indexStep := active }
      if active && s.power = .running then s.finish s'.idxStep else s')

/-- INDEX_HOME: the qualified level, which homing and the steps read. -/
def execIndexHomeChange (active : Bool) (s : State) : Host.Outcome State Fault Refusal :=
  .next (if s.power = .off then s else s.modDiu fun d =>
    { d with rawIndexHome := active, indexHome := active })

/-! ### E_STOP (R185) -/

/-- The E_STOP loop opens: in RELEASED the state is asserted at once, in ASSERTED the release timer stops. -/
def execEStopAssert (s : State) : Host.Outcome State Fault Refusal :=
  .next (if s.power = .off then s
    else
      let s' := s.modDiu fun d => { d with rawEstop := true, releaseTimer := .zero }
      if s.power = .running && !s.diu.estop then
        s.finishComputed (s'.assertStop.report (.interlock (.eStop true)))
      else s')

/-- The E_STOP input becomes inactive: in ASSERTED the release timer starts from 0. -/
def execEStopInputMade (s : State) : Host.Outcome State Fault Refusal :=
  .next (if s.power = .off then s
    else s.modDiu fun d =>
      { d with rawEstop := false
               releaseTimer := if d.rawEstop && d.estop then .start else d.releaseTimer })

/-- The time the release timer counts, in ms. -/
def releaseMs : Nat := 100

/-- The release timer reaches 100 ms: RELEASED, with its report and a computation (R149, R185). -/
def execEStopRelease (s : State) : Host.Outcome State Fault Refusal :=
  .next (if s.power = .running && s.diu.releaseTimer.running then
    let s' := s.modDiu fun d => { d with estop := false, releaseTimer := .zero }
    let s' := s'.modArb fun a => { a with estop := false }
    s.finishComputed (s'.report (.interlock (.eStop false)))
  else s)

/-! ### METHANE_HIGH (R186) -/

/-- METHANE_HIGH becomes active: in CLEAR the state is ACTIVE at once and GAS reaches the booms, in ACTIVE
the clear timer stops. -/
def execMethaneActive (s : State) : Host.Outcome State Fault Refusal :=
  .next (if s.power = .off then s
    else
      let s' := s.modDiu fun d => { d with rawMethane := true, clearTimer := .zero }
      if s.power = .running && !s.diu.methane then
        let s' := s'.modDiu fun d => { d with methane := true }
        let s' := s'.modArb fun a => { a with methane := true }
        s.finishComputed ((s'.arriveAll .gas).report (.interlock (.methane true)))
      else s')

/-- METHANE_HIGH becomes inactive: in ACTIVE the clear timer starts from 0. -/
def execMethaneInputInactive (s : State) : Host.Outcome State Fault Refusal :=
  .next (if s.power = .off then s
    else s.modDiu fun d =>
      { d with rawMethane := false
               clearTimer := if d.rawMethane && d.methane then .start else d.clearTimer })

/-- The time the clear timer counts, in ms. -/
def clearMs : Nat := 2000

/-- The clear timer reaches 2,000 ms: CLEAR, with its report and a computation; no cause leaves a set
(R150, R186). -/
def execMethaneClear (s : State) : Host.Outcome State Fault Refusal :=
  .next (if s.power = .running && s.diu.clearTimer.running then
    let s' := s.modDiu fun d => { d with methane := false, clearTimer := .zero }
    let s' := s'.modArb fun a => { a with methane := false }
    s.finishComputed (s'.report (.interlock (.methane false)))
  else s)

/-! ### Coil currents (R164, R165) -/

/-- The twenty channels take a current reading. -/
def execValveCurrentReading (currents : List Nat) (s : State) : Host.Outcome State Fault Refusal :=
  .next (if s.power = .running then
    s.finish (s.currentReading currents)
  else s)

end Sys2Proof.Machine
end

