-- ==== Sys2Proof/Machine/Timers.lean ====
section
/-! DEFINITION. The expiries of the booms' and the Indexer's timers (R6, R77, R111, R125). An expiry whose
timer does not run finds nothing to expire. -/

namespace Sys2Proof.Machine

/-! ### The Indexer (R129, R132, R134) -/

def execStepTimeout (s : State) : Host.Outcome State Fault Refusal :=
  .next (if s.power = .running && s.idx.state = .positioning && s.idx.stepTimer.running then
    s.finish s.stepExpired else s)

def execReadyWaitTimeout (s : State) : Host.Outcome State Fault Refusal :=
  .next (if s.power = .running && s.idx.state = .awaitReady && s.idx.readyTimer.running then
    s.finish s.readyExpired else s)

def execPassTimeout (s : State) : Host.Outcome State Fault Refusal :=
  .next (if s.power = .running && s.idx.state = .ejecting && s.idx.passTimer.running then
    s.finish s.passExpired else s)

/-! ### The phase timers (R6) -/

/-- Whether the phase timer of boom `b` runs in phase `p`. -/
def State.timing (s : State) (b : Boom) (p : Phase) : Bool :=
  s.sees b && (s.seq.get b).state = p && (s.seq.get b).timer.running

/-- The phase timer at the expiry of parameter `i`. -/
def State.timerOut (s : State) (b : Boom) (i : Nat) : State :=
  let limit := s.hp b i
  s.modSeq b fun q => { q with timer := q.timer.expire limit }

def execJackTimeout (b : Boom) (s : State) : Host.Outcome State Fault Refusal :=
  .next (if s.timing b .jackSet then
    s.finish ((s.timerOut b P.jackTimeout).halt b .jackNotSet .interrupted) else s)

def execContactTimeout (b : Boom) (s : State) : Host.Outcome State Fault Refusal :=
  .next (if s.timing b .collaring then
    s.finish ((s.timerOut b P.contactTimeout).halt b .noContact .interrupted) else s)

def execRetractTimeout (b : Boom) (s : State) : Host.Outcome State Fault Refusal :=
  .next (if s.timing b .retracting then
    s.finish ((s.timerOut b P.retractTimeout).halt b .retractTimeout .interrupted) else s)

def execPushTimeout (b : Boom) (s : State) : Host.Outcome State Fault Refusal :=
  .next (if s.timing b .boltPush then
    s.finish ((s.timerOut b P.pushTimeout).halt b .pushTimeout .interrupted) else s)

/-- MIX_MAX_TIME expires: the mix ends SHORT, the boom halts, and the deferred items are taken (R24, R107). -/
def execMixMaxTime (b : Boom) (s : State) : Host.Outcome State Fault Refusal :=
  .next (if s.timing b .mixing then
    s.finish (((s.timerOut b P.mixMaxTime).halt b .mixShort .short).takeDeferred b) else s)

/-- TORQUE_TIMEOUT gives its verdict (R6, R116). -/
def execTorqueTimeout (b : Boom) (s : State) : Host.Outcome State Fault Refusal :=
  .next (if s.timing b .torquing then
    s.finish ((s.timerOut b P.torqueTimeout).giveVerdict b .timeout) else s)

def execReleaseTimeout (b : Boom) (s : State) : Host.Outcome State Fault Refusal :=
  .next (if s.timing b .releasing then
    s.finish ((s.timerOut b P.releaseTimeout).halt b .releaseTimeout .interrupted) else s)

/-! ### The gel hold and the flush-loss timer (R77, R111) -/

/-- The gel hold's time in ms (R111). -/
def Setting.holdMs (c : Setting) : Nat := c.holdTime * 100

/-- The gel hold timer expires: in GEL_HOLD the boom goes to TORQUING, in PAUSED the hold complete mark is
set (R15, R19, R111). -/
def State.gelExpired (s : State) (b : Boom) : State :=
  let ms := (s.sett.get b).holdMs
  let s := s.modSett b fun c => { c with gelTimer := c.gelTimer.expire ms }
  let s := s.writeElapsed b ms
  if (s.seq.get b).state = .gelHold then s.enterTorquing b
  else s.modSeq b fun q => { q with holdComplete := true }

def execGelHoldExpiry (b : Boom) (s : State) : Host.Outcome State Fault Refusal :=
  .next (if s.sees b && s.phase b = .gelHold && (s.sett.get b).gelTimer.running then
    s.finish (s.gelExpired b) else s)

/-- The flush-loss timer expires: it stops, and FLUSH reaches the boom (R77). -/
def execFlushLossTimeout (b : Boom) (s : State) : Host.Outcome State Fault Refusal :=
  .next (if s.sees b && (s.seq.get b).state = .drilling && (s.gov.get b).flushTimer.running then
    s.finish ((s.modGov b fun g => { g with flushTimer := .zero }).arrive b .flush)
  else s)

end Sys2Proof.Machine
end

