-- ==== Sys2Proof/Machine/Dispatch.lean ====
section
/-! DEFINITION. One arm for each command. -/

namespace Sys2Proof.Machine

def exec (i : Instr) (s : State) : Host.Outcome State Fault Refusal :=
  match i with
  | .ping tag body => Sys2Proof.Machine.execPing tag body s
  | .getStatus tag body => Sys2Proof.Machine.execGetStatus tag body s
  | .setParam tag body => Sys2Proof.Machine.execSetParam tag body s
  | .getParam tag body => Sys2Proof.Machine.execGetParam tag body s
  | .restart tag body => Sys2Proof.Machine.execRestart tag body s
  | .startHole tag body => Sys2Proof.Machine.execStartHole tag body s
  | .decide tag body => Sys2Proof.Machine.execDecide tag body s
  | .pause tag body => Sys2Proof.Machine.execPause tag body s
  | .resume tag body => Sys2Proof.Machine.execResume tag body s
  | .abortHole tag body => Sys2Proof.Machine.execAbortHole tag body s
  | .clearStop tag body => Sys2Proof.Machine.execClearStop tag body s
  | .jog tag body => Sys2Proof.Machine.execJog tag body s
  | .endManual tag body => Sys2Proof.Machine.execEndManual tag body s
  | .tram tag body => Sys2Proof.Machine.execTram tag body s
  | .setBands tag body => Sys2Proof.Machine.execSetBands tag body s
  | .getBands tag body => Sys2Proof.Machine.execGetBands tag body s
  | .loadSlots tag body => Sys2Proof.Machine.execLoadSlots tag body s
  | .getMagazine tag body => Sys2Proof.Machine.execGetMagazine tag body s
  | .clearMagazine tag body => Sys2Proof.Machine.execClearMagazine tag body s
  | .setChannel tag body => Sys2Proof.Machine.execSetChannel tag body s
  | .setRoute tag body => Sys2Proof.Machine.execSetRoute tag body s
  | .clearChannel tag body => Sys2Proof.Machine.execClearChannel tag body s
  | .getChannels tag body => Sys2Proof.Machine.execGetChannels tag body s
  | .getFlow tag body => Sys2Proof.Machine.execGetFlow tag body s
  | .fetchHole tag body => Sys2Proof.Machine.execFetchHole tag body s
  | .releaseHole tag body => Sys2Proof.Machine.execReleaseHole tag body s
  | .listHoles tag body => Sys2Proof.Machine.execListHoles tag body s
  | .bitFitted tag body => Sys2Proof.Machine.execBitFitted tag body s
  | .replaceBit tag body => Sys2Proof.Machine.execReplaceBit tag body s
  | .getBits tag body => Sys2Proof.Machine.execGetBits tag body s
  | .unknownKindRequest kind tag body => Sys2Proof.Machine.execUnknownKindRequest kind tag body s
  | .frameArrival bytes => Sys2Proof.Machine.execFrameArrival bytes s
  | .frameByteTimeout => Sys2Proof.Machine.execFrameByteTimeout s
  | .frameTransmitStart => Sys2Proof.Machine.execFrameTransmitStart s
  | .presenceTimeout => Sys2Proof.Machine.execPresenceTimeout s
  | .powerOn straps pins => Sys2Proof.Machine.execPowerOn straps pins s
  | .resetReleased => Sys2Proof.Machine.execResetReleased s
  | .resetAsserted => Sys2Proof.Machine.execResetAsserted s
  | .restartReplySent => Sys2Proof.Machine.execRestartReplySent s
  | .startUpEnd => Sys2Proof.Machine.execStartUpEnd s
  | .scanFrameArrival b frame => Sys2Proof.Machine.execScanFrameArrival b frame s
  | .indexStep active => Sys2Proof.Machine.execIndexStep active s
  | .stepTimeout => Sys2Proof.Machine.execStepTimeout s
  | .readyWaitTimeout => Sys2Proof.Machine.execReadyWaitTimeout s
  | .passTimeout => Sys2Proof.Machine.execPassTimeout s
  | .rotationPulse b => Sys2Proof.Machine.execRotationPulse b s
  | .rotationOverflow b => Sys2Proof.Machine.execRotationOverflow b s
  | .eStopAssert => Sys2Proof.Machine.execEStopAssert s
  | .eStopInputMade => Sys2Proof.Machine.execEStopInputMade s
  | .eStopRelease => Sys2Proof.Machine.execEStopRelease s
  | .methaneActive => Sys2Proof.Machine.execMethaneActive s
  | .methaneInputInactive => Sys2Proof.Machine.execMethaneInputInactive s
  | .methaneClear => Sys2Proof.Machine.execMethaneClear s
  | .jackTimeout b => Sys2Proof.Machine.execJackTimeout b s
  | .contactTimeout b => Sys2Proof.Machine.execContactTimeout b s
  | .retractTimeout b => Sys2Proof.Machine.execRetractTimeout b s
  | .pushTimeout b => Sys2Proof.Machine.execPushTimeout b s
  | .mixMaxTime b => Sys2Proof.Machine.execMixMaxTime b s
  | .torqueTimeout b => Sys2Proof.Machine.execTorqueTimeout b s
  | .releaseTimeout b => Sys2Proof.Machine.execReleaseTimeout b s
  | .gelHoldExpiry b => Sys2Proof.Machine.execGelHoldExpiry b s
  | .flushLossTimeout b => Sys2Proof.Machine.execFlushLossTimeout b s
  | .valveCurrentReading currents => Sys2Proof.Machine.execValveCurrentReading currents s
  | .indexHomeChange active => Sys2Proof.Machine.execIndexHomeChange active s
  | .lenAbove240Discard len => Sys2Proof.Machine.execLenAbove240Discard len s
  | .powerLoss => Sys2Proof.Machine.execPowerLoss s

end Sys2Proof.Machine
end

