-- ==== Sys2Proof/Machine/Time.lean ====
section
/-! DEFINITION. What the part does with no command waiting (log entry 3): it takes the head of the inbound
queue, or one tick of 25 µs passes for every timer, and the expiries that are then due wait as commands. -/

namespace Sys2Proof.Machine

/-! ### One tick of every timer -/

def Sequencer.tick (q : Sequencer) : Sequencer := { q with timer := q.timer.tick }
def Governor.tick (g : Governor) : Governor := { g with flushTimer := g.flushTimer.tick }
def Setting.tick (c : Setting) : Setting := { c with gelTimer := c.gelTimer.tick }
def Indexer.tick (x : Indexer) : Indexer :=
  { x with stepTimer := x.stepTimer.tick, readyTimer := x.readyTimer.tick, passTimer := x.passTimer.tick }
def Link.tick (l : Link) : Link := { l with rxGap := l.rxGap.tick, presence := l.presence.tick }
def Direct.tick (d : Direct) : Direct :=
  { d with releaseTimer := d.releaseTimer.tick, clearTimer := d.clearTimer.tick }

/-- Whether this tick of 25 µs ends a tick of the interval count, of 25 µs × 2^shift under the shift in force
for it (R188). -/
def Rotation.ends (r : Rotation) : Bool := 2 ^ r.shift ≤ r.prescale + 1

/-- One tick of 25 µs in the rotation timer under the live shift `k`, which is in force from the next tick of
the interval count on. The count stays at 4,095, and while NO_ROTATION is set it does not rise; the division
to ticks runs on (R188, log entry 23). -/
def Rotation.tick (k : Nat) (r : Rotation) : Rotation :=
  if r.ends then
    { r with prescale := 0, shift := k
             interval := if r.noRotation then r.interval else min 4095 (r.interval + 1) }
  else { r with prescale := r.prescale + 1 }

/-- Whether this tick would take the interval count past 4,095 (R188). -/
def Rotation.overflows (r : Rotation) : Bool := !r.noRotation && r.ends && 4095 ≤ r.interval

/-- One tick of every timer. -/
def State.tickAll (s : State) : State :=
  let k := s.live P.stallTickShift
  { s with
    startTimer := s.startTimer.tick
    link := s.link.tick
    seq := { a := s.seq.a.tick, b := s.seq.b.tick }
    gov := { a := s.gov.a.tick, b := s.gov.b.tick }
    sett := { a := s.sett.a.tick, b := s.sett.b.tick }
    idx := s.idx.tick
    diu := s.diu.tick
    rot := { a := s.rot.a.tick k, b := s.rot.b.tick k } }

/-! ### The expiries that are due -/

/-- The expiry of a boom's phase timer, with its parameter (R6). -/
def phaseExpiry (b : Boom) : Phase → Option (Instr × Nat)
  | .jackSet => some (.jackTimeout b, P.jackTimeout)
  | .collaring => some (.contactTimeout b, P.contactTimeout)
  | .retracting => some (.retractTimeout b, P.retractTimeout)
  | .boltPush => some (.pushTimeout b, P.pushTimeout)
  | .mixing => some (.mixMaxTime b, P.mixMaxTime)
  | .torquing => some (.torqueTimeout b, P.torqueTimeout)
  | .releasing => some (.releaseTimeout b, P.releaseTimeout)
  | _ => none

/-- A command when a condition holds. -/
def whenDue (c : Bool) (i : Instr) : List Instr := if c then [i] else []

/-- The due expiries of a boom. -/
def State.boomDue (s : State) (b : Boom) : List Instr :=
  (match phaseExpiry b (s.seq.get b).state with
    | some x => whenDue ((s.seq.get b).timer.due (s.hp b x.2)) x.1
    | none => []) ++
  whenDue ((s.sett.get b).gelTimer.due (s.sett.get b).holdMs && s.phase b = .gelHold) (.gelHoldExpiry b) ++
  whenDue ((s.gov.get b).flushTimer.due (s.hp b P.flushLossTime)) (.flushLossTimeout b)

/-- The time that may pass between two bytes of a frame, in ms (R204). -/
def byteGapMs : Nat := 5

/-- The length of a start-up in ms (R212). -/
def startUpMs : Nat := 250

/-- The due expiries of a running part. -/
def State.dueNow (s : State) : List Instr :=
  s.booms.flatMap s.boomDue ++
  whenDue (s.idx.stepTimer.due (s.live P.stepTimeout)) .stepTimeout ++
  whenDue (s.idx.readyTimer.due (s.live P.readyWait)) .readyWaitTimeout ++
  whenDue (s.idx.passTimer.due (s.live P.passTimeout)) .passTimeout ++
  whenDue (s.link.presence.due (s.live P.presenceTimeout)) .presenceTimeout ++
  whenDue (s.diu.releaseTimer.due releaseMs) .eStopRelease ++
  whenDue (s.diu.clearTimer.due clearMs) .methaneClear ++
  whenDue (s.link.rxGap.running && byteGapMs * ticksPerMs < s.link.rxGap.ticks) .frameByteTimeout

/-! ### The part with no command waiting -/

/-- The head of the inbound queue is taken when a reply place is free (R205). -/
def State.takeInbound (s : State) : Option State :=
  match s.link.inbound with
  | f :: rest =>
    if s.takes then
      some { s.modLink (fun l => { l with inbound := rest }) with
             pending := [requestOf f.kind f.tag f.body] }
    else none
  | [] => none

/-- One tick of a running part: every timer counts, the overflows of the tick are taken, boom A's first, and
the expiries then due wait as commands. -/
def State.tickRunning (s : State) : State :=
  let t := (s.booms.filter fun b => (s.rot.get b).overflows).foldl State.tickOverflow s.tickAll
  { t with pending := t.dueNow }

/-- One tick of a start-up. -/
def State.tickStartUp (s : State) : State :=
  let t := { s with startTimer := s.startTimer.tick }
  { t with pending := whenDue (t.startTimer.due startUpMs) .startUpEnd }

/-- The part with no command waiting. -/
def State.idle (s : State) : State :=
  match s.power with
  | .off => s
  | .startUp => s.tickStartUp
  | .running =>
    match s.takeInbound with
    | some t => t
    | none => s.tickRunning

end Sys2Proof.Machine
end

