-- ==== Sys2Proof/Safety.lean ====
section
/-! DEFINITION. What counts as a safe state of the part: the predicates that the statements about every step
and every state use. -/

namespace Sys2Proof.Machine

/-! ### When a command acts -/

/-- The part runs and the Link Port takes a request: a reply place is free and no RESTART has been taken
(R205, R206, R214). -/
def State.ready (s : State) : Bool := s.power = .running && s.takes

/-- Calm: no reservation waits for admission and no function is on its alternate, so that an event moves
only what its own command moves (R154, R171). -/
def State.calm (s : State) : Bool :=
  s.arb.waiting.isEmpty && s.valve.routes.all fun r => r.kind ≠ .alternate

/-- Calm but for boom `b`'s own reservation, which may wait alone while the boom counts as in MIX_WAIT
(R120, R154). -/
def State.calmBut (s : State) (b : Boom) : Bool :=
  (s.arb.waiting.isEmpty || (s.phase b = .mixWait && s.arb.waiting = [b])) &&
  s.valve.routes.all fun r => r.kind ≠ .alternate

/-- Nothing moves without a cause: no waiting reservation fits, and no function is on its alternate (R154, R171). -/
def State.still (s : State) : Bool :=
  s.arb.waiting.all (fun b => !s.fits (s.arb.res.get b).amount) &&
  s.valve.routes.all fun r => r.kind ≠ .alternate

/-- No pause condition stands for boom `b` (R18). -/
def State.clearOfCauses (s : State) (b : Boom) : Bool := (s.standing b).isEmpty

/-! ### The end of an event -/

/-- A state without what the end of an event computes afresh: the results of the last grant computation
and the duties (R147, R162). -/
def State.core (s : State) : State :=
  { s with
    arb := { s.arb with flow := [], unused := 0, failed := [] }
    valve := { s.valve with channels := s.valve.channels.map fun c => { c with duty := 0 } } }

/-- What the end of an event does beside the grants and the duties: the test of TRAM_ENABLE (R35), the
flush-loss timers (R77) and the wait for the injector (R132). -/
def State.afterEvent (x : State) : State := ((x.tramCheck.flushSync .A).flushSync .B).readySync

/-- The Arbiter's records are the result of the grant computation over the live PUMP_FLOW and the demands, classes
and withheld causes as they stand (R147, R148). -/
def State.FlowComputed (t : State) : Prop :=
  (t.arb.flow, t.arb.unused) = grantAll (t.live P.pumpFlow) t.flowInputs

/-- After the event that left `x`, the grants are computed afresh, or nothing that the computation reads has changed
and they stand as they were (R148). -/
def State.FlowFollows (x t : State) : Prop :=
  t.FlowComputed ∨ (x.flowStale = false ∧ t.arb.flow = x.arb.flow ∧ t.arb.unused = x.arb.unused)

/-- `t` is the state `x` at the end of its event: nothing but the grants, the duties and what `afterEvent`
says differs from `x`; the grants are those of the demands as they stand (R148), and every channel drives
the duty its function and state give (R162, R163). -/
def State.Ends (x t : State) : Prop :=
  t.core = x.afterEvent.core ∧ (t.flowStale = false ∧ x.FlowFollows t) ∧
  ∀ c ∈ t.valve.channels, c.duty = t.channelDuty c

/-- `t` keeps of `x` the state around the cycle: the queue of commands, power, straps, parameters, band tables,
head values, direct inputs, the line but for its reports, the hole counter, and every channel but for its duty
and the function it drives. -/
def State.Keeps (x t : State) : Prop :=
  t.pending = x.pending ∧ t.power = x.power ∧ t.startTimer = x.startTimer ∧ t.resetCause = x.resetCause ∧
  t.straps = x.straps ∧ t.params = x.params ∧ t.bands = x.bands ∧ t.head = x.head ∧ t.diu = x.diu ∧
  { t.link with reports := x.link.reports, dropped := x.link.dropped } = x.link ∧
  t.store.counter = x.store.counter ∧
  t.valve.channels.map (fun c => { c with duty := 0, driving := none }) =
    x.valve.channels.map (fun c => { c with duty := 0, driving := none })

/-! ### A Sequencer as the entry into a state leaves it -/

/-- A Sequencer suspended from phase `p` with the one cause `c` (R6, R17, R19). -/
def Sequencer.suspended (p : Phase) (c : Cause) (q : Sequencer) : Sequencer :=
  { q with state := .paused, returnPhase := some p, causes := CauseSet.empty.add c
           timer := { q.timer with running := false }, jackUp := 0, jackDown := 0, feedDown := 0 }

/-- A Sequencer that enters RELEASING with FEED_DOWN at `feed` and closing outcome `c` (R6, R16, R28). -/
def Sequencer.releasing (feed : Nat) (c : Closing) (q : Sequencer) : Sequencer :=
  { q with state := .releasing, returnPhase := none, causes := .empty
           timer := { running := true, ticks := 0 }, jackUp := 0, jackDown := 0, feedDown := feed
           jackDownStarted := false, closing := some c }

/-- What boom `b`'s Sequencer is once it has entered RELEASING with closing outcome `c`: FEED_DOWN at the
approach feed, or JACK_DOWN at its qmax where FEED_RETRACTED is already active (R5, R16). -/
def State.releasedSeq (s : State) (b : Boom) (c : Closing) (q : Sequencer) : Sequencer :=
  let q' := q.releasing (s.hp b P.approachFeed * s.hp b P.feedFlowScale) c
  if s.active b Input.feedRetracted then
    { q' with feedDown := 0, jackDown := s.valve.qmaxOf (.boom b .jackDown), jackDownStarted := true }
  else q'

/-- An entry of boom `b` into RELEASING neither halts it nor closes its hole at once: no function of RELEASING
is FAILED, and FEED_RETRACTED and JACK_LOWERED are not both active (R5, R16, R172). -/
def State.mayRelease (s : State) (b : Boom) : Bool :=
  !s.blocked b .releasing && !(s.active b Input.feedRetracted && s.active b Input.jackLowered)

/-- A Sequencer that enters HALTED with reason `r` (R26). -/
def Sequencer.haltedWith (r : HaltReason) (q : Sequencer) : Sequencer :=
  { q with state := .halted, returnPhase := none, causes := .empty
           timer := { running := false, ticks := 0 }, jackUp := 0, jackDown := 0, feedDown := 0
           jackDownStarted := false, haltReason := some r, choices := .empty, jogs := .zero }

/-- A Sequencer that enters an automatic phase without a timeout, or with one (R1, R6). -/
def Sequencer.entering (p : Phase) (timed : Bool) (q : Sequencer) : Sequencer :=
  { q with state := p, returnPhase := none, causes := .empty, timer := { running := timed, ticks := 0 } }

/-- A Sequencer back in its return phase `p`, its timer run on where `timed` (R6, R19). -/
def Sequencer.returned (p : Phase) (timed : Bool) (q : Sequencer) : Sequencer :=
  { q with state := p, returnPhase := none, causes := .empty
           timer := if timed then { q.timer with running := true } else q.timer }

/-! ### The workers of a boom -/

/-- A rotation timer that is cleared (R188). -/
def Rotation.cleared (r : Rotation) : Rotation :=
  { r with interval := 0, noRotation := false, pulseSeen := false, last := none }

/-- The index of the band of record `r`'s copy that contains maximum depth `d` (R62). -/
def HoleRecord.bandAt (r : HoleRecord) (d : Nat) : Option Nat :=
  r.bands.findIdx? fun x => x.top * 10 ≤ d && d < x.bottom * 10

/-- A Governor with the collar targets of record `r` (R65). -/
def Governor.withCollar (r : HoleRecord) (g : Governor) : Governor :=
  { g with feedTarget := r.param P.collarFeed, rpmTarget := r.param P.collarRpm
           thrustCap := r.param (P.thrustCap + 1) }

/-- A Governor with the targets of CUT at maximum depth `d`: the setpoints of its class, MEDIUM when absent,
limited by a CAUTION band that contains `d` (R66, R67). -/
def Governor.withCut (r : HoleRecord) (d : Nat) (g : Governor) : Governor :=
  let k := match g.cls with
    | none => 2
    | some c => c.rank
  let lim := fun (get : Band → Nat) (v : Nat) =>
    match (r.bandAt d).bind fun j => r.bands[j]? with
    | some x => if x.attr = .caution then min v (get x) else v
    | none => v
  { g with feedTarget := lim Band.feed (r.param (P.feedTarget + k))
           rpmTarget := lim Band.rpm (r.param (P.rpmTarget + k))
           thrustCap := lim Band.thrust (r.param (P.thrustCap + k)) }

/-- A Governor whose demands follow from its targets at a sample of thrust `t` (R68). -/
def Governor.driving (r : HoleRecord) (t : Nat) (g : Governor) : Governor :=
  let full := g.feedTarget * r.param P.feedFlowScale
  { g with
    feedUp := if t ≤ g.thrustCap then full else if t ≤ g.thrustCap * 5 / 4 then full / 2 else 0
    feedDown := 0, rotFwd := g.rpmTarget * r.param P.rotDisplacement / 100, flush := true }

/-- An Indexer that has no burst in service (R137). -/
def Indexer.unserved (x : Indexer) : Indexer :=
  { x with stepTimer := { x.stepTimer with running := false }
           readyTimer := { x.readyTimer with running := false }
           passTimer := { x.passTimer with running := false }
           demand := 0, selected := none, stopMark := false, homing := false, remaining := 0 }

/-- An Indexer that begins its way to slot `n`, INDEX not FAILED: from a known position the move of the steps
between, or AWAIT_READY at once; from an unknown one the homing, INDEX_HOME being inactive (R129, R130). -/
def Indexer.toward (x : Indexer) (flow n : Nat) : Indexer :=
  match x.position with
  | some p =>
    let k := (n + x.slots.length - p) % x.slots.length
    if k = 0 then
      { x with state := .awaitReady, remaining := 0, demand := 0
               stepTimer := { x.stepTimer with running := false }
               readyTimer := { running := false, ticks := 0 } }
    else
      { x with state := .positioning, remaining := k, demand := flow
               stepTimer := { running := true, ticks := 0 } }
  | none =>
    { x with state := .positioning, homing := true, homeCount := 0, demand := flow
             stepTimer := { running := true, ticks := 0 } }

/-- Every member of a list and the next stand in relation `R`. -/
def Adjacent {α : Type} (R : α → α → Prop) : List α → Prop
  | x :: y :: rest => R x y ∧ Adjacent R (y :: rest)
  | _ => True

/-! ### Routes and FAILED functions -/

/-- Conflicts resolved: a claimant has its ROUTE_CONFLICT flag exactly when a lower-numbered function claims its
channel, and each channel is driven by the lowest-numbered of its claimants (R160, R170). -/
def Valve.Resolved (v : Valve) : Prop :=
  (∀ g ∈ allFns, (v.route g).conflict = true ↔ ∃ n, (v.route g).claims = some n ∧
    ∃ h ∈ allFns, h.num < g.num ∧ (v.route h).claims = some n) ∧
  ∀ n < v.channels.length, ∀ g, (v.channel n).driving = some g ↔ (v.route g).claims = some n ∧
    ∀ h ∈ allFns, h.num < g.num → (v.route h).claims ≠ some n

/-- What the functions that a change from `s` to `t` has made FAILED do (R172, R109, R131): with none, no boom and
no record moves; a present boom whose phase uses one halts with VALVE_FAULT, or in MIXING with MIX_INTERRUPTED where
no abort is deferred, and every other keeps its Sequencer, but for a boom in RESIN_INSERT where INDEX is among them.
INDEX, with a step under way, puts the Indexer in FAULT with INDEX_FAILED, which halts the boom it served with
BURST_FAILED where no stop is under way. A boom PAUSED from MIXING is left open. -/
def State.TakesFailed (s t : State) : Prop :=
  let lost := fun f => s.valve.isFailed f = false ∧ t.valve.isFailed f = true
  ((∀ f ∈ allFns, ¬ lost f) → t.seq = s.seq ∧ t.store = s.store ∧ t.bits = s.bits) ∧
  (lost .index →
    let x := s.idx
    let under := x.state = .positioning ∧ x.stepTimer.running = true
    (¬ under → t.idx.queue = x.queue ∧ t.idx.position = x.position ∧ t.idx.fault = x.fault) ∧
    (under →
      t.idx = { x.unserved with state := .fault, fault := some .indexFailed, queue := x.queue.tail } ∧
      ∀ r, x.queue.head? = some r → s.phase r.boom = .resinInsert → x.stopMark = false →
        (s.seq.get r.boom).abortPending = false →
        t.seq.get r.boom = (s.seq.get r.boom).haltedWith .burstFailed)) ∧
  (∀ b ∈ s.booms, (lost .index → s.phase b ≠ .resinInsert) →
    let q := s.seq.get b
    let hit := ∃ k ∈ (s.phase b).uses, lost (.boom b k)
    (¬ hit → t.seq.get b = q) ∧
    (hit → s.phase b ≠ .mixing → q.state.automatic = true ∨ q.state = .paused →
      t.seq.get b = q.haltedWith .valveFault) ∧
    (hit → q.state = .mixing → q.deferredAbort = false →
      t.seq.get b = { q.haltedWith .mixInterrupted with deferred := .empty }))

/-- Whether the route, the claim or the ROUTE_CONFLICT flag of a function differs between two Drivers (R173). -/
def Valve.moved (v w : Valve) (g : Fn) : Bool :=
  (v.route g).kind ≠ (w.route g).kind || (v.route g).conflict ≠ (w.route g).conflict ||
  (v.route g).claims ≠ (w.route g).claims

/-! ### Invariants of every step -/

/-- The queues of the Link Port hold what R204 and R206 allow: 4 inbound frames, 4 replies, 12 reports. -/
def State.QueuesBounded (s : State) : Prop :=
  s.link.inbound.length ≤ 4 ∧ s.link.replies.length ≤ 4 ∧ s.link.reports.length ≤ 12

/-- While the E-stop state is asserted every channel drives duty 0 (R162). -/
def State.StopHeld (s : State) : Prop := s.diu.estop = true → ∀ c ∈ s.valve.channels, c.duty = 0

/-- The settings of a channel lie in the ranges of R160. -/
def Channel.settingsGood (c : Channel) : Prop :=
  c.dmin ≤ 500 ∧ c.dmin + 1 ≤ c.dmax ∧ c.dmax ≤ 1000 ∧ 10 ≤ c.qmax ∧ c.qmax ≤ 3000 ∧
  200 ≤ c.shortTh ∧ c.shortTh ≤ 5000 ∧ c.openTh ≤ 2000 ∧ c.openTh + 50 ≤ c.shortTh

/-- A duty is 0 or lies between the channel's dmin and dmax (R162). -/
def Channel.dutyGood (c : Channel) : Prop := c.duty = 0 ∨ (c.dmin ≤ c.duty ∧ c.duty ≤ c.dmax)

/-- The Driver has its twenty channels and sixteen routes, and every channel has settings in their ranges and
a duty that R162 allows. -/
def State.DutiesGood (s : State) : Prop :=
  s.valve.channels.length = 20 ∧ s.valve.routes.length = 16 ∧
  ∀ c ∈ s.valve.channels, c.settingsGood ∧ c.dutyGood

/-- The live parameters lie in their ranges and in the order of R210 and R211. -/
def ParamsOrdered (ps : List Nat) : Prop :=
  ps.length = 73 ∧
  (∀ r ∈ paramRows, r.lo ≤ ps.getD r.index 0 ∧ ps.getD r.index 0 ≤ r.hi) ∧
  ps.getD P.t1 0 < ps.getD P.t2 0 ∧ ps.getD P.t2 0 < ps.getD P.t3 0 ∧ ps.getD P.t3 0 < ps.getD P.t4 0 ∧
  ps.getD P.snugTorque 0 + 10 ≤ ps.getD P.torqueTarget 0 ∧
  ps.getD P.angleMin 0 < ps.getD P.angleMax 0

/-- The records open and queued never exceed eight, and the Bit Table has its eight positions (R191, R197). -/
def State.RecordsBounded (s : State) : Prop := s.store.held ≤ recordPlaces ∧ s.bits.length = 8

/-- The numbers of the open holes and the queued records are hole numbers and pairwise distinct, and the
counter is a hole number (R191). -/
def State.NumbersDistinct (s : State) : Prop :=
  s.store.numbers.Nodup ∧ (∀ n ∈ s.store.numbers, 1 ≤ n ∧ n ≤ 65535) ∧
  1 ≤ s.store.counter ∧ s.store.counter ≤ 65535

/-- A Sequencer has a return phase exactly while it is PAUSED, and it is an automatic phase (R1). -/
def Sequencer.pauseMarked (q : Sequencer) : Prop :=
  (q.state = .paused → ∃ p, q.returnPhase = some p ∧ p.automatic = true) ∧
  (q.state ≠ .paused → q.returnPhase = none)

/-- Both Sequencers have a return phase exactly while PAUSED. -/
def State.PausesMarked (s : State) : Prop := s.seq.a.pauseMarked ∧ s.seq.b.pauseMarked

end Sys2Proof.Machine
end

