-- ==== Sys2Proof/WellFormed.lean ====
section
/-! DEFINITION. The commands that can be given: a request's body fits a frame, an unknown KIND is not in the
catalogue, a current reading has its twenty channels, and a discarded LEN is above 240. -/

namespace Sys2Proof

/-- A body that a frame can carry (R203). -/
def bodyFits (body : List Byte) : Bool := body.length ≤ 240

/-- Whether a KIND is in the request catalogue of section 11.3. -/
def knownKind (kind : Byte) : Bool :=
  match requestOf kind 0 [] with
  | .unknownKindRequest _ _ _ => false
  | _ => true

/-- The commands that can be given. -/
def Instr.wf : Instr → Bool
  | .ping _ body => bodyFits body
  | .getStatus _ body => bodyFits body
  | .setParam _ body => bodyFits body
  | .getParam _ body => bodyFits body
  | .restart _ body => bodyFits body
  | .startHole _ body => bodyFits body
  | .decide _ body => bodyFits body
  | .pause _ body => bodyFits body
  | .resume _ body => bodyFits body
  | .abortHole _ body => bodyFits body
  | .clearStop _ body => bodyFits body
  | .jog _ body => bodyFits body
  | .endManual _ body => bodyFits body
  | .tram _ body => bodyFits body
  | .setBands _ body => bodyFits body
  | .getBands _ body => bodyFits body
  | .loadSlots _ body => bodyFits body
  | .getMagazine _ body => bodyFits body
  | .clearMagazine _ body => bodyFits body
  | .setChannel _ body => bodyFits body
  | .setRoute _ body => bodyFits body
  | .clearChannel _ body => bodyFits body
  | .getChannels _ body => bodyFits body
  | .getFlow _ body => bodyFits body
  | .fetchHole _ body => bodyFits body
  | .releaseHole _ body => bodyFits body
  | .listHoles _ body => bodyFits body
  | .bitFitted _ body => bodyFits body
  | .replaceBit _ body => bodyFits body
  | .getBits _ body => bodyFits body
  | .unknownKindRequest kind _ body => !knownKind kind && bodyFits body
  | .frameArrival bytes => !bytes.isEmpty
  | .valveCurrentReading currents => currents.length == 20
  | .lenAbove240Discard len => 240 < len.toNat
  | .frameByteTimeout => true
  | .frameTransmitStart => true
  | .presenceTimeout => true
  | .powerOn _ _ => true
  | .resetReleased => true
  | .resetAsserted => true
  | .restartReplySent => true
  | .startUpEnd => true
  | .scanFrameArrival _ _ => true
  | .indexStep _ => true
  | .stepTimeout => true
  | .readyWaitTimeout => true
  | .passTimeout => true
  | .rotationPulse _ => true
  | .rotationOverflow _ => true
  | .eStopAssert => true
  | .eStopInputMade => true
  | .eStopRelease => true
  | .methaneActive => true
  | .methaneInputInactive => true
  | .methaneClear => true
  | .jackTimeout _ => true
  | .contactTimeout _ => true
  | .retractTimeout _ => true
  | .pushTimeout _ => true
  | .mixMaxTime _ => true
  | .torqueTimeout _ => true
  | .releaseTimeout _ => true
  | .gelHoldExpiry _ => true
  | .flushLossTimeout _ => true
  | .indexHomeChange _ => true
  | .powerLoss => true

end Sys2Proof
end

