-- ==== Sys2Proof/Certificates/Slice0/Obligations.lean ====
section
/-! DEFINITION. The statements about the model for the provers. A statement that gives a whole next state
writes it as a record over the state before; where the command's event ends with a computation of the grants,
the record is the `x` of `x.Ends t` (Sys2Proof/Safety.lean), which leaves open only the grants, the duties and
the timers that follow an input, and says of them what R77, R132, R148 and R162 say. -/

open Sys2Proof Sys2Proof.Machine

/-! ## The step -/

/-- A step runs the command at the front of the queue, on the state with the queue's rest. That commands wait
in a queue, and that no time passes while one waits, is the model's choice (log entry 3). -/
def Obligations.StepRunsFrontCommand : Prop :=
  ∀ (c : Instr) (s : State), step { s with pending := c :: s.pending } = exec c s

/-- A step with no command waiting. A running part with a reply place free takes the head of the inbound queue: the
frame leaves the queue and becomes the command that waits (R205). Otherwise one tick of 25 µs passes: every running
timer counts it, the interval counts of the rotation timers rise by their shift, an overflow of the tick is taken
(R188), and each expiry whose timer has counted its limit waits as a command: the phase timers (R6), the gel hold
(R111), the flush-loss timer (R77), the Indexer's three (R125), the presence timer (R209), the release timer at 100
ms (R185), the clear timer at 2,000 ms (R186), and more than 5 ms between two bytes of a frame (R204). In a start-up
only its own timer counts, to 250 ms (R212), and without supply nothing changes. That an idle step does this, the
length of the tick and the order of the expiries are the model's choice (log entry 3), as are the division of the
interval count (log entry 23) and what a part without supply does (log entry 10). -/
def Obligations.StepTakesInboundHead : Prop :=
  let tick := fun t : Timer => if t.running = true then { t with ticks := t.ticks + 1 } else t
  let due := fun (t : Timer) (ms : Nat) => t.running && decide (ms * 40 ≤ t.ticks)
  let when := fun (c : Bool) (i : Instr) => if c = true then [i] else []
  let ofBoom := fun (t : State) (b : Boom) =>
    let q := t.seq.get b
    let phase := fun (p : Phase) (limit : Nat) (i : Instr) =>
      when (decide (q.state = p) && due q.timer (t.hp b limit)) i
    phase .jackSet P.jackTimeout (.jackTimeout b) ++ phase .collaring P.contactTimeout (.contactTimeout b) ++
    phase .retracting P.retractTimeout (.retractTimeout b) ++ phase .boltPush P.pushTimeout (.pushTimeout b) ++
    phase .mixing P.mixMaxTime (.mixMaxTime b) ++ phase .torquing P.torqueTimeout (.torqueTimeout b) ++
    phase .releasing P.releaseTimeout (.releaseTimeout b) ++
    when (decide (t.phase b = .gelHold) && due (t.sett.get b).gelTimer ((t.sett.get b).holdTime * 100))
      (.gelHoldExpiry b) ++
    when (due (t.gov.get b).flushTimer (t.hp b P.flushLossTime)) (.flushLossTimeout b)
  let expiries := fun t : State =>
    t.booms.flatMap (ofBoom t) ++
    when (due t.idx.stepTimer (t.live P.stepTimeout)) .stepTimeout ++
    when (due t.idx.readyTimer (t.live P.readyWait)) .readyWaitTimeout ++
    when (due t.idx.passTimer (t.live P.passTimeout)) .passTimeout ++
    when (due t.link.presence (t.live P.presenceTimeout)) .presenceTimeout ++
    when (due t.diu.releaseTimer 100) .eStopRelease ++ when (due t.diu.clearTimer 2000) .methaneClear ++
    when (t.link.rxGap.running && decide (5 * 40 < t.link.rxGap.ticks)) .frameByteTimeout
  (∀ (s : State) (f : Frame) (rest : List Frame),
    s.pending = [] → s.power = .running → s.takes = true → s.link.inbound = f :: rest →
    step s = .next { s with link := { s.link with inbound := rest }
                            pending := [requestOf f.kind f.tag f.body] }) ∧
  (∀ s : State, s.pending = [] → s.power = .running → s.takes = false ∨ s.link.inbound = [] →
    let ends := fun r : Rotation => decide (2 ^ r.shift ≤ r.prescale + 1)
    let turn := fun r : Rotation =>
      if ends r = true then
        { r with prescale := 0, shift := s.live P.stallTickShift
                 interval := if r.noRotation = true then r.interval else min 4095 (r.interval + 1) }
      else { r with prescale := r.prescale + 1 }
    let ofSeq := fun q : Sequencer => { q with timer := tick q.timer }
    let ofGov := fun g : Governor => { g with flushTimer := tick g.flushTimer }
    let ofSett := fun c : Setting => { c with gelTimer := tick c.gelTimer }
    let u := { s with
      startTimer := tick s.startTimer
      link := { s.link with rxGap := tick s.link.rxGap, presence := tick s.link.presence }
      seq := { a := ofSeq s.seq.a, b := ofSeq s.seq.b }
      gov := { a := ofGov s.gov.a, b := ofGov s.gov.b }
      sett := { a := ofSett s.sett.a, b := ofSett s.sett.b }
      idx := { s.idx with
        stepTimer := tick s.idx.stepTimer, readyTimer := tick s.idx.readyTimer, passTimer := tick s.idx.passTimer }
      diu := { s.diu with releaseTimer := tick s.diu.releaseTimer, clearTimer := tick s.diu.clearTimer }
      rot := { a := turn s.rot.a, b := turn s.rot.b } }
    let full := s.booms.filter fun b =>
      !(s.rot.get b).noRotation && ends (s.rot.get b) && decide (4095 ≤ (s.rot.get b).interval)
    (full = [] → step s = .next { u with pending := expiries u }) ∧
    (∀ b, full = [b] →
      ∃ t, exec (.rotationOverflow b) u = .next t ∧ step s = .next { t with pending := expiries t }) ∧
    (full = [.A, .B] →
      ∃ v t, exec (.rotationOverflow .A) u = .next v ∧ exec (.rotationOverflow .B) v = .next t ∧
        step s = .next { t with pending := expiries t })) ∧
  (∀ s : State, s.pending = [] → s.power = .startUp →
    step s = .next { s with startTimer := tick s.startTimer
                            pending := when (due (tick s.startTimer) 250) .startUpEnd }) ∧
  (∀ s : State, s.pending = [] → s.power = .off → step s = .next s)

/-! ## Reset and start-up -/

/-- The state right after reset, block by block (the table of R212): the straps, the inactive pins, boom B
fitted and the kind of reset are the model's choice (log entry 4). -/
def Obligations.ResetLeavesTheTable : Prop :=
  let s := State.reset
  (∀ b, s.seq.get b = .reset false ∧ (s.seq.get b).state = .idle ∧ (s.seq.get b).hole = none) ∧
  (∀ b, (s.prof.get b).mode = .inactive ∧ (s.gov.get b).stage = .off ∧ (s.sett.get b).stage = .off ∧
    (s.arb.res.get b).mark = .none ∧ s.bands.get b = []) ∧
  s.idx.state = .idle ∧ s.idx.position = none ∧ s.idx.queue = [] ∧ s.idx.seqCounter = 1 ∧
  s.idx.slots = List.replicate 12 .empty ∧
  (∀ r ∈ s.arb.flow, r.asked = 0 ∧ r.grant = 0) ∧ s.arb.flow.map FlowRec.fn = propFns ∧
  s.valve.channels.length = 20 ∧
  (∀ c ∈ s.valve.channels, c.state = .ok ∧ c.duty = 0 ∧ c.dmin = 250 ∧ c.dmax = 900 ∧ c.qmax = 1000 ∧
    c.openTh = 100 ∧ c.shortTh = 3500 ∧ c.lowCount = 0) ∧
  s.valve.routes = (List.range 16).map
    (fun n => { primary := n, alternate := none, kind := .primary, conflict := false }) ∧
  (∀ b, (s.head.get b).valid = false ∧ (s.head.get b).feed = 0 ∧ (s.head.get b).badTotal = 0 ∧
    (s.head.get b).scanLost = false ∧ (s.rot.get b).samplePulses = 0 ∧ (s.rot.get b).interval = 0) ∧
  s.diu.estop = false ∧ s.diu.methane = false ∧
  s.store.opened = { a := none, b := none } ∧ s.store.queue = [] ∧ s.store.counter = 1 ∧
  (∀ x ∈ s.bits, x.state = .empty ∧ x.wear = 0 ∧ x.holes = 0 ∧ x.worn = false) ∧ s.bits.length = 8 ∧
  s.link.reports = [.started .power s.straps] ∧ s.link.replies = [] ∧ s.link.inbound = [] ∧
  s.link.dropped = false ∧ s.link.overrun = false ∧ s.link.silence = false ∧
  s.link.presence = { running := true, ticks := 0 } ∧
  (∀ r ∈ paramRows, s.params.getD r.index 0 = r.dflt) ∧ s.tram = false ∧ s.power = .running

/-- The state right after reset meets every invariant that the statements about every step use. -/
def Obligations.ResetMeetsTheInvariants : Prop :=
  State.reset.QueuesBounded ∧ State.reset.StopHeld ∧ State.reset.DutiesGood ∧
  ParamsOrdered State.reset.params ∧ State.reset.RecordsBounded ∧ State.reset.NumbersDistinct ∧
  State.reset.PausesMarked

/-- POWER_ON begins a start-up with the straps sampled, and every output inactive; POWER_LOSS leaves nothing,
the straps included; a part without supply keeps its state under every other command (R212). That waiting
commands stay in the queue, and what a part without supply does, are the model's choices (log entry 10). -/
def Obligations.PowerOnBeginsStartUp : Prop :=
  ∀ (st : Straps) (p : Pins) (s : State),
    (∃ t, exec (.powerOn st p) s = .next t ∧
      t.power = .startUp ∧ t.startTimer = { running := true, ticks := 0 } ∧ t.resetCause = .power ∧
      t.straps = st ∧ t.params = defaultParams ∧ t.link = .quiet ∧ t.store = .reset ∧
      t.bits = List.replicate 8 .reset ∧ t.tram = false ∧ (∀ c ∈ t.valve.channels, c.duty = 0) ∧
      t.diu.armed = false ∧ t.pins = p ∧ t.pending = s.pending) ∧
    (∃ t, exec .powerLoss s = .next t ∧
      t = { State.unpowered with pending := s.pending, freeCount := s.freeCount } ∧ t.power = .off ∧
      t.straps = { boomB := false, magazine24 := false, linkRate := false } ∧
      (∀ c ∈ t.valve.channels, c.duty = 0)) ∧
    (s.power = .off → ∀ c : Instr, (∀ st' p', c ≠ .powerOn st' p') → c ≠ .powerLoss → exec c s = .next s)

/-- The end of a start-up gives every block its state after reset, keeps the cause and the straps, takes the
direct inputs as found, places STARTED and the INTERLOCK reports of inputs found active, and starts the
presence timer (R185, R186, R212). What the RESET mark is after it, and the order of the INTERLOCK reports, are the
model's choices (log entries 10 and 11). -/
def Obligations.StartUpEndLeavesReset : Prop :=
  ∀ s : State, s.power = .startUp →
    ∃ t, exec .startUpEnd s = .next t ∧
      t = { State.afterReset s.resetCause s.straps s.pins (s.diu.armed || !s.diu.resetLine) with
            pending := s.pending, freeCount := s.freeCount } ∧
      t.power = .running ∧ t.resetCause = s.resetCause ∧ t.straps = s.straps ∧
      t.params = defaultParams ∧ t.store = .reset ∧ t.link.replies = [] ∧ t.link.inbound = [] ∧
      t.link.reports = .started s.resetCause s.straps ::
        ((if s.diu.rawEstop then [.interlock (.eStop true)] else []) ++
         (if s.diu.rawMethane then [.interlock (.methane true)] else [])) ∧
      t.link.presence = { running := true, ticks := 0 } ∧
      t.seq.a.state = (if s.diu.rawEstop then .stopped else .idle) ∧
      t.seq.b.state = (if s.diu.rawEstop && s.straps.boomB then .stopped else .idle) ∧
      t.diu.estop = s.diu.rawEstop ∧ t.diu.methane = s.diu.rawMethane

/-- The armed mark of the RESET line (R213): a qualified release sets it; a qualified assertion with the mark
set begins a LINE reset, which clears it and keeps the straps, and with the mark clear it does nothing but
move the level. -/
def Obligations.ResetLineNeedsItsMark : Prop :=
  ∀ s : State, s.power ≠ .off →
    exec .resetReleased s = .next { s with diu := { s.diu with resetLine := false, armed := true } } ∧
    (s.diu.armed = false →
      exec .resetAsserted s = .next { s with diu := { s.diu with resetLine := true } }) ∧
    (s.diu.armed = true → ∃ t, exec .resetAsserted s = .next t ∧
      t.power = .startUp ∧ t.resetCause = .line ∧ t.straps = s.straps ∧ t.diu.armed = false ∧
      t.startTimer = { running := true, ticks := 0 } ∧ t.link = .quiet ∧ t.store = .reset ∧
      t.params = defaultParams ∧ (∀ c ∈ t.valve.channels, c.duty = 0))

/-- RESTART is answered OK and is the last request taken: a request after it joins the inbound queue or is
dropped there; the MESSAGE reset begins when the RESTART reply, the last of the replies, has left (R214). What
a request command after RESTART does, and that no reply may be left at RESTART_REPLY_SENT, are the model's
choices (log entries 7 and 10). -/
def Obligations.RestartIsTheLastRequest : Prop :=
  ∀ (tag : Byte) (s : State),
    (s.ready = true →
      exec (.restart tag []) s = .next { s with link := { s.link with
        restarting := true
        replies := s.link.replies ++ [{ kind := 0x05, tag := tag, result := .ok, content := [], sent := 0 }] } }) ∧
    (s.power = .running → s.link.restarting = true → ∀ (k : Byte) (body : List Byte),
      exec (requestOf k tag body) s = .next { s with link := s.link.join { kind := k, tag := tag, body := body } }) ∧
    (s.power = .running → s.link.restarting = true → s.link.replies = [] →
      ∃ t, exec .restartReplySent s = .next t ∧ t.power = .startUp ∧ t.resetCause = .message ∧
        t.straps = s.straps ∧ t.link = .quiet ∧ t.store = .reset ∧ t.params = defaultParams ∧
        (∀ c ∈ t.valve.channels, c.duty = 0))

/-! ## The link -/

/-- PING echoes its body of 0 to 32 bytes and changes nothing but the outbound queue; a longer body is
BAD_LENGTH (R208). -/
def Obligations.PingEchoes : Prop :=
  ∀ (tag : Byte) (body : List Byte) (s : State), s.ready = true →
    exec (.ping tag body) s = .next
      (if body.length ≤ 32 then s.reply 0x01 tag .ok body else s.reply 0x01 tag .badLength [])

/-- A KIND that is not in the catalogue is answered UNKNOWN_KIND whatever its length, and a body whose length
is not the length its fields give is answered BAD_LENGTH, each without content and without a change of state:
the requests of a fixed length (R205; the lengths are the model's, log entry 5). -/
def Obligations.BadFramesAnswered : Prop :=
  ∀ (tag : Byte) (body : List Byte) (s : State), s.ready = true →
    (∀ kind, exec (.unknownKindRequest kind tag body) s = .next (s.reply kind tag .unknownKind [])) ∧
    (body.length ≠ 0 → ∀ c ∈ [(0x05, Instr.restart tag body), (0x15, .clearStop tag body),
        (0x29, .getMagazine tag body), (0x2A, .clearMagazine tag body), (0x33, .getChannels tag body),
        (0x34, .getFlow tag body), (0x3A, .listHoles tag body), (0x3D, .getBits tag body)],
      exec c.2 s = .next (s.reply c.1 tag .badLength [])) ∧
    (body.length ≠ 1 → ∀ c ∈ [(0x04, Instr.getParam tag body), (0x12, .pause tag body),
        (0x13, .resume tag body), (0x14, .abortHole tag body), (0x19, .endManual tag body),
        (0x1A, .tram tag body), (0x32, .clearChannel tag body), (0x3C, .replaceBit tag body)],
      exec c.2 s = .next (s.reply c.1 tag .badLength [])) ∧
    (body.length ≠ 2 → ∀ c ∈ [(0x11, Instr.decide tag body), (0x21, .getBands tag body),
        (0x39, .releaseHole tag body), (0x3B, .bitFitted tag body)],
      exec c.2 s = .next (s.reply c.1 tag .badLength [])) ∧
    (body.length ≠ 3 → exec (.jog tag body) s = .next (s.reply 0x18 tag .badLength [])) ∧
    (body.length ≠ 5 → exec (.setParam tag body) s = .next (s.reply 0x03 tag .badLength [])) ∧
    (body.length ≠ 7 → exec (.fetchHole tag body) s = .next (s.reply 0x38 tag .badLength [])) ∧
    (body.length ≠ 10 → exec (.startHole tag body) s = .next (s.reply 0x10 tag .badLength [])) ∧
    (body.length ≠ 12 → exec (.setChannel tag body) s = .next (s.reply 0x30 tag .badLength []))

/-- With four replies queued the Link Port takes no request: a frame waits in the inbound queue, or is lost
with INBOUND_OVERRUN when four frames wait (R204, R206). That a request command stands for its frame here is
the model's choice (log entry 7). -/
def Obligations.FullRepliesHoldRequests : Prop :=
  ∀ (k tag : Byte) (body : List Byte) (s : State), s.power = .running → s.link.replies.length = 4 →
    (s.link.inbound.length < 4 → exec (requestOf k tag body) s = .next { s with link := { s.link with
      inbound := s.link.inbound ++ [{ kind := k, tag := tag, body := body }] } }) ∧
    (4 ≤ s.link.inbound.length →
      exec (requestOf k tag body) s = .next { s with link := { s.link with overrun := true } })

/-- The requests that only read: each adds its one reply and changes nothing else, whatever the booms, the
Indexer and the interlocks are doing, and the reply carries the values its rule names, as they stand: the
sections of GET_STATUS (R36, R61, R83, R121, R190, R208), GET_PARAM (R210), GET_BANDS (R82), GET_MAGAZINE (R142),
GET_CHANNELS (R173), GET_FLOW (R159), FETCH_HOLE with its sections (R195), LIST_HOLES (R196) and GET_BITS (R202).
The lengths of the bodies, the widths, the codes the rules leave open, the order in a group, the presence bytes of a
group and that FETCH_HOLE refuses in the order of R195's sentences are the model's (log entries 5, 8, 26, 29 to 31, 39
and 43). -/
def Obligations.ReadingChangesNothing : Prop :=
  ∀ (tag : Byte) (body : List Byte) (s : State), s.ready = true →
    let ms := fun t : Timer => u32 (t.ticks / 40)
    let timer := fun t : Timer => u32 (t.ticks / 40) ++ mark t.running
    let straps := mark s.straps.boomB ++ mark s.straps.magazine24 ++ mark s.straps.linkRate
    let causes := fun c : CauseSet => set8 [c.operator, c.silence, c.gas, c.scan, c.flush]
    let choices := fun c : ChoiceSet => set8 [c.proceed, c.extraFast, c.redrill, c.abandon]
    let flags := fun f : SegFlags => set8 [f.collar, f.partialSeg, f.saturated, f.encoderJump, f.stallRetry]
    let pair := fun x : Nat × CartType => u8 x.1 ++ u8 x.2.code
    let band := fun x : Band =>
      u16 x.top ++ u16 x.bottom ++ u8 x.attr.code ++ u8 x.feed ++ u16 x.rpm ++ u16 x.thrust
    let unit := u8 s.resetCause.code ++ straps ++
      u8 (if s.diu.estop then 0 else 1) ++ ms s.diu.releaseTimer ++
      u8 (if s.diu.methane then 0 else 1) ++ ms s.diu.clearTimer ++
      mark s.diu.rawEstop ++ mark s.diu.estop ++ mark s.diu.rawMethane ++ mark s.diu.methane ++
      mark s.diu.rawIndexHome ++ mark s.diu.indexHome ++ mark s.diu.rawIndexStep ++ mark s.diu.indexStep ++
      u8 (s.live P.stallTickShift) ++ u8 (s.live P.debounce) ++ mark s.tram ++
      mark s.link.silence ++ ms s.link.presence ++
      u8 s.link.inbound.length ++ u8 s.link.replies.length ++ u8 s.link.reports.length ++
      mark s.link.dropped ++ mark s.link.overrun
    let sequence := fun b : Boom =>
      let q := s.seq.get b
      let j := q.jogs
      u8 q.state.code ++ opt (fun p => u8 p.code) q.returnPhase ++ causes q.causes ++ causes q.deferred ++
      mark q.deferredAbort ++ mark q.abortPending ++ opt (fun r => u8 r.code) q.haltReason ++
      opt (fun p => u8 p.code) q.stoppedFrom ++ choices q.choices ++ mark q.holdComplete ++
      opt u16 q.hole ++ ms q.timer ++
      (u16 j.jackUp ++ u16 j.jackDown ++ u16 j.feedUp ++ u16 j.feedDown ++ u16 j.rotFwd ++ u16 j.rotRev ++
        mark j.flush)
    let profile := fun b : Boom =>
      let p := s.prof.get b
      let count := match s.rec? b with
        | some r => r.segments.length
        | none => 0
      u8 p.mode.code ++ opt u16 p.collarRef ++ u32 p.depth ++ u16 p.maxDepth ++ u8 p.jumps ++ u8 count ++
      opt (fun g => u16 g.top ++ u8 g.lseg ++ u8 g.samples ++ flags g.flags) p.openSeg
    let drill := fun b : Boom =>
      let g := s.gov.get b
      u8 g.stage.code ++ opt (fun c => u8 c.rank) g.cls ++ u8 g.feedTarget ++ u16 g.rpmTarget ++
      u16 g.thrustCap ++ opt u8 g.band ++ u16 g.feedUp ++ u16 g.feedDown ++ u16 g.rotFwd ++
      mark g.flush ++ mark g.backingOff ++ opt u16 (if g.backingOff then some g.backoffTarget else none) ++
      mark g.approachStall ++ ms g.flushTimer ++ opt (fun o => u8 o.code) g.outcome
    let setting := fun b : Boom =>
      let c := s.sett.get b
      let r := s.arb.res.get b
      u8 c.stage.code ++ opt u16 c.pushOrigin ++ u32 c.pushAdvance ++ u8 r.mark.code ++ u32 r.amount ++
      u16 c.mixPulses ++ mark c.stallSeen ++ s8 c.gelTemp ++ u8 c.gelFactor ++ u16 c.holdTime ++
      timer c.gelTimer ++ u32 c.turns ++ opt u32 c.snug ++ u16 c.angle ++ u16 c.peak ++
      opt (fun v => u8 v.code) c.verdict ++ u16 c.feedUp ++ u16 c.rotFwd
    let inputs := fun b : Boom =>
      let h := s.head.get b
      let r := s.rot.get b
      u16 h.feed ++ u16 h.thrust ++ u16 h.torque ++ s8 h.temp ++ mark h.valid ++ u16 h.rawBits.toNat ++
      ((List.range 16).flatMap fun k =>
        mark (h.levels.getLsbD k) ++ u8 (h.changes.getD k 0) ++ mark (s.active b k)) ++
      u16 h.badRun ++ u8 h.goodRun ++ mark h.scanLost ++ u16 h.badTotal ++ u16 (s.polarity b).toNat ++
      u16 r.interval ++ mark r.noRotation ++ opt (fun x => u16 x.1 ++ u8 x.2) r.last ++ u32 r.rpm
    let request := fun (r : Burst) (inService : Bool) =>
      u8 (boomNum r.boom) ++ u16 r.hole ++ listOf (fun t => u8 t.code) r.types ++ u8 r.progress ++
      listOf pair r.delivered ++ mark inService
    let x := s.idx
    let magazine := u8 x.slots.length ++
      x.slots.flatMap (fun y =>
        u8 y.state.code ++ opt (fun t => u8 t.code) y.type ++ opt u32 y.seq ++ u8 y.fails) ++
      u32 x.seqCounter ++ u8 x.state.code ++ opt u8 x.position ++
      opt (fun n => u8 n ++ u8 ((x.queue.head?.bind Burst.wanted).getD .fast).code) x.selected ++
      u32 x.remaining ++ mark x.homing ++ u32 x.homeCount ++ mark x.stopMark ++
      opt (fun c => u8 c.code) x.fault ++ timer x.stepTimer ++ timer x.readyTimer ++ timer x.passTimer ++
      u16 x.demand ++ u16 x.strayPass ++
      (u8 x.queue.length ++ match x.queue with
        | [] => []
        | r :: rest => request r x.serving ++ rest.flatMap fun r => request r false)
    let channels := s.valve.channels.flatMap (fun c =>
        u16 c.dmin ++ u16 c.dmax ++ u16 c.qmax ++ u8 (if c.polarityHigh then 0 else 1) ++ u16 c.openTh ++
        u16 c.shortTh ++ u8 c.state.code ++ u16 c.duty ++ u16 c.current ++ u8 c.lowCount ++
        opt (fun f => u8 f.num) c.driving) ++
      allFns.flatMap fun f =>
        let r := s.valve.route f
        u8 r.primary ++ opt u8 r.alternate ++ u8 r.kind.code ++ opt u8 r.claims ++ mark r.conflict ++
        mark (s.valve.isFailed f)
    let classSums := fun c : FlowClass =>
      let rs := s.arb.flow.filter fun r => r.cls = c
      u32 (rs.map FlowRec.effective).sum ++ u32 (rs.map FlowRec.grant).sum
    let margin := fun b : Boom => (s.live P.pumpFlow : Int) - s.supportTotal - s.arb.admittedSum -
      (s.arb.res.get b).amount
    let flow := u16 (s.live P.pumpFlow) ++ u8 (if s.arb.estop then 0 else 1) ++
      u8 (if s.arb.methane then 0 else 1) ++
      s.arb.flow.flatMap (fun r => u8 r.fn.num ++ u16 r.asked ++ u8 r.cls.code ++ u16 r.effective ++
        u8 r.cause.code ++ u32 r.grant ++ mark r.limited) ++
      classSums .support ++ classSums .setting ++ classSums .work ++ u32 s.arb.unused ++
      s.booms.flatMap (fun b => u8 (s.arb.res.get b).mark.code ++ u32 (s.arb.res.get b).amount) ++
      listOf (fun b => u8 (boomNum b) ++ s32 (margin b)) s.arb.waiting ++ u32 s.arb.admittedSum
    let holes := listOf (fun r : HoleRecord => u16 r.number ++ u8 (boomNum r.boom) ++
        match r.outcome with
        | some o => u8 o.code
        | none => []) s.store.queue ++
      s.booms.flatMap fun b => opt (fun r => u16 (HoleRecord.number r)) (s.rec? b)
    let bits := s.bits.flatMap (fun p =>
        u8 p.state.code ++ u32 (p.wear / 1000000) ++ u16 p.holes ++ mark p.worn) ++
      u32 (s.live P.bitWearLimit) ++ opt (fun p => u8 p ++ mark (s.bitAt p).worn) s.advisedBit
    let header := fun (r : HoleRecord) (isOpen : Bool) (start : Nat) =>
      u16 r.number ++ u8 (boomNum r.boom) ++ u8 r.bitPos ++ u8 (if isOpen then 0 else 1) ++
      (u16 r.spec.planned ++ u16 r.spec.holeDia ++ u16 r.spec.boltLen ++ u16 r.spec.boltDia ++
        u8 r.spec.fastCount) ++
      opt u16 r.drilledDepth ++ opt (fun o => u8 o.code) r.drillOutcome ++
      opt (fun c => u8 c.code) r.decision ++ set8 [r.profileFull, r.bitWorn] ++
      opt (fun o => u8 o.code) r.outcome ++ opt (fun h => u8 h.code) r.haltReason ++
      u8 r.segments.length ++ u8 (r.layers.getD []).length ++ listOf band r.bands ++
      listOf (fun i => u8 i ++ u32 (r.params.getD i 0))
        (((List.range 73).filter fun i => isHoleParam i && start ≤ i).take 24)
    let segments := fun (r : HoleRecord) (start : Nat) => u8 r.segments.length ++
      listOf (fun g => u8 g.index ++ u16 g.top ++ u16 g.bottom ++ u8 g.samples ++ u16 g.se ++
        u8 g.cls.rank ++ flags g.flags) ((r.segments.drop start).take 40)
    let layers := fun (r : HoleRecord) (start : Nat) =>
      mark r.layers.isSome ++ u8 (r.layers.getD []).length ++
      listOf (fun l => u32 l.top ++ u32 l.bottom ++ u8 l.cls.rank ++ u32 l.count ++ u16 l.minSe ++
        u16 l.maxSe ++ u16 l.meanSe) (((r.layers.getD []).drop start).take 16)
    let resin := fun r : HoleRecord =>
      opt (fun p => u8 p.pass ++ u8 p.status.code ++ u32 p.dd ++ u32 p.bt ++
        set8 [p.flags.boltLong, p.flags.anchorWeak, p.flags.shortResin] ++ opt u32 p.le ++ opt u32 p.nv ++
        opt u8 p.nfEff ++ opt u64 p.vreq ++ opt u8 p.ns ++
        opt (listOf fun t => u8 (CartType.code t)) p.types) r.plan ++ listOf pair r.delivered
    let results := fun r : HoleRecord =>
      opt (fun m => u16 m.pulses ++ u32 m.revs ++ u32 m.timeMs ++ mark m.stallSeen ++ u8 m.ending.code) r.mix ++
      opt (fun g => s8 g.temp ++ u8 g.factor ++ u16 g.hold ++ u32 g.elapsed) r.gel ++
      opt (fun t => u16 t.peak ++ opt u32 t.snug ++ u16 t.angle ++ u32 t.turns ++
        opt (fun v => u8 v.code) t.verdict) r.torque
    let n := numAt body 0 2
    let start := numAt body 3 4
    (body.length = 0 →
      exec (.getMagazine tag body) s = .next (s.reply 0x29 tag .ok magazine) ∧
      exec (.getChannels tag body) s = .next (s.reply 0x33 tag .ok channels) ∧
      exec (.getFlow tag body) s = .next (s.reply 0x34 tag .ok flow) ∧
      exec (.listHoles tag body) s = .next (s.reply 0x3A tag .ok holes) ∧
      exec (.getBits tag body) s = .next (s.reply 0x3D tag .ok bits)) ∧
    (body.length = 1 →
      exec (.getParam tag body) s = .next (match paramRow? (byteAt body 0) with
        | some r => s.reply 0x04 tag .ok (u32 (s.live r.index))
        | none => s.reply 0x04 tag .range [])) ∧
    (statusLen body = true → exec (.getStatus tag body) s = .next
      (if 5 < byteAt body 0 then s.reply 0x02 tag .range []
       else if byteAt body 0 = 0 then s.reply 0x02 tag .ok unit
       else match s.boomAt body 1 with
         | none => s.reply 0x02 tag .noSuchBoom []
         | some b => s.reply 0x02 tag .ok
             (if byteAt body 0 = 1 then sequence b else if byteAt body 0 = 2 then profile b
              else if byteAt body 0 = 3 then drill b else if byteAt body 0 = 4 then setting b
              else inputs b))) ∧
    (body.length = 2 → exec (.getBands tag body) s = .next (match s.boomAt body 0 with
       | none => s.reply 0x21 tag .noSuchBoom []
       | some b =>
         if 1 < byteAt body 1 then s.reply 0x21 tag .range []
         else if byteAt body 1 = 0 then s.reply 0x21 tag .ok (listOf band (s.bands.get b))
         else match s.rec? b with
           | none => s.reply 0x21 tag .state []
           | some r => s.reply 0x21 tag .ok (listOf band r.bands))) ∧
    (body.length = 7 → exec (.fetchHole tag body) s = .next
      (match (if n = 0 then none else s.store.find n) with
       | none => s.reply 0x38 tag .noSuchHole []
       | some r =>
         if byteAt body 2 = 0 then
           s.reply 0x38 tag .ok (header r ([Boom.A, .B].any fun b => (s.rec? b).map HoleRecord.number = some n) start)
         else if byteAt body 2 = 1 ∧ start ≤ r.segments.length then s.reply 0x38 tag .ok (segments r start)
         else if byteAt body 2 = 2 ∧ start ≤ (r.layers.getD []).length then
           s.reply 0x38 tag .ok (layers r start)
         else if byteAt body 2 = 3 then s.reply 0x38 tag .ok (resin r)
         else if byteAt body 2 = 4 then s.reply 0x38 tag .ok (results r)
         else s.reply 0x38 tag .range []))

/-- A good frame of the wire's own form is received whole: to a hunting receiver the bytes of a frame with a body
of up to 240 bytes do exactly what that frame's request does, or its loss or its wait in the inbound queue, once
the presence timer has restarted and SILENCE has been cleared with its report; the receiver is left hunting
(R203, R204, R205, R209). The start value of the CRC and that a request command stands for its frame are the
model's (log entries 6 and 7). -/
def Obligations.FrameReceivedWhole : Prop :=
  ∀ (k tag : Byte) (body : List Byte) (s : State), s.power = .running → s.link.rx = [] →
    body.length ≤ 240 → s.link.inbound = [] ∨ s.takes = false →
    let u := { s with link := { s.link with
      rx := [], rxGap := .zero, presence := { running := true, ticks := 0 }, silence := false } }
    let u := if s.link.silence then u.report (.interlock (.silence false)) else u
    ∃ t, exec (.frameArrival (frameOf k tag body)) s = .next t ∧ exec (requestOf k tag body) u = .next t

/-- More than 5 ms after a byte of a frame not yet whole the receiver hunts again and holds no byte, scanning the
bytes after the discarded frame's SYNC again: with no further SYNC among them nothing but the receiver changes,
and while no request is taken nothing but the Link Port does, and no reply is sent. A LEN above 240 after a SYNC
discards the frame at once (R204). That the bytes held are all given up is the model's reading (log entry 9). -/
def Obligations.DiscardLeavesHunting : Prop :=
  ∀ s : State, s.power = .running →
    (∃ t, exec .frameByteTimeout s = .next t ∧ t.link.rx = [] ∧
      (s.takes = false → t = { s with link := t.link } ∧ t.link.replies = s.link.replies)) ∧
    (sync ∉ s.link.rx.drop 1 →
      exec .frameByteTimeout s = .next { s with link := { s.link with rx := [], rxGap := .zero } }) ∧
    (∀ len : Byte, 240 < len.toNat → s.link.rx = [] ∨ s.link.rx = [sync] →
      exec (.lenAbove240Discard len) s = .next { s with link := { s.link with rx := [], rxGap := .zero } })

/-- The transmitter begins the head of the outbound queue: the oldest reply ahead of every report, else the
oldest report; the frame carries both marks in its status byte and clears them, and a reply's place is freed
as its last part begins (R206, R207). A place so freed in a full outbound queue lets the oldest waiting request be
taken at once, and only that one (R205, R206). -/
def Obligations.TransmitterSendsHead : Prop :=
  ∀ s : State, s.power = .running →
    let sent := fun (r : Reply) (rest : List Reply) => { s with link := { s.link with
      tx := r.frame s.link.status, dropped := false, overrun := false
      replies := if r.content.length ≤ 237 * (r.sent + 1) then rest
                 else { r with sent := r.sent + 1 } :: rest } }
    (∀ r rest, s.link.replies = r :: rest →
      (s.link.inbound = [] ∨ (sent r rest).takes = false →
        exec .frameTransmitStart s = .next (sent r rest)) ∧
      (s.link.replies.length = 4 → s.link.restarting = false → r.content.length ≤ 237 * (r.sent + 1) →
        ∀ f fs, s.link.inbound = f :: fs →
        ∃ t, exec .frameTransmitStart s = .next t ∧
          exec (requestOf f.kind f.tag f.body)
            { sent r rest with link := { (sent r rest).link with inbound := fs } } = .next t)) ∧
    (∀ r rest, s.link.reports = r :: rest → s.link.replies = [] → s.link.inbound = [] ∨ s.takes = false →
      exec .frameTransmitStart s = .next { s with link := { s.link with
        tx := r.frame s.link.status, dropped := false, overrun := false, reports := rest } }) ∧
    (s.link.replies = [] → s.link.reports = [] → s.link.inbound = [] ∨ s.takes = false →
      exec .frameTransmitStart s = .next s)

/-- The expiry of the presence timer sets SILENCE, stops the timer, sets every jog setpoint to 0, switches
TRAM_ENABLE off, and pauses with cause SILENCE each present boom that is in an automatic phase other than
MIXING; in MIXING the cause joins the deferred set, in PAUSED the cause set (R17, R23, R33, R35, R209). -/
def Obligations.SilenceReachesEveryBoom : Prop :=
  ∀ s : State, s.power = .running → s.calm = true → s.link.presence.running = true →
    ∃ t, exec .presenceTimeout s = .next t ∧ t.link.silence = true ∧ t.link.presence.running = false ∧
      t.tram = false ∧ t.indexJog = 0 ∧ t.store = s.store ∧ t.bits = s.bits ∧ t.rot = s.rot ∧ t.prof = s.prof ∧
      ({ s with link := { s.link with silence := true, presence := t.link.presence } }).Keeps t ∧
      (∀ b ∈ s.booms, (t.seq.get b).jogs = .zero ∧
        ((s.seq.get b).state.automatic = true → (s.seq.get b).state ≠ .mixing →
          (t.seq.get b).state = .paused ∧ (t.seq.get b).returnPhase = some (s.seq.get b).state ∧
          (t.seq.get b).causes = { CauseSet.empty with silence := true }) ∧
        ((s.seq.get b).state = .mixing → (t.seq.get b).state = .mixing ∧
          (t.seq.get b).deferred = { (s.seq.get b).deferred with silence := true }) ∧
        ((s.seq.get b).state = .paused → (t.seq.get b).state = .paused ∧
          (t.seq.get b).causes = { (s.seq.get b).causes with silence := true }) ∧
        ((s.seq.get b).state.automatic = false → (s.seq.get b).state ≠ .paused →
          (t.seq.get b).state = (s.seq.get b).state))

/-- SET_PARAM of an index in the table stores the nearest value of the parameter's range and of its window
under R211, and no other parameter moves; the reply is OK when the stored value is the one sent and CLAMPED
when it is not, and carries the index and the stored value. An index that is not in the table is refused with
RANGE (R210, R211). In a calm state no record leaves or joins the queue, but for the parameters whose write can end
a wait or make an input active (READY_WAIT, PASS_TIMEOUT, STEP_TIMEOUT, INPUT_POLARITY_A and B), and after a write of
PUMP_FLOW, be it of the value held, the grants are those of the new value (R148, R152). The widths of the fields are
the model's (log entry 5). -/
def Obligations.SetParamStoresNearest : Prop :=
  ∀ (tag : Byte) (body : List Byte) (s : State), s.ready = true → body.length = 5 →
    ParamsOrdered s.params →
    match paramRow? (byteAt body 0) with
    | none => exec (.setParam tag body) s = .next (s.reply 0x03 tag .range [])
    | some r =>
      ∃ t w, exec (.setParam tag body) s = .next t ∧ t.params = s.params.set r.index w ∧
        ({ s with params := t.params, link := t.link }).Keeps t ∧
        (s.calm = true →
          r.index ∉ [P.readyWait, P.passTimeout, P.stepTimeout, P.inputPolarityA, P.inputPolarityB] →
          t.store.queue = s.store.queue) ∧
        (s.calm = true → r.index = P.pumpFlow → t.FlowComputed) ∧
        r.lo ≤ w ∧ w ≤ r.hi ∧ (s.window r).1 ≤ w ∧ w ≤ (s.window r).2 ∧
        (∀ v, r.lo ≤ v → v ≤ r.hi → (s.window r).1 ≤ v → v ≤ (s.window r).2 →
          (numAt body 1 4 ≤ v → w ≤ v) ∧ (v ≤ numAt body 1 4 → v ≤ w)) ∧
        t.link.replies = s.link.replies ++
          [{ kind := 0x03, tag := tag, result := if w = numAt body 1 4 then .ok else .clamped
             content := u8 r.index ++ u32 w, sent := 0 }]

/-! ## The bolting cycle -/

/-- The checks of START_HOLE, in the order of R3, and of DECIDE, in the order of R12 (a boom PAUSED from
AWAIT_DECISION counts as not in it): the first that fails gives the result, and a refused request adds its
reply and changes nothing else. The places of the fields, the codes of the choices and that the refusals of DECIDE
come in the order of R12's sentences are the model's (log entries 5, 8 and 43). -/
def Obligations.StartAndDecideCheckInOrder : Prop :=
  ∀ (tag : Byte) (body : List Byte) (s : State), s.ready = true →
    (body.length = 2 →
      (s.boomAt body 0 = none → exec (.decide tag body) s = .next (s.reply 0x11 tag .noSuchBoom [])) ∧
      (∀ b, s.boomAt body 0 = some b →
        (3 < byteAt body 1 → exec (.decide tag body) s = .next (s.reply 0x11 tag .range [])) ∧
        (byteAt body 1 ≤ 3 → (s.seq.get b).state ≠ .awaitDecision →
          exec (.decide tag body) s = .next (s.reply 0x11 tag .state [])) ∧
        (∀ c, choiceOfByte (byteAt body 1) = some c → (s.seq.get b).state = .awaitDecision →
          (s.seq.get b).choices.has c = false →
          exec (.decide tag body) s = .next (s.reply 0x11 tag .notChoice [])))) ∧
    (body.length = 10 →
    let x := specAt body 1
    let good := 300 ≤ x.planned ∧ x.planned ≤ 2500 ∧ 200 ≤ x.holeDia ∧ x.holeDia ≤ 450 ∧
      300 ≤ x.boltLen ∧ x.boltLen ≤ 2600 ∧ 120 ≤ x.boltDia ∧ x.boltDia ≤ 300 ∧
      x.boltDia + 20 ≤ x.holeDia ∧ 1 ≤ x.fastCount ∧ x.fastCount ≤ 3
    let bitGood := fun b => ∃ p, s.fittedPos b = some p ∧
      (s.bitAt p).wear < s.live P.bitWearLimit * 1000000
    (s.boomAt body 0 = none → exec (.startHole tag body) s = .next (s.reply 0x10 tag .noSuchBoom [])) ∧
    (∀ b, s.boomAt body 0 = some b →
      ((s.seq.get b).state ≠ .idle ∨ s.tram = true →
        exec (.startHole tag body) s = .next (s.reply 0x10 tag .state [])) ∧
      ((s.seq.get b).state = .idle → s.tram = false →
        (¬ good → exec (.startHole tag body) s = .next (s.reply 0x10 tag .range [])) ∧
        (good → ¬ bitGood b → exec (.startHole tag body) s = .next (s.reply 0x10 tag .bitRetired [])) ∧
        (good → bitGood b → 8 ≤ s.store.held →
          exec (.startHole tag body) s = .next (s.reply 0x10 tag .queueFull [])))))

/-- An accepted START_HOLE opens the hole: number, record and copies, the Sequencer in JACK_SET with its jack
demand, its marks cleared and its timer from zero, one PHASE report, and a reply with the number; nothing else
changes (R4, R6, R7, R192). The case in which no cause stands and the jack is not yet at the roof. The places
of the fields are the model's (log entry 5). -/
def Obligations.StartHoleOpensHole : Prop :=
  ∀ (tag : Byte) (body : List Byte) (s : State) (b : Boom) (p : Nat),
    s.ready = true → s.calm = true → body.length = 10 → s.boomAt body 0 = some b →
    (s.seq.get b).state = .idle → s.tram = false → (specAt body 1).inRange = true →
    s.fittedPos b = some p → (s.bitAt p).wear < s.live P.bitWearLimit * 1000000 → s.store.held < 8 →
    s.valve.isFailed (.boom b .jackUp) = false → s.clearOfCauses b = true →
    s.active b Input.jackAtRoof = false →
    let n := s.nextHole
    let r : HoleRecord :=
      { number := n, boom := b, bitPos := p, spec := specAt body 1, bands := s.bands.get b
        params := holeCopy s.params, segments := [], layers := none, drilledDepth := none
        drillOutcome := none, plan := none, delivered := [], decision := none, mix := none, gel := none
        torque := none, profileFull := false, bitWorn := false, outcome := none, haltReason := none }
    let q : Sequencer := { s.seq.get b with
      state := .jackSet, returnPhase := none, causes := .empty, deferred := .empty, deferredAbort := false
      abortPending := false, haltReason := none, closing := none, choices := .empty, holdComplete := false
      hole := some n, timer := { running := true, ticks := 0 }
      jackUp := s.valve.qmaxOf (.boom b .jackUp) }
    ∃ t, exec (.startHole tag body) s = .next t ∧
      ((({ s with store := { s.store with opened := s.store.opened.set b (some r)
                                          counter := if n < 65535 then n + 1 else 1 }
                  seq := s.seq.set b q }).report (phaseNote b .idle q)).reply 0x10 tag .ok (u16 n)).Ends t

/-- A DECIDE of PROCEED or EXTRA_FAST writes the decision, completes the plan with nf or nf + 1 fast cartridges,
moves the boom to RESIN_INSERT and posts its burst with the plan's types; the INDEX jog setpoint goes to 0 (R12,
R13, R33, R91). While the Indexer serves another burst or is in FAULT the request waits. An IDLE Indexer takes it:
with a LOADED slot of its first type it selects the oldest and sets out for it, with none it is STARVED with its
MAGAZINE report (R128 to R130, R135). A STARVED Indexer sets its burst aside when the new request has a LOADED slot.
A DECIDE of ABANDON takes the boom to RELEASING with closing outcome ABORTED (R12, R16). The codes of the choices
and the count of a stopped timer are the model's (log entries 8 and 13). -/
def Obligations.DecideOrdersTheBurst : Prop :=
  ∀ (tag : Byte) (body : List Byte) (s : State) (b : Boom) (c : Choice) (r : HoleRecord),
    s.ready = true → s.calm = true → body.length = 2 → s.boomAt body 0 = some b →
    (s.seq.get b).state = .awaitDecision → choiceOfByte (byteAt body 1) = some c →
    (s.seq.get b).choices.has c = true → s.rec? b = some r →
    let q := s.seq.get b
    let x := s.idx
    (c = .abandon → s.mayRelease b = true →
      let q' := { s.releasedSeq b .aborted q with choices := .empty }
      ∃ t, exec (.decide tag body) s = .next t ∧
        ((({ s with
             store := { s.store with opened := s.store.opened.set b (some { r with decision := some c }) }
             seq := s.seq.set b q' }).report (phaseNote b .awaitDecision q')).reply 0x11 tag .ok []).Ends t) ∧
    (c = .proceed ∨ c = .extraFast → s.diu.estop = false → ∀ p, r.plan = some p →
      let ready := r.complete p (if c = .proceed then r.spec.fastCount else r.spec.fastCount + 1)
      let q' := { q.entering .resinInsert false with choices := .empty }
      let types := ready.types.getD []
      let burst : Burst := { boom := b, hole := r.number, types := types, progress := 0, delivered := [] }
      let posted := fun (y : Indexer) => ({ s with
        store := { s.store with
          opened := s.store.opened.set b (some { r with decision := some c, plan := some ready }) }
        seq := s.seq.set b q', indexJog := 0, idx := y }).report (phaseNote b .awaitDecision q')
      let starving := { x with
        state := .starved, demand := 0, selected := none
        stepTimer := { x.stepTimer with running := false }
        readyTimer := { x.readyTimer with running := false }
        passTimer := { x.passTimer with running := false } }
      (x.state ≠ .idle → x.state ≠ .starved →
        ∃ t, exec (.decide tag body) s = .next t ∧
          ((posted { x with queue := x.queue ++ [burst] }).reply 0x11 tag .ok []).Ends t) ∧
      (x.state = .idle → x.queue = [] → ∀ ty, types.head? = some ty →
        (∀ n, x.select ty = some n → s.valve.isFailed .index = false →
          x.position = none → s.diu.indexHome = false →
          ∃ t, exec (.decide tag body) s = .next t ∧
            ((posted (Indexer.toward { x with queue := [burst], selected := some n, stopMark := false }
              (s.live P.indexFlow) n)).reply 0x11 tag .ok []).Ends t) ∧
        (∀ n, x.select ty = some n → s.valve.isFailed .index = false → ∀ p, x.position = some p →
          ∃ t, exec (.decide tag body) s = .next t ∧
            ((posted (Indexer.toward { x with queue := [burst], selected := some n, stopMark := false }
              (s.live P.indexFlow) n)).reply 0x11 tag .ok []).Ends t) ∧
        (x.select ty = none →
          ∃ t, exec (.decide tag body) s = .next t ∧
            (((posted { starving with queue := [burst] }).report
              (.magazine (.starved b ty))).reply 0x11 tag .ok []).Ends t)) ∧
      (x.state = .starved → ∀ old, x.queue = [old] → ∀ ty, types.head? = some ty →
        (∀ n, x.select ty = some n → s.valve.isFailed .index = false → ∀ p, x.position = some p →
          ∃ t, exec (.decide tag body) s = .next t ∧
            ((posted (Indexer.toward { x with queue := [burst, old], selected := some n, stopMark := false }
              (s.live P.indexFlow) n)).reply 0x11 tag .ok []).Ends t) ∧
        (x.select ty = none →
          ∃ t, exec (.decide tag body) s = .next t ∧
            ((posted { x with queue := [old, burst] }).reply 0x11 tag .ok []).Ends t)))

/-- A DECIDE of REDRILL writes the decision, raises the planned depth to the bolt length, and moves the boom
to DRILLING: the Profiler runs on with a new segment at the next top, the Governor climbs with the collar
targets and the band that holds the maximum depth, and the rotation timer is cleared (R12, R56, R62, R68, R79,
R188). The demands, the last feed position and the current depth until the first sample of the climb, and the count
of a stopped timer, are the model's choices (log entries 13, 16, 28 and 38). -/
def Obligations.DecideRedrills : Prop :=
  ∀ (tag : Byte) (body : List Byte) (s : State) (b : Boom) (r : HoleRecord),
    s.ready = true → s.calm = true → body.length = 2 → s.boomAt body 0 = some b →
    (s.seq.get b).state = .awaitDecision → byteAt body 1 = 2 → (s.seq.get b).choices.redrill = true →
    s.rec? b = some r → s.blocked b .drilling = false →
    let q : Sequencer := { s.seq.get b with
      state := .drilling, returnPhase := none, causes := .empty, choices := .empty
      timer := { running := false, ticks := 0 } }
    let p : Profiler := { s.prof.get b with
      mode := .running
      openSeg := some { top := (s.prof.get b).nextTop, sf := 0, st := 0, lseg := 0, samples := 0
                        flags := .empty } }
    let full := r.param P.collarFeed * r.param P.feedFlowScale
    let cap := r.param (P.thrustCap + 1)
    let h := s.head.get b
    let g : Governor := { s.gov.get b with
      stage := .climb, backingOff := false, lastFeed := h.feed, feedTarget := r.param P.collarFeed
      rpmTarget := r.param P.collarRpm, thrustCap := cap, band := r.bandAt p.maxDepth
      feedUp := if h.thrust ≤ cap then full else if h.thrust ≤ cap * 5 / 4 then full / 2 else 0
      feedDown := 0, rotFwd := r.param P.collarRpm * r.param P.rotDisplacement / 100, flush := true }
    ∃ t, exec (.decide tag body) s = .next t ∧
      ((({ s with
           store := { s.store with
             opened := s.store.opened.set b (some { r with
               decision := some .redrill, spec := { r.spec with planned := r.spec.boltLen } }) }
           seq := s.seq.set b q, prof := s.prof.set b p, gov := s.gov.set b g
           rot := s.rot.set b { s.rot.get b with
             interval := 0, noRotation := false, pulseSeen := false, last := none } }).report
        (phaseNote b .awaitDecision q)).reply 0x11 tag .ok []).Ends t

/-- PAUSE in every state of the boom (R17, R19, R21, R23). In an automatic phase other than MIXING the phase
is suspended with cause OPERATOR: the Sequencer's demands, the Governor's feed and rotation and the
Controller's push or torque demands go to 0, and everything else of the phase is kept. In MIXING the cause
joins the deferred set, in PAUSED the cause set, with a PHASE report where it was not yet a member. In IDLE,
MANUAL, HALTED and STOPPED the request is refused with STATE. A reservation that waits, the boom's own in MIX_WAIT
or the other boom's, is one that does not fit when the pause is taken. That a stopped flush-loss timer is at 0 is
the model's choice (log entry 13). -/
def Obligations.PauseSuspendsThePhase : Prop :=
  ∀ (tag : Byte) (body : List Byte) (s : State) (b : Boom),
    s.ready = true → body.length = 1 → s.boomAt body 0 = some b →
    let q := s.seq.get b
    let g := s.gov.get b
    let c := s.sett.get b
    (q.state.automatic = true → q.state ≠ .mixing →
      let q' := q.suspended q.state .operator
      let g' := if q.state = .collaring ∨ q.state = .drilling then
        { g with feedUp := 0, feedDown := 0, rotFwd := 0, flushTimer := .zero } else g
      let c' := if q.state = .boltPush then { c with feedUp := 0, rotFwd := 0 }
        else if q.state = .torquing then { c with rotFwd := 0 } else c
      let y := { s with seq := s.seq.set b q', gov := s.gov.set b g', sett := s.sett.set b c' }
      y.still = true → ∃ t, exec (.pause tag body) s = .next t ∧
        ((y.report (phaseNote b q.state q')).reply 0x12 tag .ok []).Ends t) ∧
    (q.state = .mixing → s.still = true →
      let q' := { q with deferred := { q.deferred with operator := true } }
      let s' := if q.deferred.operator then s
        else ({ s with seq := s.seq.set b q' }).report (phaseNote b .mixing q')
      ∃ t, exec (.pause tag body) s = .next t ∧ (s'.reply 0x12 tag .ok []).Ends t) ∧
    (q.state = .paused → s.still = true →
      let q' := { q with causes := { q.causes with operator := true } }
      let s' := if q.causes.operator then s
        else ({ s with seq := s.seq.set b q' }).report (phaseNote b .paused q')
      ∃ t, exec (.pause tag body) s = .next t ∧ (s'.reply 0x12 tag .ok []).Ends t) ∧
    (q.state.automatic = false → q.state ≠ .paused →
      exec (.pause tag body) s = .next (s.reply 0x12 tag .state []))

/-- RESUME (R6, R19, R22): refused with STATE outside PAUSED and with CAUSE_ACTIVE while methane is active or
the boom's SCAN_LOST is set, whichever causes the set holds; otherwise the cause set and the return phase are
cleared and the boom returns, or halts with VALVE_FAULT when a function the phase uses is FAILED (R172; but for
MIXING). JACK_SET, RETRACTING and RELEASING run their timer on and put their demand again (the inputs that would
end the phase being inactive); COLLARING and DRILLING put the demands of their stage with the rotation timer
cleared (R71); AWAIT_DECISION sends its report again (R11); RESIN_INSERT, MIX_WAIT, AWAIT_BOLT without a bolt and
GEL_HOLD with time left put nothing; AWAIT_BOLT with a bolt goes on to BOLT_PUSH, GEL_HOLD with its hold complete to
TORQUING, RELEASING with FEED_RETRACTED active to JACK_DOWN; BOLT_PUSH and TORQUING run on (R102, R117); MIXING is
entered anew (R19, R105). A jack demand at the qmax of the return (log entry 34) and the count of a stopped timer
(log entry 13) are the model's choice. -/
def Obligations.ResumeReturnsToThePhase : Prop :=
  ∀ (tag : Byte) (body : List Byte) (s : State) (b : Boom),
    s.ready = true → s.calmBut b = true → body.length = 1 → s.boomAt body 0 = some b →
    let q := s.seq.get b
    let g := s.gov.get b
    let c := s.sett.get b
    let ok : Reply := { kind := 0x13, tag := tag, result := .ok, content := [], sent := 0 }
    let rotCleared := s.rot.set b (s.rot.get b).cleared
    let flow := fun i => s.hp b i * s.hp b P.feedFlowScale
    let rot := fun i => s.hp b i * s.hp b P.rotDisplacement / 100
    let ends := fun (y : State) (q' : Sequencer) => ∃ t, exec (.resume tag body) s = .next t ∧
      ((({ y with seq := s.seq.set b q' }).report (phaseNote b .paused q')).reply 0x13 tag .ok []).Ends t
    let goesOn := fun (y : State) (q' q'' : Sequencer) => ∃ t, exec (.resume tag body) s = .next t ∧
      (((({ y with seq := s.seq.set b q'' }).report (phaseNote b .paused q')).report
        (phaseNote b q'.state q'')).reply 0x13 tag .ok []).Ends t
    (q.state ≠ .paused → exec (.resume tag body) s = .next (s.reply 0x13 tag .state [])) ∧
    (q.state = .paused → s.diu.methane = true ∨ (s.head.get b).scanLost = true →
      exec (.resume tag body) s = .next (s.reply 0x13 tag .causeActive [])) ∧
    (q.state = .paused → s.diu.methane = false → (s.head.get b).scanLost = false →
      ∀ p, q.returnPhase = some p →
      (p ≠ .mixing → s.blocked b p = true →
        ∃ t, exec (.resume tag body) s = .next t ∧ t.seq = s.seq.set b (q.haltedWith .valveFault) ∧
          t.link.replies = s.link.replies ++ [ok]) ∧
      (s.blocked b p = false →
        (p = .jackSet → s.active b Input.jackAtRoof = false →
          ends s { q.returned p true with jackUp := s.valve.qmaxOf (.boom b .jackUp) }) ∧
        (p = .collaring ∨ p = .drilling →
          let g' := if g.backingOff then
              { g with feedUp := 0, rotFwd := 0, feedDown := flow P.approachFeed, flush := true }
            else if g.stage = .approach then
              { g with feedUp := flow P.approachFeed, feedDown := 0, rotFwd := rot P.collarRpm, flush := true }
            else g
          ends { s with gov := s.gov.set b g', rot := rotCleared }
            (q.returned p (p = .collaring && g.stage = .approach))) ∧
        (p = .retracting → s.active b Input.feedRetracted = false →
          ends s { q.returned p true with feedDown := flow P.approachFeed }) ∧
        (p = .awaitDecision → ∀ r, s.rec? b = some r →
          let weak := match r.plan with
            | some x => x.flags.anchorWeak
            | none => false
          ∃ t, exec (.resume tag body) s = .next t ∧
            (((({ s with seq := s.seq.set b (q.returned p false) }).report
              (phaseNote b .paused (q.returned p false))).report
              (.decisionNeeded b (q.hole.getD 0) weak q.choices)).reply 0x13 tag .ok []).Ends t) ∧
        (p = .resinInsert ∨ (p = .awaitBolt ∧ s.active b Input.boltPresent = false) ∨
            (p = .gelHold ∧ q.holdComplete = false) ∨
            (p = .mixWait ∧ (s.arb.waiting = [] ∨ s.fits (s.arb.res.get b).amount = false)) →
          ends s (q.returned p false)) ∧
        (p = .awaitBolt → s.active b Input.boltPresent = true → s.blocked b .boltPush = false →
          let c' := { c with
            stage := .push, pushOrigin := some (s.head.get b).feed, pushAdvance := 0
            feedUp := flow P.pushFeed, rotFwd := rot P.pushRpm }
          goesOn { s with sett := s.sett.set b c' } (q.returned p false) (q.entering .boltPush true)) ∧
        (p = .boltPush →
          ends { s with sett := s.sett.set b { c with feedUp := flow P.pushFeed, rotFwd := rot P.pushRpm } }
            (q.returned p true)) ∧
        (p = .mixing →
          let c' := { c with
            stage := .mix, mixPulses := 0, stallSeen := false
            feedUp := s.hp b P.holdFeedFlow, rotFwd := rot P.mixRpm }
          ends { s with sett := s.sett.set b c', rot := rotCleared } (q.entering p true)) ∧
        (p = .gelHold → q.holdComplete = true → s.blocked b .torquing = false →
          let c' := { c with
            stage := .torque, turns := 0, angle := 0, peak := 0, snug := none, verdict := none
            feedUp := s.hp b P.holdFeedFlow, rotFwd := rot P.torqueRpm }
          goesOn { s with sett := s.sett.set b c', rot := rotCleared } (q.returned p false)
            (q.entering .torquing true)) ∧
        (p = .torquing →
          let c' := { c with feedUp := s.hp b P.holdFeedFlow, rotFwd := rot P.torqueRpm }
          ends { s with sett := s.sett.set b c', rot := rotCleared } (q.returned p true)) ∧
        (p = .releasing → q.jackDownStarted = true → s.active b Input.jackLowered = false →
          ends s { q.returned p true with jackDown := s.valve.qmaxOf (.boom b .jackDown) }) ∧
        (p = .releasing → q.jackDownStarted = false → s.active b Input.feedRetracted = false →
          ends s { q.returned p true with feedDown := flow P.approachFeed }) ∧
        (p = .releasing → q.jackDownStarted = false → s.active b Input.feedRetracted = true →
          s.active b Input.jackLowered = false →
          ends s { q.returned p true with
            feedDown := 0, jackDown := s.valve.qmaxOf (.boom b .jackDown), jackDownStarted := true })))

/-- ABORT_HOLE (R27, R28): refused with STATE in IDLE, MANUAL, STOPPED and RELEASING, of a PAUSED boom with STATE
when its return phase is RELEASING and else with CAUSE_ACTIVE while methane is active or its SCAN_LOST is set. In
MIXING, or PAUSED from it, the deferred abort mark is set (R23). From every other automatic phase, or PAUSED from it,
the boom goes to RELEASING with closing outcome ABORTED, from HALTED with FAULTED; the drilling phases end their
profile, GEL_HOLD and TORQUING write their figures, the reservation is released (R55, R70, R112, R118, R157); in
RESIN_INSERT the burst is stopped first (R29, R138). The releasing cases are those that neither halt the boom nor
close its hole at once; the burst is alone in the queue. The readings of an abort PAUSED from MIXING and of a stopped
timer's count, and the order of PHASE before BURST, are the model's (log entries 11, 13, 19 and 40). -/
def Obligations.AbortReleasesTheBoom : Prop :=
  ∀ (tag : Byte) (body : List Byte) (s : State) (b : Boom),
    s.ready = true → s.calmBut b = true → body.length = 1 → s.boomAt body 0 = some b →
    let q := s.seq.get b
    let c := s.sett.get b
    let x := s.idx
    let ok : Reply := { kind := 0x14, tag := tag, result := .ok, content := [], sent := 0 }
    let free := s.diu.methane = false ∧ (s.head.get b).scanLost = false
    let taken := fun p : Phase => q.state = p ∨ (q.state = .paused ∧ q.returnPhase = some p ∧ free)
    let q' := { s.releasedSeq b .aborted q with choices := .empty, holdComplete := false }
    let aborted := fun y : State => ∃ t, exec (.abortHole tag body) s = .next t ∧
      ((({ y with seq := s.seq.set b q' }).report (phaseNote b q.state q')).reply 0x14 tag .ok []).Ends t
    let off := fun c : Setting => { c with stage := .off, feedUp := 0, rotFwd := 0 }
    let freed := { s.arb with res := s.arb.res.set b { mark := .none, amount := 0 }, waiting := [] }
    (q.state = .idle ∨ q.state = .manual ∨ q.state = .stopped ∨ q.state = .releasing →
      exec (.abortHole tag body) s = .next (s.reply 0x14 tag .state [])) ∧
    (q.state = .paused → q.returnPhase = some .releasing →
      exec (.abortHole tag body) s = .next (s.reply 0x14 tag .state [])) ∧
    (∀ p, q.state = .paused → q.returnPhase = some p → p ≠ .releasing → ¬ free →
      exec (.abortHole tag body) s = .next (s.reply 0x14 tag .causeActive [])) ∧
    (taken .mixing →
      let m := { q with causes := if q.state = .paused then .empty else q.causes, deferredAbort := true }
      let s' := { s with seq := s.seq.set b m }
      let s' := if q.deferredAbort then s' else s'.report (phaseNote b q.state m)
      ∃ t, exec (.abortHole tag body) s = .next t ∧ (s'.reply 0x14 tag .ok []).Ends t) ∧
    (taken .jackSet ∨ taken .retracting ∨ taken .awaitDecision ∨ taken .awaitBolt →
      s.mayRelease b = true → aborted s) ∧
    (taken .boltPush → s.mayRelease b = true → aborted { s with sett := s.sett.set b (off c) }) ∧
    (taken .mixWait → s.mayRelease b = true → aborted { s with sett := s.sett.set b (off c), arb := freed }) ∧
    (taken .gelHold → s.mayRelease b = true → ∀ r, s.rec? b = some r →
      let r' := if c.gelTimer.running then
        { r with gel := r.gel.map fun g => { g with elapsed := c.gelTimer.ticks / 40 } } else r
      aborted { s with
        store := { s.store with opened := s.store.opened.set b (some r') }
        sett := s.sett.set b { off c with gelTimer := { c.gelTimer with running := false } }, arb := freed }) ∧
    (taken .torquing → s.mayRelease b = true → ∀ r, s.rec? b = some r →
      aborted { s with
        store := { s.store with opened := s.store.opened.set b (some { r with
          torque := some { peak := c.peak, snug := c.snug, angle := c.angle, turns := c.turns
                           verdict := c.verdict } }) }
        sett := s.sett.set b (off c), arb := freed }) ∧
    (taken .collaring ∨ taken .drilling → s.mayRelease b = true → ∀ r, s.rec? b = some r →
      let dd := (s.prof.get b).maxDepth
      ∃ t, exec (.abortHole tag body) s = .next t ∧ t.seq = s.seq.set b q' ∧
        (t.gov.get b).stage = .off ∧ (t.gov.get b).flush = false ∧ (t.prof.get b).mode = .ended ∧
        (t.prof.get b).openSeg = none ∧ (t.rec? b).map HoleRecord.drilledDepth = some (some dd) ∧
        (t.rec? b).map HoleRecord.drillOutcome =
          some (some (if r.spec.planned * 10 ≤ dd then .planned else .shortByPlan)) ∧
        (t.rec? b).map HoleRecord.layers = (t.rec? b).map (fun y => some (buildLayers y.segments)) ∧
        t.link.replies = s.link.replies ++ [ok]) ∧
    (taken .resinInsert → q.abortPending = false → ∀ r, x.queue = [r] → r.boom = b →
      (x.state = .positioning ∨ x.state = .ejecting →
        let m := { q with causes := if q.state = .paused then .empty else q.causes, abortPending := true }
        ∃ t, exec (.abortHole tag body) s = .next t ∧
          (({ s with seq := s.seq.set b m, idx := { x with stopMark := true } }).reply 0x14 tag .ok []).Ends t) ∧
      (x.state = .awaitReady ∨ x.state = .starved → s.mayRelease b = true →
        let m := { s.releasedSeq b .aborted q with abortPending := false }
        ∃ t, exec (.abortHole tag body) s = .next t ∧
          (((({ s with seq := s.seq.set b m, idx := { x.unserved with queue := [], state := .idle } }).report
            (phaseNote b q.state m)).report
            (.burst b r.hole .stopped r.types.length r.delivered)).reply 0x14 tag .ok []).Ends t)) ∧
    (q.state = .halted → s.mayRelease b = true → s.clearOfCauses b = true →
      let h := { s.releasedSeq b .faulted q with jogs := .zero }
      ∃ t, exec (.abortHole tag body) s = .next t ∧
        ((({ s with seq := s.seq.set b h }).report (phaseNote b .halted h)).reply 0x14 tag .ok []).Ends t)

/-- CLEAR_STOP (R31): refused with STATE while E_STOP is asserted and when no boom is STOPPED; otherwise each
STOPPED boom with an open hole goes to HALTED with reason ESTOP and its stopped-from state kept, each other
STOPPED boom to IDLE with that state absent, and the reply is OK; in a calm state nothing else moves. The
timer and the sets of a boom that goes to IDLE (log entry 13) and the order of the two booms and of their PHASE
reports (log entries 2 and 11) are the model's. -/
def Obligations.ClearStopFreesTheBooms : Prop :=
  ∀ (tag : Byte) (s : State), s.ready = true →
    (s.diu.estop = true ∨ (∀ b ∈ s.booms, (s.seq.get b).state ≠ .stopped) →
      exec (.clearStop tag []) s = .next (s.reply 0x15 tag .state [])) ∧
    (s.diu.estop = false → (∃ b ∈ s.booms, (s.seq.get b).state = .stopped) →
      let left := fun (b : Boom) =>
        let q := s.seq.get b
        if q.hole.isSome then q.haltedWith .estop
        else { q with state := .idle, returnPhase := none, causes := .empty
                      timer := { running := false, ticks := 0 }, stoppedFrom := none }
      let free := fun (x : State) (b : Boom) =>
        if (s.seq.get b).state = .stopped then
          ({ x with seq := x.seq.set b (left b) }).report (phaseNote b .stopped (left b)) else x
      ∃ t, exec (.clearStop tag []) s = .next t ∧
        (∀ b ∈ s.booms, (s.seq.get b).state = .stopped → t.seq.get b = left b) ∧
        t.link.replies = s.link.replies ++
          [{ kind := 0x15, tag := tag, result := .ok, content := [], sent := 0 }] ∧
        (s.calm = true →
          ((if s.straps.boomB then free (free s .A) .B else free s .A).reply 0x15 tag .ok []).Ends t))

/-- JOG and TRAM. JOG (R32): a number above 15 and TRAM_ENABLE are refused with RANGE, a function of an absent
boom with NO_SUCH_BOOM. Of a function of a present boom: in IDLE the boom enters MANUAL and the setpoint is
taken, in MANUAL and HALTED the setpoint is taken, in every other state the request is refused with OWNED. INDEX
is taken whatever the booms' states unless the Indexer serves a burst or holds a request. A flow above 3,000 is
clamped; a FLUSH is on for any value but 0. TRAM (R35): off is taken in every state; on is taken when every
present boom is IDLE or MANUAL with its jack lowered, and refused with STATE otherwise. The places of JOG's
fields and the bit of TRAM's byte are the model's (log entries 5 and 8). -/
def Obligations.JogAndTramTaken : Prop :=
  ∀ (tag : Byte) (body : List Byte) (s : State), s.ready = true → s.calm = true →
    (body.length = 3 →
      let n := byteAt body 0
      let v := numAt body 1 2
      (15 ≤ n → exec (.jog tag body) s = .next (s.reply 0x18 tag .range [])) ∧
      (n = 14 → s.idx.busy = true → exec (.jog tag body) s = .next (s.reply 0x18 tag .owned [])) ∧
      (n = 14 → s.idx.busy = false →
        ∃ t, exec (.jog tag body) s = .next t ∧
          (({ s with indexJog := min 3000 v }).reply 0x18 tag
            (if 3000 < v then .clamped else .ok) []).Ends t) ∧
      (∀ (b : Boom) (k : FnKind), n = (Fn.boom b k).num →
        let q := s.seq.get b
        let put := if k = .flush then (if v = 0 then 0 else 1) else min 3000 v
        let res := if k ≠ .flush ∧ 3000 < v then Result.clamped else .ok
        (s.present b = false → exec (.jog tag body) s = .next (s.reply 0x18 tag .noSuchBoom [])) ∧
        (s.present b = true → q.state ≠ .idle → q.state ≠ .manual → q.state ≠ .halted →
          exec (.jog tag body) s = .next (s.reply 0x18 tag .owned [])) ∧
        (s.present b = true → q.state = .idle ∨ q.state = .manual ∨ q.state = .halted →
          ∃ j : Jogs, j.get k = put ∧ (∀ k', k' ≠ k → j.get k' = q.jogs.get k') ∧
            let q' := { q with state := if q.state = .idle then .manual else q.state, jogs := j }
            let s' := { s with seq := s.seq.set b q' }
            let s' := if q.state = .idle then s'.report (phaseNote b .idle q') else s'
            ∃ t, exec (.jog tag body) s = .next t ∧ (s'.reply 0x18 tag res []).Ends t))) ∧
    (body.length = 1 →
      let may := ∀ b ∈ s.booms, ((s.seq.get b).state = .idle ∨ (s.seq.get b).state = .manual) ∧
        s.active b Input.jackLowered = true
      (byteAt body 0 % 2 = 0 → ∃ t, exec (.tram tag body) s = .next t ∧
        (({ s with tram := false }).reply 0x1A tag .ok []).Ends t) ∧
      (byteAt body 0 % 2 = 1 → may → ∃ t, exec (.tram tag body) s = .next t ∧
        (({ s with tram := true }).reply 0x1A tag .ok []).Ends t ∧ t.tram = true) ∧
      (byteAt body 0 % 2 = 1 → ¬ may → exec (.tram tag body) s = .next (s.reply 0x1A tag .state [])))

/-- END_MANUAL (R34): in MANUAL the boom's jog setpoints go to 0 and the boom to IDLE, in HALTED the setpoints
go to 0 and the boom stays, each answered OK; in any other state the request is refused with STATE. In a calm
state nothing else moves but the PHASE report of the way to IDLE. -/
def Obligations.EndManualEndsJogging : Prop :=
  ∀ (tag : Byte) (body : List Byte) (s : State) (b : Boom),
    s.ready = true → body.length = 1 → s.boomAt body 0 = some b →
    let q := s.seq.get b
    let ok : Reply := { kind := 0x19, tag := tag, result := .ok, content := [], sent := 0 }
    (q.state = .manual →
      let q' := { q with state := .idle, jogs := .zero }
      ∃ t, exec (.endManual tag body) s = .next t ∧ t.seq.get b = q' ∧
        t.link.replies = s.link.replies ++ [ok] ∧
        (s.calm = true → ((({ s with seq := s.seq.set b q' }).report
          (phaseNote b .manual q')).reply 0x19 tag .ok []).Ends t)) ∧
    (q.state = .halted → ∃ t, exec (.endManual tag body) s = .next t ∧
      t.seq.get b = { q with jogs := .zero } ∧ t.link.replies = s.link.replies ++ [ok] ∧
      (s.calm = true →
        (({ s with seq := s.seq.set b { q with jogs := .zero } }).reply 0x19 tag .ok []).Ends t)) ∧
    (q.state ≠ .manual → q.state ≠ .halted →
      exec (.endManual tag body) s = .next (s.reply 0x19 tag .state []))

/-- The expiries of the five phase timers that halt the boom (R6, R26): while the timer of the phase runs, its
expiry takes the boom to HALTED with the phase's reason, the demands and the jog setpoints at 0 and the cause
set, the return phase and the offered choices empty. What else the phase's workers of that boom do is in R55,
R70 and R99; the state around the cycle and the other boom are kept. The count of the stopped phase timer (log entry
13) and that the PHASE report comes last, after a remnant's SEGMENT (log entry 11), are the model's choice. -/
def Obligations.PhaseTimeoutHalts : Prop :=
  ∀ (b : Boom) (s : State), s.power = .running → s.present b = true → s.calm = true →
    (s.seq.get b).timer.running = true →
    ∀ c ∈ [(Phase.jackSet, Instr.jackTimeout b, HaltReason.jackNotSet),
           (.collaring, .contactTimeout b, .noContact), (.retracting, .retractTimeout b, .retractTimeout),
           (.boltPush, .pushTimeout b, .pushTimeout), (.releasing, .releaseTimeout b, .releaseTimeout)],
      (s.seq.get b).state = c.1 →
      ∃ t, exec c.2.1 s = .next t ∧ s.Keeps t ∧ t.seq = s.seq.set b ((s.seq.get b).haltedWith c.2.2) ∧
        (∀ b', b' ≠ b → t.prof.get b' = s.prof.get b' ∧ t.sett.get b' = s.sett.get b' ∧
          t.arb.res.get b' = s.arb.res.get b' ∧
          ((s.prof.get b).openSeg = none → t.rec? b' = s.rec? b')) ∧
        ((s.prof.get b).openSeg = none → t.bits = s.bits) ∧ t.rot = s.rot ∧
        (∀ k, t.asked (.boom b k) = 0) ∧ t.store.queue = s.store.queue ∧ t.idx.slots = s.idx.slots ∧
        (s.link.reports.length < 10 →
          t.link.reports.getLast? = some (phaseNote b c.1 ((s.seq.get b).haltedWith c.2.2)))

/-- The two expiries that write a result of the setting phases (R6, R24, R26, R107, R116, R118). MIX_MAX_TIME:
the mix ends SHORT with the pulses reached and their whole revolutions in the record, the boom halts with
reason MIX_SHORT, and its deferred causes are dropped, HALTED recording none (the case in which no abort is
deferred). TORQUE_TIMEOUT: the verdict TORQUE_TIMEOUT enters the record with the figures reached, and the boom
goes to RELEASING with closing outcome VERDICT (the case in which the feed is not yet retracted and no function
of RELEASING is FAILED). Either releases the boom's reservation and ends the Controller's work; nothing else
changes. The time of a mix is read at the expiry from the stopped timer (log entry 13). -/
def Obligations.SettingTimeoutsWriteResults : Prop :=
  ∀ (b : Boom) (s : State) (r : HoleRecord), s.power = .running → s.present b = true → s.calm = true →
    (s.seq.get b).timer.running = true → s.rec? b = some r →
    let q := s.seq.get b
    let c := s.sett.get b
    let ms := max q.timer.ticks (r.param P.mixMaxTime * 40) / 40
    let q' := q.releasing (r.param P.approachFeed * r.param P.feedFlowScale) .verdict
    let released := { s.arb with res := s.arb.res.set b { mark := .none, amount := 0 } }
    (q.state = .mixing → q.deferredAbort = false →
      ∃ t, exec (.mixMaxTime b) s = .next t ∧
        (({ s with
             seq := s.seq.set b { q.haltedWith .mixShort with deferred := .empty }
             store := { s.store with
               opened := s.store.opened.set b (some { r with
                 mix := some { pulses := c.mixPulses, revs := c.mixPulses / 60, timeMs := ms
                               stallSeen := c.stallSeen, ending := .short } }) }
             sett := s.sett.set b { c with stage := .off, feedUp := 0, rotFwd := 0 }
             arb := released }).report (phaseNote b .mixing (q.haltedWith .mixShort))).Ends t) ∧
    (q.state = .torquing → s.blocked b .releasing = false → s.active b Input.feedRetracted = false →
      ∃ t, exec (.torqueTimeout b) s = .next t ∧
        (({ s with
             seq := s.seq.set b q'
             store := { s.store with
               opened := s.store.opened.set b (some { r with
                 torque := some { peak := c.peak, snug := c.snug, angle := c.angle, turns := c.turns
                                  verdict := some .timeout } }) }
             sett := s.sett.set b { c with stage := .off, feedUp := 0, rotFwd := 0, verdict := some .timeout }
             arb := released }).report (phaseNote b .torquing q')).Ends t)

/-- The gel hold timer's expiry writes the hold time as the elapsed time and takes the boom to TORQUING with
the torquing figures at 0, its demands put and the rotation timer cleared; of a boom PAUSED in GEL_HOLD it
only sets the hold complete mark (R15, R19, R111, R113). The flush-loss timer's expiry suspends DRILLING with
cause FLUSH, the feed and the rotation at 0 and FLUSH kept (R19, R71, R77). What a stopped timer holds is the
model's choice (log entry 13). -/
def Obligations.WorkerTimersExpire : Prop :=
  ∀ (b : Boom) (s : State) (r : HoleRecord), s.power = .running → s.present b = true → s.calm = true →
    s.rec? b = some r →
    let q := s.seq.get b
    let c := s.sett.get b
    let stopped : Timer := { running := false, ticks := max c.gelTimer.ticks (c.holdTime * 100 * 40) }
    let rec' := { r with gel := r.gel.map fun g => { g with elapsed := c.holdTime * 100 } }
    let store' := { s.store with opened := s.store.opened.set b (some rec') }
    (q.state = .gelHold → c.gelTimer.running = true → s.blocked b .torquing = false →
      let q' := { q with state := .torquing, returnPhase := none, causes := .empty
                         timer := { running := true, ticks := 0 } }
      let c' := { c with
        stage := .torque, turns := 0, angle := 0, peak := 0, snug := none, verdict := none, gelTimer := stopped
        feedUp := r.param P.holdFeedFlow
        rotFwd := r.param P.torqueRpm * r.param P.rotDisplacement / 100 }
      ∃ t, exec (.gelHoldExpiry b) s = .next t ∧
        (({ s with store := store', seq := s.seq.set b q', sett := s.sett.set b c'
                   rot := s.rot.set b { s.rot.get b with
                     interval := 0, noRotation := false, pulseSeen := false, last := none } }).report
          (phaseNote b .gelHold q')).Ends t) ∧
    (q.state = .paused → q.returnPhase = some .gelHold → c.gelTimer.running = true →
      ∃ t, exec (.gelHoldExpiry b) s = .next t ∧
        ({ s with store := store', seq := s.seq.set b { q with holdComplete := true }
                  sett := s.sett.set b { c with gelTimer := stopped } }).Ends t) ∧
    (q.state = .drilling → (s.gov.get b).flushTimer.running = true →
      let q' := q.suspended .drilling .flush
      let g' := { s.gov.get b with feedUp := 0, feedDown := 0, rotFwd := 0, flushTimer := .zero }
      ∃ t, exec (.flushLossTimeout b) s = .next t ∧
        (({ s with seq := s.seq.set b q', gov := s.gov.set b g' }).report (phaseNote b .drilling q')).Ends t)

/-! ## Profiling, planning and the bits of the roof -/

/-- A segment that closes (R45, R47 to R53): with fewer than 128 entries its entry, with the next index, its own
figures, and an SE that is the quotient of R47 rounded half up and held at 65,535, joins the Segment Table; with 128
the table stays and PROFILE_FULL is set. It is SATURATED, its SE 65,535, when SF or ST has reached its end or the
quotient exceeds 65,535 (R48). In both cases the class becomes the Governor's class in force and the next top the
segment's bottom; the segment's work adds to the wear of the record's bit position, whose WORN flag is evaluated
afresh, and a flag that becomes set marks the fitted boom's record BIT_WORN (R53, R198). Of the other boom's record
nothing changes but BIT_WORN. That BIT follows SEGMENT is the model's choice (log entry 11). -/
def Obligations.SegmentCloseAppends : Prop :=
  ∀ (b b' : Boom) (collar part : Bool) (s : State) (g : OpenSeg) (r : HoleRecord),
    (s.prof.get b).openSeg = some g → s.rec? b = some r → 0 < r.spec.holeDia → 0 < g.lseg → b' ≠ b →
    let t := s.closeSegment b collar part
    let bottom := (s.prof.get b).maxDepth
    let num := 271200 * g.sf + 28400000 * g.st
    let den := 213 * r.spec.holeDia ^ 2 * g.lseg
    (t.prof.get b).nextTop = bottom ∧ (t.prof.get b).openSeg = none ∧
    (t.rec? b').map (fun x => { x with bitWorn := false }) =
      (s.rec? b').map (fun x => { x with bitWorn := false }) ∧
    t.prof.get b' = s.prof.get b' ∧ t.seq = s.seq ∧ t.idx = s.idx ∧ t.arb = s.arb ∧
    (0 < g.samples → ∀ p, s.bits[r.bitPos]? = some p →
      let wear := min 18446744073709551615 (p.wear + (g.sf + g.st * 35500 / 339))
      let worn := decide (s.live P.bitWearLimit * 1000000 ≤ wear)
      t.bits = s.bits.set r.bitPos { p with wear := wear, worn := worn } ∧
      (∀ c, (t.rec? c).map HoleRecord.bitWorn = (s.rec? c).map fun y =>
        y.bitWorn || (worn && !p.worn && p.state = .fitted c)) ∧
      (worn = true → p.worn = false → s.link.reports.length < 11 →
        t.link.reports.getLast? = some (.bit (.worn r.bitPos
          (match p.state with
            | .fitted c => some c
            | _ => none) (wear / 1000000) (s.live P.bitWearLimit))))) ∧
    (g.samples = 0 → t.bits = s.bits) ∧
    ∃ e : Segment,
      e.index = r.segments.length ∧ e.top = g.top ∧ e.bottom = bottom ∧ e.samples = g.samples ∧
      (e.flags.saturated = true ↔
        g.sf = 4294967295 ∨ g.st = 4294967295 ∨ 65536 * den ≤ num + den / 2) ∧
      (e.flags.saturated = false → 2 * e.se * den ≤ 2 * num + den ∧ 2 * num < (2 * e.se + 1) * den) ∧
      (e.flags.saturated = true → e.se = 65535) ∧ e.se ≤ 65535 ∧
      (e.cls = .void ↔ e.se < r.param P.t1) ∧
      (r.param P.t1 < r.param P.t2 → r.param P.t2 < r.param P.t3 → r.param P.t3 < r.param P.t4 →
        (e.cls = .soft ↔ r.param P.t1 ≤ e.se ∧ e.se < r.param P.t2) ∧
        (e.cls = .medium ↔ r.param P.t2 ≤ e.se ∧ e.se < r.param P.t3) ∧
        (e.cls = .hard ↔ r.param P.t3 ≤ e.se ∧ e.se < r.param P.t4) ∧
        (e.cls = .veryHard ↔ r.param P.t4 ≤ e.se)) ∧
      e.flags.collar = (g.flags.collar || collar) ∧ e.flags.partialSeg = (g.flags.partialSeg || part) ∧
      e.flags.encoderJump = g.flags.encoderJump ∧ e.flags.stallRetry = g.flags.stallRetry ∧
      (t.gov.get b).cls = some e.cls ∧
      (t.rec? b).map HoleRecord.segments =
        some (if r.segments.length < 128 then r.segments ++ [e] else r.segments) ∧
      (128 ≤ r.segments.length → (t.rec? b).map HoleRecord.profileFull = some true)

/-- The Layer List of any Segment Table (R57 to R60). The table is cut, in order, into the runs that the one pass
over the spikes leaves: the first and the last segment of a run have its class, a segment of another class within
it stands alone between two of its own and is not VOID, neighbouring runs differ in class, and no spike is left or
was absorbed from below instead of from above. With more than 32 the thirty-second and every one below it merge
into one of the hardest class among them. Each layer carries its run's figures: the count, the top of its first and
the bottom of its last segment in whole millimetres, the least, the greatest and the floor of the mean of its SE. So
at most 32 layers cover the table, and those of a contiguous table share their boundaries. -/
def Obligations.LayersCoverTheTable : Prop :=
  ∀ segs : List Segment,
    (∃ raw : List (Cls × List Segment),
      raw.flatMap Prod.snd = segs ∧
      (∀ x ∈ raw, x.2 ≠ [] ∧ (x.2.head?.map Segment.cls) = some x.1 ∧
        (x.2.getLast?.map Segment.cls) = some x.1 ∧
        (∀ y ∈ x.2, y.cls ≠ x.1 → y.cls ≠ .void) ∧
        Adjacent (fun y z => y.cls = x.1 ∨ z.cls = x.1) x.2) ∧
      Adjacent (fun x y => x.1 ≠ y.1 ∧
        ∀ s1 s2 rest, y.2 = s1 :: s2 :: rest → s2.cls = x.1 → s1.cls = .void) raw ∧
      (∀ pre x y z post, raw = pre ++ x :: y :: z :: post → y.2.length = 1 → x.1 = z.1 → y.1 = .void) ∧
      buildLayers segs = (if raw.length ≤ 32 then raw
          else raw.take 31 ++ [(hardest (raw.drop 31), (raw.drop 31).flatMap Prod.snd)]).map fun x =>
        { top := (x.2.head?.map Segment.top).getD 0 / 10
          bottom := (x.2.getLast?.map Segment.bottom).getD 0 / 10
          cls := x.1, count := x.2.length
          minSe := (x.2.map Segment.se).foldl min ((x.2.map Segment.se).headD 0)
          maxSe := (x.2.map Segment.se).foldl max 0
          meanSe := (x.2.map Segment.se).sum / x.2.length }) ∧
    (∀ ls : List (Cls × List Segment), ls ≠ [] →
      (∃ x ∈ ls, x.1 = hardest ls) ∧ ∀ x ∈ ls, x.1.rank ≤ (hardest ls).rank) ∧
    (buildLayers segs).length ≤ 32 ∧
    ((buildLayers segs).map Layer.count).sum = segs.length ∧
    (buildLayers segs = [] ↔ segs = []) ∧
    (∀ x y, segs.head? = some x → segs.getLast? = some y →
      (buildLayers segs).head?.map Layer.top = some (x.top / 10) ∧
      (buildLayers segs).getLast?.map Layer.bottom = some (y.bottom / 10)) ∧
    (Adjacent (fun x y => x.bottom = y.top) segs →
      Adjacent (fun x y => x.bottom = y.top) (buildLayers segs)) ∧
    (∀ l ∈ buildLayers segs, 1 ≤ l.count ∧ l.minSe ≤ l.meanSe ∧ l.meanSe ≤ l.maxSe) ∧
    (∀ x y z, segs = [x, y, z] → x.cls = z.cls → y.cls ≠ x.cls →
      (buildLayers segs).map (fun l => (l.cls, l.count)) =
        if y.cls = .void then [(x.cls, 1), (y.cls, 1), (x.cls, 1)] else [(x.cls, 3)])

/-- The completion of a plan with nf fast cartridges (R92 to R95): all FAST entries come before all SLOW ones,
at most eight in all; without SHORT_RESIN the cartridges cover the required volume with the waste allowance,
and one slow cartridge fewer would not; with SHORT_RESIN the charge is eight and does not cover it. -/
def Obligations.PlanSizesTheCharge : Prop :=
  ∀ (r : HoleRecord) (p : Plan) (nf le nv : Nat), p.le = some le → p.nv = some nv → 1 ≤ nf → nf ≤ 4 →
    0 < r.slowVolume →
    let q := r.complete p nf
    let vreq := (r.spec.holeDia ^ 2 - r.spec.boltDia ^ 2) * (100 * le + 20 * r.param P.voidExtra * nv)
    let need := vreq * (100 + r.param P.waste)
    ∃ ns, q.ns = some ns ∧ q.nfEff = some nf ∧ q.vreq = some vreq ∧ q.status = .ready ∧
      q.types = some (List.replicate nf .fast ++ List.replicate ns .slow) ∧ nf + ns ≤ 8 ∧
      q.flags.boltLong = p.flags.boltLong ∧ q.flags.anchorWeak = p.flags.anchorWeak ∧
      (q.flags.shortResin = false →
        need ≤ 100 * (nf * r.fastVolume + ns * r.slowVolume) ∧
        (0 < ns → 100 * (nf * r.fastVolume + (ns - 1) * r.slowVolume) < need)) ∧
      (q.flags.shortResin = true →
        nf + ns = 8 ∧ 100 * (nf * r.fastVolume + ns * r.slowVolume) < need)

/-- SET_BANDS (R81): a boom that does not exist gives NO_SUCH_BOOM; a body of up to eight bands, each at or
below the one before it, with top above bottom in the order of depth and within 2,600 mm, replaces the boom's
live table with each limit at the nearest value of its range, OK when all were in it and CLAMPED otherwise, and
the reply carries the table as stored; any other body gives RANGE, and the table stays. Nothing else changes: an
open record keeps its copy. The widths of the fields are the model's (log entry 5). -/
def Obligations.SetBandsReplacesTheTable : Prop :=
  ∀ (tag : Byte) (body : List Byte) (s : State),
    s.ready = true → bandsLen body = true →
    (s.boomAt body 0 = none → exec (.setBands tag body) s = .next (s.reply 0x20 tag .noSuchBoom [])) ∧
    ∀ b, s.boomAt body 0 = some b →
    let sent := bandList body
    let good := byteAt body 1 ≤ 8 ∧ (∀ x ∈ sent, ∃ y, x = some y ∧ y.top < y.bottom ∧ y.bottom ≤ 2600) ∧
      (sent.filterMap id).Pairwise (fun x y => x.bottom ≤ y.top)
    (¬ good → exec (.setBands tag body) s = .next (s.reply 0x20 tag .range [])) ∧
    (good →
      let l := (sent.filterMap id).map fun x => { x with
        feed := max 2 (min 100 x.feed), rpm := max 50 (min 800 x.rpm), thrust := max 50 (min 6000 x.thrust) }
      l.length = byteAt body 1 ∧
      exec (.setBands tag body) s = .next (({ s with bands := s.bands.set b l }).reply 0x20 tag
        (if l = sent.filterMap id then .ok else .clamped) (listOf Band.bytes l)))

/-! ## The head, rotation and the direct inputs -/

/-- A frame is good when it is not all 0, its 80 bits are a multiple, modulo 2, of x⁸ + x² + x + 1 (its check is then
the remainder of R176), and no field of R174 is out of range; its values are the fields, clamped (R177). A head frame
of a present boom (R176 to R179, R181): a good one replaces the held values and the raw bits, sets
the valid mark, clears the bad run and debounces each input; a bad one leaves the held values, the debounced levels
and the change counts and raises the runs. SCAN_LOST is set at the fifth bad frame in a row and cleared at the third
good one. The other boom's chain and the parameters are untouched. The events of the arrival (R180, R183), each alone
and in a boom whose phase takes no sample: a guard that is open gives cause OPERATOR, the bad frame that brings the
bad run to 5 cause SCAN with its report (R17, R23, R179); JACK_AT_ROOF takes JACK_SET to COLLARING (R7, R38, R63,
R64), FEED_RETRACTED takes RETRACTING by the plan call to RESIN_INSERT or AWAIT_DECISION (R10, R84 to R90) and starts
JACK_DOWN in RELEASING, where JACK_LOWERED then closes the hole (R16), BOLT_PRESENT takes AWAIT_BOLT to BOLT_PUSH
(R14, R100), INJECTOR_READY the waiting Indexer to EJECTING (R132), CARTRIDGE_PASSED accounts the cartridge, the last
one ending the burst (R133, R137), and FLUSH_PRESSURE_OK takes FLUSH out of a PAUSED boom's causes (R78). The model's
are the order of the reports of one event (log entry 11), the report and the cause at a bad run of 5 though SCAN_LOST
is set (12), a stopped timer's count (13), the values of the workers that R37, R62 and R98 do not list (21), the last feed
position at APPROACH (28) and the current depth before the first sample (38). -/
def Obligations.HeadFrameTaken : Prop :=
  (∀ (frame : BitVec 80) (v : FrameValues),
    let field := fun (low width : Nat) => frame.toNat / 2 ^ low % 2 ^ width
    let temp : Int := if field 8 8 < 128 then (field 8 8 : Int) else (field 8 8 : Int) - 256
    judgeFrame frame = some v ↔
      frame ≠ 0#80 ∧ (∃ q : BitVec 80, q.toNat < 2 ^ 72 ∧ frame = q <<< 8 ^^^ q <<< 2 ^^^ q <<< 1 ^^^ q) ∧
      field 48 16 ≤ 65534 ∧ v.feed = field 48 16 ∧
      field 32 16 ≤ 7499 ∧ v.thrust = min (field 32 16) 6500 ∧
      field 16 16 ≤ 1199 ∧ v.torque = min (field 16 16) 1000 ∧
      -40 ≤ temp ∧ temp ≤ 100 ∧ v.temp = max (-20) (min temp 60) ∧
      ∀ k < 16, v.bits.getLsbD k = frame.getLsbD (64 + k)) ∧
  ∀ (b b' : Boom) (frame : BitVec 80) (s : State), s.power = .running → s.present b = true → b' ≠ b →
    let h := s.head.get b
    (∃ t, exec (.scanFrameArrival b frame) s = .next t ∧ t.head.get b' = s.head.get b' ∧
        ({ s with head := t.head }).Keeps t ∧
        let h' := t.head.get b
        match judgeFrame frame with
        | some v =>
          v.feed ≤ 65534 ∧ v.thrust ≤ 6500 ∧ v.torque ≤ 1000 ∧ -20 ≤ v.temp ∧ v.temp ≤ 60 ∧
          h'.feed = v.feed ∧ h'.thrust = v.thrust ∧ h'.torque = v.torque ∧ h'.temp = v.temp ∧
          h'.rawBits = v.bits ∧ h'.valid = true ∧ h'.badRun = 0 ∧ h'.badTotal = h.badTotal ∧
          (h.scanLost = false → h'.scanLost = false ∧ h'.goodRun = h.goodRun) ∧
          (h.scanLost = true → h.goodRun < 2 → h'.scanLost = true ∧ h'.goodRun = h.goodRun + 1) ∧
          (h.scanLost = true → h.goodRun = 2 → h'.scanLost = false ∧ h'.goodRun = 0) ∧
          ∀ k < 16,
            let n := h.changes.getD k 0
            let new := v.bits.getLsbD k
            let done := (h'.levels.getLsbD k = new ∧ h'.changes.getD k 0 = 0)
            (h.valid = false ∨ new = h.levels.getLsbD k ∨ s.live P.debounce ≤ n + 1 → done) ∧
            (h.valid = true → new ≠ h.levels.getLsbD k → n + 1 < s.live P.debounce →
              h'.levels.getLsbD k = h.levels.getLsbD k ∧ h'.changes.getD k 0 = n + 1)
        | none =>
          h' = { h with badRun := min 65535 (h.badRun + 1), badTotal := min 65535 (h.badTotal + 1), goodRun := 0
                        scanLost := h.scanLost || h.badRun == 4 }) ∧
    (s.calm = true →
      let q := s.seq.get b
      let c := s.sett.get b
      let g := s.gov.get b
      let x := s.idx
      let quiet := q.state ≠ .collaring ∧ q.state ≠ .drilling ∧ q.state ≠ .boltPush ∧ q.state ≠ .torquing
      let after := fun h' : Head => { s with
        head := s.head.set b h', rot := s.rot.set b { s.rot.get b with samplePulses := 0 } }
      let taken := fun y : State => ∃ t, exec (.scanFrameArrival b frame) s = .next t ∧ y.Ends t
      let paused := fun (y : State) (k : Cause) =>
        (q.state.automatic = true → q.state ≠ .mixing → quiet →
          let q' := q.suspended q.state k
          taken (({ y with seq := s.seq.set b q' }).report (phaseNote b q.state q'))) ∧
        (q.state = .mixing → q.deferred.has k = false →
          let q' := { q with deferred := q.deferred.add k }
          taken (({ y with seq := s.seq.set b q' }).report (phaseNote b .mixing q'))) ∧
        (q.state = .paused → q.causes.has k = false →
          let q' := { q with causes := q.causes.add k }
          taken (({ y with seq := s.seq.set b q' }).report (phaseNote b .paused q'))) ∧
        ((q.state.automatic = false ∧ q.state ≠ .paused) ∨ (q.state = .mixing ∧ q.deferred.has k = true) ∨
          (q.state = .paused ∧ q.causes.has k = true) → taken y)
      -- causes
      (judgeFrame frame = none → h.badRun = 4 → s.active b Input.guardClosed = true →
        paused ((after { h with
          badRun := 5, badTotal := min 65535 (h.badTotal + 1), goodRun := 0, scanLost := true }).report
            (.interlock (.scanLost b true))) .scan) ∧
      (∀ v, judgeFrame frame = some v → h.scanLost = false → h.valid = true → quiet →
        let u := after (h.takeGood v (s.live P.debounce))
        (u.active b Input.guardClosed = false → s.newInputs u b = [] → paused u .operator) ∧
        (u.active b Input.guardClosed = true → ∀ r, s.rec? b = some r →
          -- input events, one at a time
          (s.newInputs u b = [Input.jackAtRoof] → q.state = .jackSet → s.blocked b .collaring = false →
            let q' := { q.entering .collaring true with jackUp := 0 }
            let g' := { g with
              stage := .approach, cls := none, feedTarget := 0, rpmTarget := 0, thrustCap := 0
              band := r.bandAt 0, feedUp := r.param P.approachFeed * r.param P.feedFlowScale, feedDown := 0
              rotFwd := r.param P.collarRpm * r.param P.rotDisplacement / 100, flush := true
              backingOff := false, backoffTarget := 0, approachStall := false
              flushTimer := { running := false, ticks := 0 }, outcome := none, lastFeed := v.feed }
            let p' : Profiler := { mode := .armed, collarRef := none, depth := 0, maxDepth := 0, nextTop := 0
                                   jumps := 0, openSeg := none }
            taken (({ u with
              seq := s.seq.set b q', gov := s.gov.set b g', prof := s.prof.set b p'
              rot := u.rot.set b (u.rot.get b).cleared }).report (phaseNote b .jackSet q'))) ∧
          (s.newInputs u b = [Input.feedRetracted] → q.state = .retracting →
            let bt := r.spec.boltLen - r.param P.tailLength
            let weak := r.segments.any fun y => (y.cls = .void || y.cls = .soft) &&
              y.top < bt * 10 && (bt - r.param P.anchorZone) * 10 < y.bottom
            let stopBand := r.bands.any fun y => y.attr = .stop && y.top < bt
            let asks := fun (p : Plan) (ch : ChoiceSet) =>
              let q' := { q.entering .awaitDecision false with feedDown := 0, choices := ch }
              taken ((({ u with
                store := { s.store with opened := s.store.opened.set b (some { r with plan := some p }) }
                seq := s.seq.set b q' }).report (phaseNote b .retracting q')).report
                (.decisionNeeded b (q.hole.getD 0) p.flags.anchorWeak ch))
            let allow := r.param P.collarAllowance
            let le := bt - allow
            let nv := if le = 0 then 0 else (r.segments.filter fun y =>
              y.cls = .void && y.top < bt * 10 && allow * 10 < y.bottom).length
            let long : Plan := {
              pass := r.newPlan.pass, status := .held, dd := r.drilledDepth.getD 0 / 10, bt := bt
              flags := { boltLong := true, anchorWeak := false, shortResin := false }
              le := none, nv := none, nfEff := none, vreq := none, ns := none, types := none }
            let plan := { long with
              le := some le, nv := some nv
              flags := { boltLong := false, anchorWeak := weak, shortResin := false } }
            (r.drilledDepth.getD 0 / 10 < bt → asks long
              { proceed := false, extraFast := false, redrill := !stopBand, abandon := true }) ∧
            (bt ≤ r.drilledDepth.getD 0 / 10 → weak = true → r.param P.anchorPolicy ≠ 0 → asks plan
              { proceed := true, extraFast := true, redrill := false, abandon := true }) ∧
            (bt ≤ r.drilledDepth.getD 0 / 10 → weak = false ∨ r.param P.anchorPolicy = 0 →
              x.state ≠ .idle → x.state ≠ .starved → s.diu.estop = false →
              let ready := r.complete plan (r.spec.fastCount + if weak then 1 else 0)
              let q' := { q.entering .resinInsert false with feedDown := 0 }
              let burst : Burst := { boom := b, hole := r.number, types := ready.types.getD [], progress := 0
                                     delivered := [] }
              taken (({ u with
                store := { s.store with opened := s.store.opened.set b (some { r with plan := some ready }) }
                seq := s.seq.set b q', indexJog := 0
                idx := { x with queue := x.queue ++ [burst] } }).report (phaseNote b .retracting q')))) ∧
          (s.newInputs u b = [Input.feedRetracted] → q.state = .releasing → q.jackDownStarted = false →
            u.active b Input.jackLowered = false →
            taken { u with seq := s.seq.set b { q with
              feedDown := 0, jackDown := s.valve.qmaxOf (.boom b .jackDown), jackDownStarted := true } }) ∧
          (s.newInputs u b = [Input.jackLowered] → q.state = .releasing → q.jackDownStarted = true →
            let z := u.closeRecord b q.closing q.haltReason
            let q' := { q.entering .idle false with
              jackUp := 0, jackDown := 0, feedDown := 0, jackDownStarted := false, hole := none, closing := none
              haltReason := none, stoppedFrom := none }
            taken (({ z with
              prof := s.prof.set b .reset, gov := s.gov.set b .reset, sett := s.sett.set b .reset
              seq := s.seq.set b q' }).report (phaseNote b .releasing q'))) ∧
          (s.newInputs u b = [Input.boltPresent] → q.state = .awaitBolt → s.blocked b .boltPush = false →
            let q' := q.entering .boltPush true
            let c' := { c with
              stage := .push, pushOrigin := some v.feed, pushAdvance := 0
              feedUp := r.param P.pushFeed * r.param P.feedFlowScale
              rotFwd := r.param P.pushRpm * r.param P.rotDisplacement / 100 }
            taken (({ u with seq := s.seq.set b q', sett := s.sett.set b c' }).report
              (phaseNote b .awaitBolt q'))) ∧
          (s.newInputs u b = [Input.injectorReady] → x.state = .awaitReady →
            x.queue.head?.map Burst.boom = some b → s.requesterPaused b = false →
            taken { u with idx := { x with
              state := .ejecting, readyTimer := { x.readyTimer with running := false }
              passTimer := { running := true, ticks := 0 } } }) ∧
          (s.newInputs u b = [Input.cartridgePassed] →
            (x.state ≠ .ejecting ∨ x.selected = none ∨ x.queue.head?.map Burst.boom ≠ some b →
              taken { u with idx := { x with strayPass := min 65535 (x.strayPass + 1) } }) ∧
            (x.state = .ejecting → ∀ w, x.queue = [w] → w.boom = b → ∀ n, x.selected = some n →
              ∀ ty, (x.slot n).type = some ty → w.types.length = w.progress + 1 → q.state = .resinInsert →
              q.abortPending = false → u.active b Input.boltPresent = false →
              let q' := q.entering .awaitBolt false
              taken ((({ u with
                store := { s.store with
                  opened := s.store.opened.set b (some { r with delivered := r.delivered ++ [(n, ty)] }) }
                seq := s.seq.set b q'
                idx := { x.unserved with
                  slots := x.slots.set n { state := .empty, type := none, seq := none, fails := 0 }
                  queue := [], state := .idle } }).report (phaseNote b .resinInsert q')).report
                (.burst b w.hole .done w.types.length (w.delivered ++ [(n, ty)]))))) ∧
          (s.newInputs u b = [Input.flushPressureOk] → q.state = .paused → q.causes.flush = true →
            let q' := { q with causes := { q.causes with flush := false } }
            taken (({ u with seq := s.seq.set b q' }).report (phaseNote b .paused q'))))))

/-- The measured rpm (R189): 0 while NO_ROTATION is set or the last interval is absent, otherwise the floor of
1,000,000 over the interval in µs, an interval of 0 ticks being taken as 1, under the shift it was taken
with. It holds its value between pulses, and an overflow makes it 0. -/
def Obligations.MeasuredRpmFollowsTheInterval : Prop :=
  ∀ r : Rotation,
    (r.noRotation = true ∨ r.last = none → r.rpm = 0) ∧
    (∀ i k, r.noRotation = false → r.last = some (i, k) →
      let us := (if i = 0 then 1 else i) * 25 * 2 ^ k
      r.rpm * us ≤ 1000000 ∧ 1000000 < (r.rpm + 1) * us) ∧
    (∀ k, (r.tick k).noRotation = r.noRotation ∧ (r.tick k).rpm = r.rpm) ∧ r.overflow.rpm = 0

/-- Rotation, and the samples that follow it. A pulse counts into the sample and completes an interval under the
shift in force, restarts the timer and clears NO_ROTATION, in MIXING raises the mix count, and at the goal ends the
mix: the result is written, the hold time computed, and the boom is in GEL_HOLD, PAUSED there by the deferred causes
(R24, R106, R107, R110, R187). An overflow is given at the full count of 4,095 alone, so none behind a pulse or a
clear or while NO_ROTATION is set; it sets NO_ROTATION and clears the pulse seen mark (R188). In MIXING with rotation
granted it is the stall seen mark, in TORQUING the verdict TORQUE_STALLED (R108, R116); in the drilling phases a
first stall backs off, with the approach stall mark in APPROACH and STALL_RETRY after contact, and a second halts
with DRILL_STALL (R72, R73, R75). A good sample of a drilling boom: first contact, and after it the advance into the
open segment, the stage, the targets and the demands, or the end of the back-off (R39 to R44, R63 to R69, R74, R80),
here without a segment's close; an encoder jump adds no work, and the third halts with ENCODER_FAULT (R42, R43); the
collar drilled enters DRILLING, the end of drilling RETRACTING (R8 to R10, R54). A good sample in TORQUING moves the
figures and gives the verdicts OK, EARLY and SLIP (R114, R115, R118). A stopped timer's count (log entry 13) and what
the command of an overflow stands for (log entry 3) are the model's choice. -/
def Obligations.RotationPulsesAndOverflows : Prop :=
  ∀ (b : Boom) (frame : BitVec 80) (s : State) (r : HoleRecord), s.power = .running → s.present b = true →
    s.calm = true → s.rec? b = some r →
    let o := s.rot.get b
    let q := s.seq.get b
    let g := s.gov.get b
    let c := s.sett.get b
    let p := s.prof.get b
    let turning := 0 < s.arb.grantOf (.boom b .rotFwd)
    let back := r.param P.approachFeed * r.param P.feedFlowScale
    let pulsed := s.rot.set b { o with
      samplePulses := min 255 (o.samplePulses + 1)
      last := if o.pulseSeen = true ∧ o.noRotation = false then some (o.interval, o.shift) else o.last
      interval := 0, noRotation := false, pulseSeen := true }
    let full := o.noRotation = false ∧ 4095 ≤ o.interval
    let overflown := s.rot.set b { o with interval := 4095, noRotation := true, pulseSeen := false }
    let pulse := fun y : State => ∃ t, exec (.rotationPulse b) s = .next t ∧ ({ y with rot := pulsed }).Ends t
    let stalls := fun y : State => ∃ t, exec (.rotationOverflow b) s = .next t ∧
      ({ y with rot := overflown }).Ends t
    let backedOff := fun g : Governor => { g with
      backingOff := true, backoffTarget := g.lastFeed - r.param P.stallBackoff * 10
      feedUp := 0, rotFwd := 0, feedDown := back, flush := true }
    let setOff := fun (y : State) (c : Setting) (v : Verdict) =>
      let q' := y.releasedSeq b .verdict q
      ({ y with
         seq := s.seq.set b q'
         store := { s.store with opened := s.store.opened.set b (some { r with
           torque := some { peak := c.peak, snug := c.snug, angle := c.angle, turns := c.turns
                            verdict := some v } }) }
         sett := s.sett.set b { c with stage := .off, feedUp := 0, rotFwd := 0, verdict := some v }
         arb := { s.arb with res := s.arb.res.set b { mark := .none, amount := 0 } } }).report
        (phaseNote b .torquing q')
    -- pulses
    (q.state ≠ .mixing → pulse s) ∧
    (q.state = .mixing → c.mixPulses + 1 < r.param P.mixRevs * 60 →
      pulse { s with sett := s.sett.set b { c with mixPulses := c.mixPulses + 1 } }) ∧
    (q.state = .mixing → r.param P.mixRevs * 60 ≤ c.mixPulses + 1 → q.deferredAbort = false →
      s.blocked b .gelHold = false →
      let held := { q.entering .gelHold false with deferred := .empty, holdComplete := false }
      let factor := gelFactor (s.head.get b).temp
      let hold := max 5 (min 1200 ((r.param P.fastGelBase * factor + 50) / 100))
      ∃ t, exec (.rotationPulse b) s = .next t ∧ t.rot = pulsed ∧
        t.seq = s.seq.set b (if q.deferred = .empty then held else { held with
          state := .paused, returnPhase := some .gelHold, causes := q.deferred
          jackUp := 0, jackDown := 0, feedDown := 0 }) ∧
        t.sett = s.sett.set b { c with
          stage := .hold, mixPulses := c.mixPulses + 1, gelTemp := (s.head.get b).temp, gelFactor := factor
          holdTime := hold, gelTimer := { running := true, ticks := 0 }
          feedUp := r.param P.holdFeedFlow, rotFwd := 0 } ∧
        t.store = { s.store with opened := s.store.opened.set b (some { r with
          mix := some { pulses := c.mixPulses + 1, revs := (c.mixPulses + 1) / 60, timeMs := q.timer.ticks / 40
                        stallSeen := c.stallSeen, ending := .complete }
          gel := some { temp := (s.head.get b).temp, factor := factor, hold := hold, elapsed := 0 } }) } ∧
        t.arb.res = s.arb.res) ∧
    -- overflows
    (o.noRotation = true ∨ o.interval < 4095 → exec (.rotationOverflow b) s = .next s) ∧
    (full → q.state ≠ .mixing → q.state ≠ .torquing →
      (q.state ≠ .collaring ∧ q.state ≠ .drilling) ∨ g.stage = .off ∨ g.backingOff = true ∨ ¬ turning →
      stalls s) ∧
    (full → q.state = .mixing →
      stalls { s with sett := s.sett.set b { c with stallSeen := if turning then true else c.stallSeen } }) ∧
    (full → q.state = .torquing →
      (¬ turning ∨ c.verdict ≠ none → stalls s) ∧
      (turning → c.verdict = none → s.mayRelease b = true → stalls (setOff s c .stalled))) ∧
    (full → q.state = .collaring ∨ q.state = .drilling → g.backingOff = false → turning →
      (g.stage = .approach → g.approachStall = false →
        stalls { s with gov := s.gov.set b (backedOff { g with approachStall := true }) }) ∧
      (g.stage = .collar ∨ g.stage = .climb ∨ g.stage = .cut → ∀ x, p.openSeg = some x →
        x.flags.stallRetry = false →
        stalls { s with
          prof := s.prof.set b { p with
            openSeg := some { x with flags := { x.flags with stallRetry := true } } }
          gov := s.gov.set b (backedOff g) }) ∧
      ((g.stage = .approach ∧ g.approachStall = true) ∨
        (g.stage ≠ .off ∧ g.stage ≠ .approach ∧ p.openSeg.any (fun x => x.flags.stallRetry) = true) →
        ∃ t, exec (.rotationOverflow b) s = .next t ∧
          t.seq = s.seq.set b (q.haltedWith .drillStall) ∧ (t.gov.get b).stage = .off ∧
          (t.prof.get b).mode = .ended ∧ (∀ k, t.asked (.boom b k) = 0))) ∧
    -- samples
    (∀ v, judgeFrame frame = some v → (s.head.get b).scanLost = false →
      let u := { s with head := s.head.set b ((s.head.get b).takeGood v (s.live P.debounce))
                        rot := s.rot.set b { o with samplePulses := 0 } }
      let taken := fun y : State => ∃ t, exec (.scanFrameArrival b frame) s = .next t ∧ y.Ends t
      u.active b Input.guardClosed = true → s.newInputs u b = [] →
      (q.state = .torquing →
        let c' := { c with
          turns := c.turns + o.samplePulses, peak := max c.peak v.torque
          angle := if c.snug = none then c.angle else min 65535 (c.angle + o.samplePulses)
          snug := if c.snug = none ∧ r.param P.snugTorque ≤ v.torque then some (c.turns + o.samplePulses)
                  else c.snug }
        let early := c'.angle < r.param P.angleMin
        let late := r.param P.angleMax < c'.angle
        let reached := r.param P.torqueTarget ≤ v.torque
        (¬ reached → ¬ late → taken { u with sett := s.sett.set b c' }) ∧
        (reached → early → u.mayRelease b = true → taken (setOff u c' .early)) ∧
        (late → reached → ¬ early → u.mayRelease b = true → taken (setOff u c' .slip)) ∧
        (late → ¬ reached → u.mayRelease b = true → taken (setOff u c' .slip)) ∧
        (reached → ¬ early → ¬ late → u.mayRelease b = true → taken (setOff u c' .ok))) ∧
      (q.state = .collaring → g.stage = .approach → p.mode ≠ .running →
        let past := g.backingOff = true ∧ g.backoffTarget < v.feed
        let ended := g.backingOff = true ∧ v.feed ≤ g.backoffTarget
        let rot' := if ended then u.rot.set b (u.rot.get b).cleared else u.rot
        (v.thrust < r.param P.contactThrust →
          let g' := { g with lastFeed := v.feed, band := r.bandAt p.maxDepth }
          taken { u with
            rot := rot'
            gov := s.gov.set b (if past then g' else { g' with
              backingOff := false, feedUp := back, feedDown := 0
              rotFwd := r.param P.collarRpm * r.param P.rotDisplacement / 100, flush := true }) }) ∧
        (r.param P.contactThrust ≤ v.thrust →
          let g' := Governor.withCollar r
            { g with stage := .collar, approachStall := false, lastFeed := v.feed, band := r.bandAt 0 }
          taken { u with
            rot := rot'
            prof := s.prof.set b { p with
              mode := .running, collarRef := some v.feed, depth := 0, maxDepth := 0, nextTop := 0
              openSeg := some { top := 0, sf := 0, st := 0, lseg := 0, samples := 0, flags := .empty } }
            gov := s.gov.set b (if past then g' else Governor.driving r v.thrust { g' with backingOff := false })
            seq := s.seq.set b { q with timer := { q.timer with running := false } } })) ∧
      ((q.state = .collaring ∧ g.stage = .collar) ∨
          (q.state = .drilling ∧ (g.stage = .climb ∨ g.stage = .cut)) →
        p.mode = .running → ∀ x, p.openSeg = some x → ∀ k, p.collarRef = some k →
        let depth := v.feed - k
        let adv := depth - p.maxDepth
        let d := p.maxDepth + adv
        let jump := 40 < adv
        let fault := jump ∧ 3 ≤ p.jumps + 1
        (if jump then x.lseg else x.lseg + adv) < 200 →
        let x' := if jump then { x with flags := { x.flags with encoderJump := true } }
          else if adv = 0 then x else { x with
          sf := min 4294967295 (x.sf + v.thrust * adv), st := min 4294967295 (x.st + v.torque * o.samplePulses)
          lseg := x.lseg + adv, samples := x.samples + 1 }
        let ends := q.state = .drilling ∧ (r.spec.planned * 10 ≤ d ∨
          ∃ y ∈ r.bands, y.attr = .stop ∧ y.top * 10 ≤ d)
        let drilled := g.stage = .collar ∧ r.param P.collarLength * 10 ≤ d
        let cut := drilled ∨ g.stage = .cut ∨ (g.stage = .climb ∧ 0 < adv)
        let past := g.backingOff = true ∧ g.backoffTarget < v.feed
        let ended := g.backingOff = true ∧ v.feed ≤ g.backoffTarget
        let g' := { g with
          stage := if cut then .cut else g.stage, lastFeed := v.feed, band := r.bandAt d }
        let g' := if cut then g'.withCut r d else g'.withCollar r
        let y := { u with
          prof := s.prof.set b { p with
            depth := depth, maxDepth := d, jumps := if jump then p.jumps + 1 else p.jumps, openSeg := some x' }
          gov := s.gov.set b (if past then g' else Governor.driving r v.thrust { g' with backingOff := false })
          rot := if ended then u.rot.set b (u.rot.get b).cleared else u.rot }
        (fault →
          ∃ t, exec (.scanFrameArrival b frame) s = .next t ∧
            t.seq = s.seq.set b (q.haltedWith .encoderFault) ∧ (t.gov.get b).stage = .off ∧
            (t.prof.get b).mode = .ended ∧ (t.prof.get b).openSeg = none ∧
            (t.prof.get b).jumps = p.jumps + 1 ∧ (t.prof.get b).maxDepth = d ∧
            (t.rec? b).map HoleRecord.drilledDepth = some (some d) ∧
            (50 ≤ x.lseg → r.segments.length < 128 →
              ((t.rec? b).bind fun z => z.segments[r.segments.length]?).map
                (fun e => (e.flags.encoderJump, e.flags.partialSeg)) = some (true, true))) ∧
        (¬ fault → ¬ ends → ¬ drilled → taken y) ∧
        (¬ fault → drilled → s.blocked b .drilling = false →
          let q' := q.entering .drilling false
          taken (({ y with seq := s.seq.set b q' }).report (phaseNote b .collaring q'))) ∧
        (¬ fault → ends → s.blocked b .retracting = false → u.active b Input.feedRetracted = false →
          ∃ t, exec (.scanFrameArrival b frame) s = .next t ∧
            t.seq = s.seq.set b { q.entering .retracting true with feedDown := back } ∧
            (t.gov.get b).stage = .off ∧ (t.prof.get b).mode = .ended ∧ (t.prof.get b).openSeg = none ∧
            (t.rec? b).map HoleRecord.drilledDepth = some (some d) ∧
            (t.rec? b).map HoleRecord.drillOutcome =
              some (some (if r.spec.planned * 10 ≤ d then .planned else .shortByPlan)) ∧
            (t.rec? b).map HoleRecord.layers = (t.rec? b).map fun z => some (buildLayers z.segments))))

/-- The direct inputs and their timers (R184 to R186): E_STOP made again starts the 100 ms release timer,
METHANE_HIGH gone starts the 2,000 ms clear timer, an assertion while ASSERTED and an activation while ACTIVE
stop them, and INDEX_HOME only moves its level. At their expiries the state is RELEASED or CLEAR, with the
Arbiter's and an INTERLOCK report; no cause leaves a set and no boom moves. The count of a stopped timer, and
that a carousel sensor's raw and qualified levels move together, are the model's choices (log entries 13 and
14). -/
def Obligations.DirectInputsQualified : Prop :=
  ∀ s : State, s.power = .running →
    exec .eStopInputMade s = .next { s with diu := { s.diu with
      rawEstop := false
      releaseTimer := if s.diu.rawEstop = true ∧ s.diu.estop = true then { running := true, ticks := 0 }
                      else s.diu.releaseTimer } } ∧
    exec .methaneInputInactive s = .next { s with diu := { s.diu with
      rawMethane := false
      clearTimer := if s.diu.rawMethane = true ∧ s.diu.methane = true then { running := true, ticks := 0 }
                    else s.diu.clearTimer } } ∧
    (s.diu.estop = true → exec .eStopAssert s = .next { s with diu := { s.diu with
      rawEstop := true, releaseTimer := { running := false, ticks := 0 } } }) ∧
    (s.diu.methane = true → exec .methaneActive s = .next { s with diu := { s.diu with
      rawMethane := true, clearTimer := { running := false, ticks := 0 } } }) ∧
    (∀ a, exec (.indexHomeChange a) s = .next { s with diu := { s.diu with
      rawIndexHome := a, indexHome := a } }) ∧
    (s.calm = true → s.diu.releaseTimer.running = true →
      ∃ t, exec .eStopRelease s = .next t ∧
        (({ s with diu := { s.diu with estop := false, releaseTimer := { running := false, ticks := 0 } }
                   arb := { s.arb with estop := false } }).report (.interlock (.eStop false))).Ends t) ∧
    (s.calm = true → s.diu.clearTimer.running = true →
      ∃ t, exec .methaneClear s = .next t ∧
        (({ s with diu := { s.diu with methane := false, clearTimer := { running := false, ticks := 0 } }
                   arb := { s.arb with methane := false } }).report (.interlock (.methane false))).Ends t)

/-- The assertion of E_STOP (R30, R33, R35, R107, R141, R149, R162), with no reservation waiting: every present boom
is STOPPED from its phase with its hole kept, its sets and marks empty and its demands 0, and a mix so ended is in
the record with the end STOPPED; the burst in service and every waiting request end STOPPED with their BURST reports,
and the Indexer is IDLE with its position UNKNOWN and its magazine whole; TRAM_ENABLE is off; every grant, computed
afresh (R148), and every duty is 0. A queued request is of a boom without an abort that awaits its burst's end. The blocks take the assertion
in a free order (log entry 2); the count of a stopped timer is the model's choice (log entry 13). -/
def Obligations.EmergencyStopStopsAll : Prop :=
  ∀ s : State, s.power = .running → s.diu.estop = false → s.calm = true →
    (∀ r ∈ s.idx.queue, s.phase r.boom = .resinInsert → (s.seq.get r.boom).abortPending = false) →
    ∃ t, exec .eStopAssert s = .next t ∧ t.diu.estop = true ∧
      ({ s with diu := { s.diu with
        rawEstop := true, estop := true, releaseTimer := { running := false, ticks := 0 } } }).Keeps t ∧
      t.arb.estop = true ∧ t.tram = false ∧ t.indexJog = 0 ∧
      (∀ r ∈ t.arb.flow, r.grant = 0 ∧ r.effective = 0 ∧ r.cause = .estop) ∧ t.FlowComputed ∧
      (∀ c ∈ t.valve.channels, c.duty = 0) ∧
      t.idx.queue = [] ∧
      (s.link.reports.length + s.idx.queue.length ≤ 5 → ∀ r ∈ s.idx.queue,
        Report.burst r.boom r.hole .stopped r.types.length r.delivered ∈ t.link.reports) ∧
      t.idx.state = .idle ∧ t.idx.position = none ∧ t.idx.fault = none ∧ t.idx.selected = none ∧
      t.idx.demand = 0 ∧ t.idx.slots = s.idx.slots ∧ t.idx.stepTimer.running = false ∧
      t.idx.readyTimer.running = false ∧ t.idx.passTimer.running = false ∧
      t.store.queue = s.store.queue ∧ t.store.counter = s.store.counter ∧
      ∀ b ∈ s.booms,
        let c := s.sett.get b
        (t.rec? b).map HoleRecord.number = (s.rec? b).map HoleRecord.number ∧
        (t.rec? b).map HoleRecord.mix = (s.rec? b).map (fun r =>
          if (s.seq.get b).state = .mixing then
            some { pulses := c.mixPulses, revs := c.mixPulses / 60, timeMs := (s.seq.get b).timer.ticks / 40
                   stallSeen := c.stallSeen, ending := .stopped }
          else r.mix) ∧
        ((s.seq.get b).state ≠ .stopped →
          t.seq.get b = { s.seq.get b with
            state := .stopped, stoppedFrom := some (s.phase b), returnPhase := none, causes := .empty
            deferred := .empty, deferredAbort := false, abortPending := false, choices := .empty
            jogs := .zero, timer := { running := false, ticks := 0 }, jackUp := 0, jackDown := 0
            feedDown := 0, jackDownStarted := false }) ∧
        ((s.seq.get b).state = .stopped → t.seq.get b = s.seq.get b)

/-- METHANE_HIGH becomes active (R17, R25, R109, R150, R186), with no reservation waiting: every rotation grant
is 0 and the others are computed afresh (R148); a present boom in an automatic phase other than MIXING is suspended with cause GAS, a PAUSED one takes
GAS into its set, and a boom in MIXING halts with MIX_INTERRUPTED (the case in which no abort is deferred). The
count of a stopped timer is the model's choice (log entry 13). -/
def Obligations.MethaneStopsRotation : Prop :=
  ∀ s : State, s.power = .running → s.diu.methane = false → s.calm = true →
    (∀ b, (s.seq.get b).deferredAbort = false) →
    ∃ t, exec .methaneActive s = .next t ∧ t.diu.methane = true ∧ t.arb.methane = true ∧
      ({ s with diu := { s.diu with
        rawMethane := true, methane := true, clearTimer := { running := false, ticks := 0 } } }).Keeps t ∧
      (∀ r ∈ t.arb.flow, r.fn.isRotation = true → r.grant = 0 ∧ r.effective = 0) ∧ t.FlowComputed ∧
      t.idx.slots = s.idx.slots ∧ t.store.queue = s.store.queue ∧
      ∀ b ∈ s.booms,
        ((s.seq.get b).state.automatic = true → (s.seq.get b).state ≠ .mixing →
          t.seq.get b = (s.seq.get b).suspended (s.seq.get b).state .gas) ∧
        ((s.seq.get b).state = .paused →
          t.seq.get b = { s.seq.get b with causes := { (s.seq.get b).causes with gas := true } }) ∧
        ((s.seq.get b).state = .mixing →
          t.seq.get b = { (s.seq.get b).haltedWith .mixInterrupted with deferred := .empty }) ∧
        ((s.seq.get b).state.automatic = false → (s.seq.get b).state ≠ .paused →
          t.seq.get b = s.seq.get b)

/-! ## Flow and valves -/

/-- The grant computation (R147, R151): the sum of all grants never exceeds the pump's flow, what is left
unused is the rest, no grant exceeds its effective demand, FLOW_LIMITED marks exactly the grants below it, a
class that fits in what the classes before it leave is granted whole, and nothing else of a record changes. On the
state, a computation leaves the records and the unused flow that grantAll gives for the live PUMP_FLOW and the
demands, classes and withheld causes of the thirteen functions, and changes nothing but these and the FAILED set it
read. At the end of an event with nothing to admit or to return, the grants are computed afresh where anything the
computation reads has changed (R148), and at a change of the E-stop or the methane state in any case. -/
def Obligations.GrantsWithinThePump : Prop :=
  (∀ s : State,
    let t := s.computeFlow
    (t.arb.flow, t.arb.unused) = grantAll (s.live P.pumpFlow) s.flowInputs ∧ t.core = s.core ∧
    t.FlowComputed ∧ t.flowStale = false ∧ s.flowInputs.map FlowRec.fn = propFns ∧
    ∀ r ∈ s.flowInputs, r.asked = s.asked r.fn ∧ r.cls = s.flowClass r.fn ∧ r.cause = s.withheld r.fn ∧
      r.effective = if r.cause = .none then r.asked else 0) ∧
  (∀ s0 s : State, s.still = true →
    (s0.finish s).flowStale = false ∧ s.FlowFollows (s0.finish s) ∧ (s0.finishComputed s).FlowComputed) ∧
  ∀ (pump : Nat) (rs : List FlowRec),
    let g := (grantAll pump rs).1
    let sumOf := fun (c : FlowClass) => ((g.filter fun r => r.cls = c).map FlowRec.grant).sum
    let total := fun (c : FlowClass) => ((rs.filter fun r => r.cls = c).map FlowRec.effective).sum
    (g.map FlowRec.grant).sum ≤ pump ∧ (grantAll pump rs).2 = pump - (g.map FlowRec.grant).sum ∧
    g.map (fun r => (r.fn, r.asked, r.cls, r.effective, r.cause)) =
      rs.map (fun r => (r.fn, r.asked, r.cls, r.effective, r.cause)) ∧
    (∀ r ∈ g, r.grant ≤ r.effective ∧ (r.limited = true ↔ r.grant < r.effective)) ∧
    (∀ r ∈ g, r.cls = .support →
      r.grant = if total .support ≤ pump then r.effective else r.effective * pump / total .support) ∧
    (∀ r ∈ g, r.cls = .setting →
      let left := pump - sumOf .support
      r.grant = if total .setting ≤ left then r.effective else r.effective * left / total .setting) ∧
    (∀ r ∈ g, r.cls = .work →
      let left := pump - sumOf .support - sumOf .setting
      r.grant = if total .work ≤ left then r.effective else r.effective * left / total .work)

/-- The test of the waiting list and what it admits (R153 to R156). No reservation that waits after the test fits.
The first entry from the head that fits is admitted, and the list is tested again: its mark is ADMITTED with its
amount, it leaves the list and no other entry moves, and its boom goes from MIX_WAIT to MIXING, or PAUSED from
MIX_WAIT has MIXING as its return phase. A sample of BOLT_PUSH gives the push advance (R100, R101): below SEAT_THRUST
the push goes on, at it short of the seat distance the boom halts with BOLT_BLOCKED, and beyond it the bolt is seated
and the reservation of R103 is put: the boom waits in MIX_WAIT, or is in MIXING at once where it fits. The count of a
stopped timer is the model's choice (log entry 13). -/
def Obligations.NothingThatFitsWaits : Prop :=
  (∀ s : State, ∀ b ∈ s.testList.arb.waiting,
    s.testList.live P.pumpFlow <
      s.testList.supportTotal + s.testList.arb.admittedSum + (s.testList.arb.res.get b).amount) ∧
  (∀ (s : State) (b b' : Boom) (pre post : List Boom), s.arb.waiting = pre ++ b :: post → b' ≠ b →
    b ∉ pre ++ post →
    (∀ x ∈ pre, s.live P.pumpFlow < s.supportTotal + s.arb.admittedSum + (s.arb.res.get x).amount) →
    s.supportTotal + s.arb.admittedSum + (s.arb.res.get b).amount ≤ s.live P.pumpFlow →
    let u := s.admitBoom b
    let q := s.seq.get b
    s.testList = u.testList ∧ u.arb.waiting = pre ++ post ∧ u.arb.res.get b' = s.arb.res.get b' ∧
    u.seq.get b' = s.seq.get b' ∧ u.store.queue = s.store.queue ∧
    (q.state = .mixWait → s.blocked b .mixing = false →
      u.seq.get b = q.entering .mixing true ∧ (u.sett.get b).stage = .mix ∧
      u.arb.res.get b = { mark := .admitted, amount := (s.arb.res.get b).amount }) ∧
    (q.state = .paused → q.returnPhase = some .mixWait →
      u.seq.get b = { q with returnPhase := some .mixing } ∧
      u.arb.res.get b = { mark := .admitted, amount := (s.arb.res.get b).amount })) ∧
  (∀ (s : State) (b : Boom) (frame : BitVec 80) (v : FrameValues) (r : HoleRecord),
    s.power = .running → s.present b = true → s.calm = true → judgeFrame frame = some v →
    (s.head.get b).scanLost = false → s.rec? b = some r → (s.seq.get b).state = .boltPush →
    let u := { s with head := s.head.set b ((s.head.get b).takeGood v (s.live P.debounce)) }
    let q := s.seq.get b
    let c := s.sett.get b
    let advance := v.feed - c.pushOrigin.getD v.feed
    let amount := r.param P.mixRpm * r.param P.rotDisplacement / 100 + r.param P.holdFeedFlow
    let fit := s.supportTotal + s.arb.admittedSum + amount ≤ s.live P.pumpFlow
    let far := (r.spec.boltLen - 200) * 10 ≤ advance
    let pushed := fun c' : Setting => { u with
      rot := s.rot.set b { s.rot.get b with samplePulses := 0 }, sett := s.sett.set b c' }
    u.active b Input.guardClosed = true → s.newInputs u b = [] →
    (v.thrust < r.param P.seatThrust →
      ∃ t, exec (.scanFrameArrival b frame) s = .next t ∧ (pushed { c with pushAdvance := advance }).Ends t) ∧
    (r.param P.seatThrust ≤ v.thrust → ¬ far →
      let q' := q.haltedWith .boltBlocked
      ∃ t, exec (.scanFrameArrival b frame) s = .next t ∧
        (({ pushed { c with stage := .off, feedUp := 0, rotFwd := 0, pushAdvance := advance } with
            seq := s.seq.set b q' }).report (phaseNote b .boltPush q')).Ends t) ∧
    (r.param P.seatThrust ≤ v.thrust → far → (s.arb.res.get b).mark = .none → s.blocked b .mixing = false →
      ∃ t, exec (.scanFrameArrival b frame) s = .next t ∧
        t.seq = s.seq.set b (if fit then q.entering .mixing true else q.entering .mixWait false) ∧
        t.arb.res.get b = { mark := if fit then .admitted else .waiting, amount := amount } ∧
        t.arb.waiting = (if fit then [] else [b]) ∧ (t.sett.get b).pushAdvance = advance ∧
        (t.sett.get b).stage = (if fit then .mix else .wait) ∧ t.store = s.store))

/-- SET_CHANNEL (R161): a channel above 19 or a polarity that is neither is refused with RANGE and changes
nothing; otherwise the six settings are replaced whole, each clamped in the order of the rule, OK when none was,
the channel's state and low-current count are kept, and the reply carries the six as stored. The widths of the
fields and the codes of the polarity are the model's (log entries 5 and 8). -/
def Obligations.SetChannelClamps : Prop :=
  ∀ (tag : Byte) (body : List Byte) (s : State), s.ready = true → s.calm = true → body.length = 12 →
    s.valve.channels.length = 20 →
    let n := byteAt body 0
    (19 < n ∨ 1 < byteAt body 7 → exec (.setChannel tag body) s = .next (s.reply 0x30 tag .range [])) ∧
    (n ≤ 19 → byteAt body 7 ≤ 1 →
      let dmin := min 500 (numAt body 1 2)
      let dmax := max (dmin + 1) (min 1000 (numAt body 3 2))
      let qmax := max 10 (min 3000 (numAt body 5 2))
      let short := max 200 (min 5000 (numAt body 10 2))
      let opn := min (min 2000 (short - 50)) (numAt body 8 2)
      let same := dmin = numAt body 1 2 ∧ dmax = numAt body 3 2 ∧ qmax = numAt body 5 2 ∧
        opn = numAt body 8 2 ∧ short = numAt body 10 2
      let set := fun (c : Channel) => { c with
        dmin := dmin, dmax := dmax, qmax := qmax, polarityHigh := byteAt body 7 == 0, openTh := opn
        shortTh := short }
      ∃ t, exec (.setChannel tag body) s = .next t ∧
        (({ s with valve := { s.valve with channels := s.valve.channels.modify n set } }).reply 0x30 tag
          (if same then .ok else .clamped)
          (u16 dmin ++ u16 dmax ++ u16 qmax ++ u8 (byteAt body 7) ++ u16 opn ++ u16 short)).Ends t)

/-- SET_ROUTE and CLEAR_CHANNEL (R166 to R173). SET_ROUTE checks the function's number, its boom, the channels and
the ownership and refuses without a change. Taken, the entry is replaced and the route taken afresh: PRIMARY on an OK
primary, else ALTERNATE on an OK alternate, else NONE; every other function keeps its entry and its route, each
channel is driven by the lowest-numbered of its claimants, and the others have ROUTE_CONFLICT. CLEAR_CHANNEL is
refused with RANGE above 19 and with STATE on an OK channel; taken, the channel is OK with its low-current count at
0, no other channel's state changes, and a function without a route that has the channel takes one afresh. Where no
function becomes FAILED no boom and no record moves; a boom whose phase uses one that does halts with VALVE_FAULT, or
in MIXING with MIX_INTERRUPTED, and a FAILED INDEX with a step under way is in R131. The reply gives the entry and
each function changed. The clauses on what a taken request changes are for resolved routes in a calm state. The
places and codes of the fields and a presence byte above 1 are the model's (log entries 5, 8 and 32), as is the count
of a stopped timer (log entry 13). -/
def Obligations.RoutesAndChannelsSet : Prop :=
  ∀ (tag : Byte) (body : List Byte) (s : State), s.ready = true → s.valve.channels.length = 20 →
    s.valve.routes.length = 16 →
    let c := byteAt body 0
    let refused := fun (i : Instr) (k : Byte) (r : Result) => exec i s = .next (s.reply k tag r [])
    let note := fun (t : State) (g : Fn) => u8 g.num ++ u8 (t.valve.route g).kind.code ++
      opt u8 (t.valve.route g).claims ++ mark (t.valve.route g).conflict ++ mark (t.valve.isFailed g)
    (routeLen body = true →
      let p := byteAt body 1
      let alt := if byteAt body 2 = 0 then none else some (byteAt body 3)
      let bad := 19 < p ∨ ∃ a, alt = some a ∧ (19 < a ∨ a = p)
      (15 < c → refused (.setRoute tag body) 0x31 .range) ∧
      (∀ f, fnOfNum c = some f →
        (s.absentFn f = true → refused (.setRoute tag body) 0x31 .noSuchBoom) ∧
        (s.absentFn f = false → bad → refused (.setRoute tag body) 0x31 .range) ∧
        (s.absentFn f = false → ¬ bad → s.routeOwned f = true → refused (.setRoute tag body) 0x31 .owned) ∧
        (s.absentFn f = false → ¬ bad → s.routeOwned f = false →
          let kind := if s.valve.chOk p then RouteKind.primary
            else match alt with
              | some a => if s.valve.chOk a then .alternate else .none
              | none => .none
          ∃ t, exec (.setRoute tag body) s = .next t ∧
            ({ s with link := { s.link with replies := t.link.replies } }).Keeps t ∧
            t.link.replies = s.link.replies ++ [{
              kind := 0x31, tag := tag, result := .ok, sent := 0
              content := (u8 (t.valve.route f).primary ++ opt u8 (t.valve.route f).alternate ++
                u8 (t.valve.route f).kind.code ++ mark (t.valve.route f).conflict) ++
                listOf (note t) (allFns.filter fun g => g ≠ f && s.valve.moved t.valve g) }] ∧
            (s.calm = true → s.valve.resolve = s.valve →
              (∀ g ∈ allFns, let r := s.valve.route g
                (t.valve.route g).primary = (if g = f then p else r.primary) ∧
                (t.valve.route g).alternate = (if g = f then alt else r.alternate) ∧
                (t.valve.route g).kind = (if g = f then kind else r.kind)) ∧
              t.valve.Resolved ∧ s.TakesFailed t)))) ∧
    (body.length = 1 →
      (19 < c → refused (.clearChannel tag body) 0x32 .range) ∧
      (c ≤ 19 → (s.valve.channel c).state = .ok → refused (.clearChannel tag body) 0x32 .state) ∧
      (c ≤ 19 → (s.valve.channel c).state ≠ .ok →
        let okAfter := fun n => n == c || s.valve.chOk n
        ∃ t, exec (.clearChannel tag body) s = .next t ∧
          (t.valve.channel c).state = .ok ∧ (t.valve.channel c).lowCount = 0 ∧
          (∀ i < 20, i ≠ c → (t.valve.channel i).state = (s.valve.channel i).state ∧
            (t.valve.channel i).lowCount = (s.valve.channel i).lowCount) ∧
          ({ s with link := { s.link with replies := t.link.replies }
                    valve := { s.valve with channels := t.valve.channels } }).Keeps t ∧
          t.link.replies = s.link.replies ++ [{
            kind := 0x32, tag := tag, result := .ok, sent := 0
            content := listOf (note t) (allFns.filter fun g => s.valve.moved t.valve g) }] ∧
          (s.calm = true → s.valve.resolve = s.valve →
            (∀ g ∈ allFns, let r := s.valve.route g
              (t.valve.route g).primary = r.primary ∧ (t.valve.route g).alternate = r.alternate ∧
              (t.valve.route g).kind =
                if r.kind = .none ∧ (r.primary = c ∨ r.alternate = some c) then
                  (if okAfter r.primary then .primary
                   else match r.alternate with
                     | some a => if okAfter a then .alternate else .none
                     | none => .none)
                else r.kind) ∧
            t.valve.Resolved ∧ s.TakesFailed t)))

/-- A current reading (R164, R165): every channel's measured current is its reading, at most 5,000; a channel that is
OK goes SHORT above its short threshold, whatever its duty, and OPEN at the third consecutive reading below its open
threshold taken while it is driven, and otherwise its low-current count follows; a channel that is not OK takes no
fault. A fault alone, in a calm state with resolved routes, moves the functions that claim the channel to their
alternate where it is OK and to NONE otherwise, no other function's route changes, the conflicts are resolved, the
functions it makes FAILED are taken (R131 for INDEX), and the CHANNEL report names the fault and each function
changed (R169, R170, R172, R173). The return of a function on its alternate, as each test of an event makes it
(R171): with its primary OK, no lower-numbered claim to it and the function at rest its route is PRIMARY, and
otherwise nothing changes. CHANNEL before the PHASE reports of the booms it halts (log entry 11), a stopped timer's
count (13), the open-coil test on the duty before the reading (20) and a missing reading read as 0 (27) are the
model's. -/
def Obligations.CurrentReadingFindsFaults : Prop :=
  (∀ (currents : List Nat) (s : State), s.power = .running → s.valve.channels.length = 20 →
    ∃ t, exec (.valveCurrentReading currents) s = .next t ∧ t.valve.channels.length = 20 ∧
      ({ s with valve := { s.valve with channels := t.valve.channels } }).Keeps t ∧
      (∀ i < 20,
        let c := s.valve.channel i
        let c' := t.valve.channel i
        let ma := min 5000 (currents.getD i 0)
        let low := if c.duty = 0 then 0 else if ma < c.openTh then c.lowCount + 1 else 0
        c'.current = ma ∧
        (c.state ≠ .ok → c'.state = c.state ∧ c'.lowCount = c.lowCount) ∧
        (c.state = .ok → c.shortTh < ma → c'.state = .short ∧ c'.lowCount = 0 ∧ c'.duty = 0) ∧
        (c.state = .ok → ma ≤ c.shortTh → 3 ≤ low → c'.state = .openCoil ∧ c'.lowCount = 0 ∧ c'.duty = 0) ∧
        (c.state = .ok → ma ≤ c.shortTh → low < 3 → c'.state = .ok ∧ c'.lowCount = low)) ∧
      (s.calm = true → s.valve.routes.length = 16 → s.valve.resolve = s.valve →
        ∀ i < 20, (s.valve.channel i).state = .ok → (t.valve.channel i).state ≠ .ok →
        (∀ j < 20, j ≠ i → (t.valve.channel j).state = (s.valve.channel j).state) →
        (∀ g ∈ allFns, let r := s.valve.route g
          (t.valve.route g).primary = r.primary ∧ (t.valve.route g).alternate = r.alternate ∧
          (t.valve.route g).kind =
            if r.claims = some i then
              match r.alternate with
              | some a => if t.valve.chOk a then .alternate else .none
              | none => .none
            else r.kind) ∧
        t.valve.Resolved ∧ s.TakesFailed t ∧
        (s.link.reports.length < 12 → t.link.reports[s.link.reports.length]? =
          some (.channel i (t.valve.channel i).state
            ((allFns.filter fun g => s.valve.moved t.valve g).map fun g =>
              { fn := g.num, kind := (t.valve.route g).kind, claims := (t.valve.route g).claims
                conflict := (t.valve.route g).conflict, failed := t.valve.isFailed g }))))) ∧
  (∀ (quiet : Bool) (f : Fn) (s : State), s.valve.routes.length = 16 → s.arb.waiting = [] →
    let r := s.valve.route f
    let rest := match f with
      | .tram => s.tram = false
      | .boom b .flush => s.onState (.boom b .flush) = false
      | _ => s.arb.grantOf f = 0
    let may := r.kind = .alternate ∧ s.valve.chOk r.primary = true ∧ rest ∧
      ∀ g ∈ allFns, g.num < f.num → (s.valve.route g).claims ≠ some r.primary
    let t := s.returnOne quiet f
    (¬ may → t = s) ∧
    (may →
      (∀ g ∈ allFns,
        (t.valve.route g).primary = (s.valve.route g).primary ∧
        (t.valve.route g).alternate = (s.valve.route g).alternate ∧
        (t.valve.route g).kind = if g = f then .primary else (s.valve.route g).kind) ∧
      t.valve.Resolved ∧ (s.valve.resolve = s.valve → s.TakesFailed t)))

/-! ## The magazine -/

/-- The slot selected for a type (R124): the LOADED slot of that type with the lowest load sequence number, the
lower slot among equal numbers; none exactly when no slot is LOADED with the type. -/
def Obligations.OldestStockSelected : Prop :=
  ∀ (x : Indexer) (t : CartType),
    let loaded := fun n => n < x.slots.length ∧ (x.slot n).state = .loaded ∧ (x.slot n).type = some t
    (∀ n, x.select t = some n ↔
      loaded n ∧ ∀ m, loaded m → x.seqOf n < x.seqOf m ∨ (x.seqOf n = x.seqOf m ∧ n ≤ m)) ∧
    (x.select t = none ↔ ∀ n, ¬ loaded n)

/-- LOAD_SLOTS and CLEAR_MAGAZINE (R123, R128, R135, R136, R140). A list of no items or of more than 24, or a type
that is neither, refuses the whole request with RANGE. Otherwise the items are applied in list order, each with its
result: RANGE for a slot outside the magazine, REFUSED_LOADED for a LOADED slot, and else the slot is LOADED with the
type, the counter's number and no failure. A STARVED Indexer is tested again once the items are applied: its burst
resumes where its type is now LOADED, else it is set aside for the waiting request whose type is, else it stays.
CLEAR_MAGAZINE is refused with STATE outside FAULT; in FAULT the Indexer is IDLE with its position UNKNOWN and its
table as it was, and takes a waiting request: homing first for the slot of its type, or STARVED with its MAGAZINE
report and the set-aside test. The Indexer that sets out is one whose INDEX is not FAILED. The codes of the types and
of the results (log entry 8), the order of the reports (11) and a stopped timer's count (13) are the model's. -/
def Obligations.MagazineLoadedAndCleared : Prop :=
  ∀ (tag : Byte) (body : List Byte) (s : State), s.ready = true → s.calm = true →
    let x := s.idx
    let towards := fun (y : Indexer) (n : Nat) =>
      if y.position = none ∧ s.diu.indexHome = true then
        Indexer.toward { y with position := some 0, homing := false, homeCount := 0 } (s.live P.indexFlow) n
      else y.toward (s.live P.indexFlow) n
    let found := fun (y : Indexer) (r : Option Burst) => (r.bind Burst.wanted).bind y.select
    (slotsLen body = true →
      (byteAt body 0 = 0 ∨ 24 < byteAt body 0 ∨ (∃ x ∈ itemList body, x.2 = none) →
        exec (.loadSlots tag body) s = .next (s.reply 0x28 tag .range [])) ∧
      (0 < byteAt body 0 → byteAt body 0 ≤ 24 →
        ∀ items : List (Nat × CartType), itemList body = items.map (fun x => (x.1, some x.2)) →
        let y := (x.loadItems items).1
        let loaded := fun z : Indexer => ∃ t, exec (.loadSlots tag body) s = .next t ∧
          (({ s with idx := z }).reply 0x28 tag .ok
            (listOf (fun r => u8 (LoadResult.code r)) (x.loadItems items).2)).Ends t
        (x.state ≠ .starved → loaded y) ∧
        (x.state = .starved → ∀ r rest, x.queue = r :: rest →
          (∀ n, found y (some r) = some n → s.valve.isFailed .index = false →
            loaded (towards { y with selected := some n } n)) ∧
          (found y (some r) = none → found y rest.head? = none → loaded y) ∧
          (∀ n, found y rest.head? = some n → found y (some r) = none → s.valve.isFailed .index = false →
            loaded (towards { y with queue := rest ++ [r], selected := some n, stopMark := false } n))))) ∧
    (∀ (x : Indexer) (n : Nat) (ty : CartType) (rest : List (Nat × CartType)),
      (x.loadItems ((n, ty) :: rest)).2.length = rest.length + 1 ∧
      (x.slots.length ≤ n → x.loadItems ((n, ty) :: rest) =
        ((x.loadItems rest).1, .range :: (x.loadItems rest).2)) ∧
      (n < x.slots.length → (x.slot n).state = .loaded → x.loadItems ((n, ty) :: rest) =
        ((x.loadItems rest).1, .refusedLoaded :: (x.loadItems rest).2)) ∧
      (n < x.slots.length → (x.slot n).state ≠ .loaded →
        let y := { x with
          slots := x.slots.set n { state := .loaded, type := some ty, seq := some x.seqCounter, fails := 0 }
          seqCounter := min 4294967295 (x.seqCounter + 1) }
        x.loadItems ((n, ty) :: rest) = ((y.loadItems rest).1, .ok :: (y.loadItems rest).2))) ∧
    (x.state ≠ .fault → exec (.clearMagazine tag []) s = .next (s.reply 0x2A tag .state [])) ∧
    (x.state = .fault →
      let y := { x with state := .idle, fault := none, position := none }
      let cleared := fun u : State => ∃ t, exec (.clearMagazine tag []) s = .next t ∧
        (u.reply 0x2A tag .ok []).Ends t
      (x.queue = [] → cleared { s with idx := y }) ∧
      (∀ r rest, x.queue = r :: rest →
        (∀ n, found x (some r) = some n → s.valve.isFailed .index = false →
          cleared { s with idx := towards { y with selected := some n, stopMark := false } n }) ∧
        (∀ ty, r.wanted = some ty → x.select ty = none →
          let z := { y with
            state := .starved, demand := 0, selected := none
            stepTimer := { x.stepTimer with running := false }
            readyTimer := { x.readyTimer with running := false }
            passTimer := { x.passTimer with running := false } }
          let starves := fun w : Indexer =>
            { s.report (.magazine (.starved r.boom ty)) with idx := w }
          (found x rest.head? = none → cleared (starves z)) ∧
          (∀ n, found x rest.head? = some n → s.valve.isFailed .index = false →
            cleared (starves (towards { z with
              queue := rest ++ [r], selected := some n, stopMark := false } n))))))

/-- An INDEX_STEP event (R129 to R131, R139, R140). Outside homing and moving it is a stray step, after which the
position is UNKNOWN; in AWAIT_READY the homing then begins, which an active INDEX_HOME ends at once. In a move the
position advances by one: the step timer restarts, or at the last step the Indexer is in AWAIT_READY, when INDEX_HOME
agrees with the new position, and otherwise it is in FAULT with HOME_MISMATCH. While homing the home step count
rises: with INDEX_HOME active the position is 0 and the move begins, without it the step timer restarts, or after a
whole revolution the Indexer is in FAULT with HOME_NOT_FOUND. With the stop mark set the burst ends STOPPED instead.
A change to inactive is no event. Where a homing or a move needs a step and INDEX is FAILED the Indexer is in FAULT
with INDEX_FAILED (R131). The burst in service is alone in the queue. That the raw level moves with the qualified one
(log entry 14) and the count of a stopped timer (log entry 13) are the model's choice. -/
def Obligations.IndexStepCounted : Prop :=
  ∀ s : State, s.power = .running → s.calm = true →
    let x := s.idx
    let d := fun a => { s.diu with rawIndexStep := a, indexStep := a }
    let steps := { running := true, ticks := 0 : Timer }
    let ends := fun y : Indexer => ∃ t, exec (.indexStep true) s = .next t ∧
      ({ s with diu := d true, idx := y }).Ends t
    let faults := fun (y : Indexer) (c : IdxFault) => ∃ t, exec (.indexStep true) s = .next t ∧
      t.idx = { y with state := .fault, fault := some c, queue := x.queue.tail } ∧
      (x.stopMark = false → ∀ r, x.queue = [r] → (s.seq.get r.boom).state = .resinInsert →
        (s.seq.get r.boom).abortPending = false →
        t.seq = s.seq.set r.boom ((s.seq.get r.boom).haltedWith .burstFailed))
    let home := fun (y : Indexer) (n : Nat) =>
      let y := { y with position := some 0, homing := false }
      (n % x.slots.length = 0 ∨ s.valve.isFailed .index = false → ends (y.toward (s.live P.indexFlow) n)) ∧
      (n % x.slots.length ≠ 0 → s.valve.isFailed .index = true → faults y.unserved .indexFailed)
    let stops := fun y : Indexer => ∀ r, x.queue = [r] → (s.seq.get r.boom).state = .resinInsert →
      (s.seq.get r.boom).abortPending = true → s.mayRelease r.boom = true →
      ∃ t, exec (.indexStep true) s = .next t ∧ t.idx = { y with state := .idle, queue := [] } ∧
        t.seq = s.seq.set r.boom
          { s.releasedSeq r.boom .aborted (s.seq.get r.boom) with abortPending := false }
    exec (.indexStep false) s = .next { s with diu := d false } ∧
    (x.state = .idle ∨ x.state = .ejecting ∨ x.state = .starved ∨ x.state = .fault →
      ends { x with position := none }) ∧
    (x.state = .awaitReady →
      let y := { x with
        position := none, readyTimer := { x.readyTimer with running := false }, state := .positioning
        homing := true, homeCount := 0 }
      (s.diu.indexHome = false → s.valve.isFailed .index = false →
        ends { y with demand := s.live P.indexFlow, stepTimer := steps }) ∧
      (s.diu.indexHome = false → s.valve.isFailed .index = true → faults y.unserved .indexFailed) ∧
      (s.diu.indexHome = true → ∀ n, x.selected = some n → home y n)) ∧
    (x.state = .positioning → x.homing = false → ∀ p, x.position = some p →
      let p' := (p + 1) % x.slots.length
      let y := { x with position := some p', remaining := x.remaining - 1 }
      ((s.diu.indexHome = true ↔ p' = 0) → x.stopMark = false →
        (1 < x.remaining → ends { y with stepTimer := steps }) ∧
        (x.remaining ≤ 1 → ends { y with
          state := .awaitReady, demand := 0, stepTimer := { x.stepTimer with running := false }
          readyTimer := { running := false, ticks := 0 } })) ∧
      (¬ (s.diu.indexHome = true ↔ p' = 0) → faults y.unserved .homeMismatch) ∧
      ((s.diu.indexHome = true ↔ p' = 0) → x.stopMark = true → stops y.unserved)) ∧
    (x.state = .positioning → x.homing = true →
      let y := { x with homeCount := x.homeCount + 1 }
      (s.diu.indexHome = false → x.homeCount + 1 < x.slots.length → x.stopMark = false →
        ends { y with stepTimer := steps }) ∧
      (s.diu.indexHome = false → x.slots.length ≤ x.homeCount + 1 → faults y.unserved .homeNotFound) ∧
      (s.diu.indexHome = true → x.stopMark = false → ∀ n, x.selected = some n → home y n) ∧
      (s.diu.indexHome = true → x.stopMark = true → stops ({ y with position := some 0 }).unserved) ∧
      (s.diu.indexHome = false → x.homeCount + 1 < x.slots.length → x.stopMark = true →
        stops y.unserved))

/-- The Indexer's timers (R129, R132, R134, R137, R140), for a burst alone in the queue with no stop under way.
STEP_TIMEOUT: FAULT with that cause, the position as it stood. READY_WAIT: the burst ends READY_TIMEOUT, the
Indexer is IDLE and every slot stays as it is. Both take the request off the queue and halt a boom in
RESIN_INSERT with BURST_FAILED. PASS_TIMEOUT: the selected slot's failure count rises, and at 2 the slot is
JAMMED with its type kept and its number lost; no other slot changes (the case in which INDEX is not FAILED).
The count of a stopped timer is the model's choice (log entry 13). -/
def Obligations.MagazineTimersExpire : Prop :=
  ∀ (s : State) (r : Burst), s.power = .running → s.calm = true → s.idx.queue = [r] →
    s.idx.stopMark = false → (s.seq.get r.boom).state = .resinInsert →
    (s.seq.get r.boom).abortPending = false →
    (s.idx.state = .positioning → s.idx.stepTimer.running = true →
      ∃ t, exec .stepTimeout s = .next t ∧ s.Keeps t ∧ t.idx.state = .fault ∧ t.idx.fault = some .stepTimeout ∧
        t.idx.queue = [] ∧ t.idx.demand = 0 ∧ t.idx.position = s.idx.position ∧ t.idx.slots = s.idx.slots ∧
        t.idx.selected = none ∧ t.idx.stepTimer.running = false ∧
        t.seq = s.seq.set r.boom ((s.seq.get r.boom).haltedWith .burstFailed)) ∧
    (s.idx.state = .awaitReady → s.idx.readyTimer.running = true →
      ∃ t, exec .readyWaitTimeout s = .next t ∧ s.Keeps t ∧ t.idx.state = .idle ∧ t.idx.queue = [] ∧
        t.idx.position = s.idx.position ∧ t.idx.slots = s.idx.slots ∧ t.idx.selected = none ∧
        t.idx.readyTimer.running = false ∧
        t.seq = s.seq.set r.boom ((s.seq.get r.boom).haltedWith .burstFailed)) ∧
    (s.idx.state = .ejecting → s.idx.passTimer.running = true → s.valve.isFailed .index = false →
      ∀ n x, s.idx.selected = some n → s.idx.slots[n]? = some x →
      ∃ t, exec .passTimeout s = .next t ∧ s.Keeps t ∧ t.idx.slots = s.idx.slots.set n
          (if x.fails = 0 then { x with fails := 1 }
           else { x with state := .jammed, seq := none, fails := 2 }) ∧
        t.idx.queue = [r] ∧ t.store = s.store ∧ t.seq = s.seq)

/-! ## Records and bits -/

/-- The number the Hole Store gives a hole (R191): when at most seven holes are open or queued, it is a number
none of them holds, and every number from the counter up to it is held. -/
def Obligations.HoleNumberIsFree : Prop :=
  ∀ s : State, s.store.numbers.length ≤ 7 → 1 ≤ s.store.counter → s.store.counter ≤ 65535 →
    s.nextHole ∉ s.store.numbers ∧ 1 ≤ s.nextHole ∧ s.nextHole ≤ 65535 ∧
    ∃ k ≤ 7, s.nextHole = (s.store.counter - 1 + k) % 65535 + 1 ∧
      ∀ j < k, (s.store.counter - 1 + j) % 65535 + 1 ∈ s.store.numbers

/-- A hole that closes (R194, R199): its record leaves the open slot and joins the tail of the Completed Hole
Queue with the outcome of the closing outcome, the plan's flags, the verdict and PROFILE_FULL, the halt reason
for FAULTED alone, and every other field as it was; its bit's hole count rises by one, and the bit is RETIRED
exactly when its wear reaches the limit. -/
def Obligations.ClosedHoleJoinsTheQueue : Prop :=
  ∀ (s : State) (b : Boom) (c : Closing) (why : Option HaltReason) (r : HoleRecord) (p : BitPos),
    s.rec? b = some r → s.bits[r.bitPos]? = some p →
    let flagged := r.profileFull = true ∨
      ∃ x, r.plan = some x ∧ (x.flags.anchorWeak = true ∨ x.flags.shortResin = true)
    let okVerdict := ∃ x, r.torque = some x ∧ x.verdict = some .ok
    let out := match c with
      | .verdict => if okVerdict ∧ ¬ flagged then HoleOutcome.complete else .completeFlagged
      | .aborted => .aborted
      | .faulted => .faulted
    let t := s.closeRecord b (some c) why
    t.store.queue = s.store.queue ++
      [{ r with outcome := some out, haltReason := if c = .faulted then why else none }] ∧
    t.store.opened = s.store.opened.set b none ∧ t.store.counter = s.store.counter ∧
    t.bits = s.bits.set r.bitPos { p with
      holes := min 65535 (p.holes + 1)
      state := if s.live P.bitWearLimit * 1000000 ≤ p.wear then .retired else p.state } ∧
    t.seq = s.seq ∧ t.idx = s.idx ∧ t.arb = s.arb ∧ t.valve = s.valve

/-- RELEASE_HOLE (R196): a queued number leaves the queue, the other records keep their order, and the reply
carries how many are left; any other number, an open hole's among them, is refused with NO_SUCH_HOLE. -/
def Obligations.ReleaseHoleFreesItsPlace : Prop :=
  ∀ (tag : Byte) (body : List Byte) (s : State), s.ready = true → body.length = 2 →
    let n := numAt body 0 2
    let rest := s.store.queue.filter fun r => r.number ≠ n
    ((∃ r ∈ s.store.queue, r.number = n) →
      exec (.releaseHole tag body) s = .next (({ s with store := { s.store with queue := rest } }).reply
        0x39 tag .ok (u8 rest.length))) ∧
    ((∀ r ∈ s.store.queue, r.number ≠ n) →
      exec (.releaseHole tag body) s = .next (s.reply 0x39 tag .noSuchHole []))

/-- BIT_FITTED (R200): the checks in their order, each refusal without a change; taken, the boom's previous bit
is RETIRED when its wear reaches the limit and SERVICEABLE otherwise, with its wear, hole count and WORN flag
kept, and the named position is FITTED to the boom; the reply carries it and the previous position with its new
state, or the absence of one; the bytes of the reply and the state's code are the model's (log entry 8). -/
def Obligations.BitFittedSwapsTheBits : Prop :=
  ∀ (tag : Byte) (body : List Byte) (s : State), s.ready = true → body.length = 2 → s.bits.length = 8 →
    let p := byteAt body 1
    (s.boomAt body 0 = none → exec (.bitFitted tag body) s = .next (s.reply 0x3B tag .noSuchBoom [])) ∧
    (∀ b, s.boomAt body 0 = some b →
      let free := (s.seq.get b).state = .idle ∨ (s.seq.get b).state = .manual
      (7 < p → exec (.bitFitted tag body) s = .next (s.reply 0x3B tag .range [])) ∧
      (p ≤ 7 → ¬ free ∨ (s.bitAt p).state ≠ .serviceable →
        exec (.bitFitted tag body) s = .next (s.reply 0x3B tag .state [])) ∧
      (p ≤ 7 → free → (s.bitAt p).state = .serviceable →
        let off := fun k : Nat => { s.bitAt k with
          state := if s.live P.bitWearLimit * 1000000 ≤ (s.bitAt k).wear then BitState.retired
                   else .serviceable }
        let old := match s.fittedPos b with
          | some k => s.bits.set k (off k)
          | none => s.bits
        let new := old.set p { s.bitAt p with state := .fitted b }
        let prev := match s.fittedPos b with
          | some k => u8 1 ++ u8 k ++ u8 (off k).state.code
          | none => u8 0
        exec (.bitFitted tag body) s = .next (({ s with bits := new }).reply 0x3B tag .ok (u8 p ++ prev))))

/-- REPLACE_BIT (R201): RANGE above 7, STATE for a FITTED position, and otherwise the position is SERVICEABLE
with wear 0, hole count 0 and WORN clear, whatever the booms are doing; nothing else changes. -/
def Obligations.ReplaceBitRenewsThePosition : Prop :=
  ∀ (tag : Byte) (body : List Byte) (s : State), s.ready = true → body.length = 1 → s.bits.length = 8 →
    let p := byteAt body 0
    (7 < p → exec (.replaceBit tag body) s = .next (s.reply 0x3C tag .range [])) ∧
    (p ≤ 7 → (∃ b, (s.bitAt p).state = .fitted b) →
      exec (.replaceBit tag body) s = .next (s.reply 0x3C tag .state [])) ∧
    (p ≤ 7 → (s.bitAt p).state = .empty ∨ (s.bitAt p).state = .serviceable ∨ (s.bitAt p).state = .retired →
      exec (.replaceBit tag body) s = .next (({ s with
        bits := s.bits.set p { state := .serviceable, wear := 0, holes := 0, worn := false } }).reply
          0x3C tag .ok []))

/-! ## Invariants of every step -/

/-- Every step keeps the queues of the Link Port within 4 inbound frames, 4 replies and 12 reports
(R204, R206). -/
def Obligations.QueuesStayBounded : Prop :=
  ∀ s t : State, s.QueuesBounded → step s = .next t → t.QueuesBounded

/-- Every step keeps every channel at duty 0 while the E-stop state is asserted (R162). -/
def Obligations.StopHoldsEveryDuty : Prop :=
  ∀ s t : State, s.StopHeld → step s = .next t → t.StopHeld

/-- Every step keeps the twenty channels and the sixteen routes, the settings of every channel in their ranges
and its duty at 0 or between the channel's dmin and dmax, which is at most 1,000 (R160 to R162). -/
def Obligations.DutiesStayInRange : Prop :=
  ∀ s t : State, s.DutiesGood → step s = .next t → t.DutiesGood

/-- Every step keeps the live parameters in their ranges and the three groups in their order (R210, R211). -/
def Obligations.ParametersStayOrdered : Prop :=
  ∀ s t : State, ParamsOrdered s.params → step s = .next t → ParamsOrdered t.params

/-- Every step keeps the eight bit positions and at most eight records, open and queued together, with pairwise
distinct hole numbers from 1 to 65,535 (R191). -/
def Obligations.HoleNumbersStayDistinct : Prop :=
  ∀ s t : State, s.RecordsBounded ∧ s.NumbersDistinct → step s = .next t →
    t.RecordsBounded ∧ t.NumbersDistinct

/-- Every step keeps a return phase exactly at the PAUSED Sequencers, and always an automatic phase (R1). -/
def Obligations.ReturnPhaseExactlyWhilePaused : Prop :=
  ∀ s t : State, s.PausesMarked → step s = .next t → t.PausesMarked
end

