-- ==== Sys2Proof/Laws/State.lean ====
section
/-! SUPPORT. One lemma for each field under each update of the state (R212 names the blocks), and the laws
of the two booms' members. -/

namespace Sys2Proof.Machine

/-! ### The members of the two booms -/

@[simp] theorem PerBoom.get_set_same {α : Type} (p : PerBoom α) (x : Boom) (v : α) :
    (p.set x v).get x = v := by cases x <;> rfl

theorem PerBoom.get_set_ne {α : Type} (p : PerBoom α) {x y : Boom} (h : y ≠ x) (v : α) :
    (p.set x v).get y = p.get y := by cases x <;> cases y <;> first | rfl | exact absurd rfl h

@[simp] theorem PerBoom.set_get {α : Type} (p : PerBoom α) (x : Boom) : p.set x (p.get x) = p := by
  cases x <;> rfl

@[simp] theorem PerBoom.set_set {α : Type} (p : PerBoom α) (x : Boom) (v w : α) :
    (p.set x v).set x w = p.set x w := by cases x <;> rfl

/-! ### modLink -/

@[simp] theorem State.modLink_pending (s : State) (f : Link → Link) : (s.modLink f).pending = s.pending := rfl
@[simp] theorem State.modLink_power (s : State) (f : Link → Link) : (s.modLink f).power = s.power := rfl
@[simp] theorem State.modLink_startTimer (s : State) (f : Link → Link) : (s.modLink f).startTimer = s.startTimer := rfl
@[simp] theorem State.modLink_resetCause (s : State) (f : Link → Link) : (s.modLink f).resetCause = s.resetCause := rfl
@[simp] theorem State.modLink_straps (s : State) (f : Link → Link) : (s.modLink f).straps = s.straps := rfl
@[simp] theorem State.modLink_params (s : State) (f : Link → Link) : (s.modLink f).params = s.params := rfl
@[simp] theorem State.modLink_link (s : State) (f : Link → Link) :
    (s.modLink f).link = f s.link := rfl
@[simp] theorem State.modLink_seq (s : State) (f : Link → Link) : (s.modLink f).seq = s.seq := rfl
@[simp] theorem State.modLink_prof (s : State) (f : Link → Link) : (s.modLink f).prof = s.prof := rfl
@[simp] theorem State.modLink_gov (s : State) (f : Link → Link) : (s.modLink f).gov = s.gov := rfl
@[simp] theorem State.modLink_sett (s : State) (f : Link → Link) : (s.modLink f).sett = s.sett := rfl
@[simp] theorem State.modLink_bands (s : State) (f : Link → Link) : (s.modLink f).bands = s.bands := rfl
@[simp] theorem State.modLink_idx (s : State) (f : Link → Link) : (s.modLink f).idx = s.idx := rfl
@[simp] theorem State.modLink_indexJog (s : State) (f : Link → Link) : (s.modLink f).indexJog = s.indexJog := rfl
@[simp] theorem State.modLink_arb (s : State) (f : Link → Link) : (s.modLink f).arb = s.arb := rfl
@[simp] theorem State.modLink_valve (s : State) (f : Link → Link) : (s.modLink f).valve = s.valve := rfl
@[simp] theorem State.modLink_head (s : State) (f : Link → Link) : (s.modLink f).head = s.head := rfl
@[simp] theorem State.modLink_diu (s : State) (f : Link → Link) : (s.modLink f).diu = s.diu := rfl
@[simp] theorem State.modLink_rot (s : State) (f : Link → Link) : (s.modLink f).rot = s.rot := rfl
@[simp] theorem State.modLink_store (s : State) (f : Link → Link) : (s.modLink f).store = s.store := rfl
@[simp] theorem State.modLink_bits (s : State) (f : Link → Link) : (s.modLink f).bits = s.bits := rfl
@[simp] theorem State.modLink_tram (s : State) (f : Link → Link) : (s.modLink f).tram = s.tram := rfl
@[simp] theorem State.modLink_freeCount (s : State) (f : Link → Link) : (s.modLink f).freeCount = s.freeCount := rfl

/-! ### modSeq -/

@[simp] theorem State.modSeq_pending (s : State) (b : Boom) (f : Sequencer → Sequencer) : (s.modSeq b f).pending = s.pending := rfl
@[simp] theorem State.modSeq_power (s : State) (b : Boom) (f : Sequencer → Sequencer) : (s.modSeq b f).power = s.power := rfl
@[simp] theorem State.modSeq_startTimer (s : State) (b : Boom) (f : Sequencer → Sequencer) : (s.modSeq b f).startTimer = s.startTimer := rfl
@[simp] theorem State.modSeq_resetCause (s : State) (b : Boom) (f : Sequencer → Sequencer) : (s.modSeq b f).resetCause = s.resetCause := rfl
@[simp] theorem State.modSeq_straps (s : State) (b : Boom) (f : Sequencer → Sequencer) : (s.modSeq b f).straps = s.straps := rfl
@[simp] theorem State.modSeq_params (s : State) (b : Boom) (f : Sequencer → Sequencer) : (s.modSeq b f).params = s.params := rfl
@[simp] theorem State.modSeq_link (s : State) (b : Boom) (f : Sequencer → Sequencer) : (s.modSeq b f).link = s.link := rfl
@[simp] theorem State.modSeq_seq (s : State) (b : Boom) (f : Sequencer → Sequencer) :
    (s.modSeq b f).seq = s.seq.set b (f (s.seq.get b)) := rfl
@[simp] theorem State.modSeq_prof (s : State) (b : Boom) (f : Sequencer → Sequencer) : (s.modSeq b f).prof = s.prof := rfl
@[simp] theorem State.modSeq_gov (s : State) (b : Boom) (f : Sequencer → Sequencer) : (s.modSeq b f).gov = s.gov := rfl
@[simp] theorem State.modSeq_sett (s : State) (b : Boom) (f : Sequencer → Sequencer) : (s.modSeq b f).sett = s.sett := rfl
@[simp] theorem State.modSeq_bands (s : State) (b : Boom) (f : Sequencer → Sequencer) : (s.modSeq b f).bands = s.bands := rfl
@[simp] theorem State.modSeq_idx (s : State) (b : Boom) (f : Sequencer → Sequencer) : (s.modSeq b f).idx = s.idx := rfl
@[simp] theorem State.modSeq_indexJog (s : State) (b : Boom) (f : Sequencer → Sequencer) : (s.modSeq b f).indexJog = s.indexJog := rfl
@[simp] theorem State.modSeq_arb (s : State) (b : Boom) (f : Sequencer → Sequencer) : (s.modSeq b f).arb = s.arb := rfl
@[simp] theorem State.modSeq_valve (s : State) (b : Boom) (f : Sequencer → Sequencer) : (s.modSeq b f).valve = s.valve := rfl
@[simp] theorem State.modSeq_head (s : State) (b : Boom) (f : Sequencer → Sequencer) : (s.modSeq b f).head = s.head := rfl
@[simp] theorem State.modSeq_diu (s : State) (b : Boom) (f : Sequencer → Sequencer) : (s.modSeq b f).diu = s.diu := rfl
@[simp] theorem State.modSeq_rot (s : State) (b : Boom) (f : Sequencer → Sequencer) : (s.modSeq b f).rot = s.rot := rfl
@[simp] theorem State.modSeq_store (s : State) (b : Boom) (f : Sequencer → Sequencer) : (s.modSeq b f).store = s.store := rfl
@[simp] theorem State.modSeq_bits (s : State) (b : Boom) (f : Sequencer → Sequencer) : (s.modSeq b f).bits = s.bits := rfl
@[simp] theorem State.modSeq_tram (s : State) (b : Boom) (f : Sequencer → Sequencer) : (s.modSeq b f).tram = s.tram := rfl
@[simp] theorem State.modSeq_freeCount (s : State) (b : Boom) (f : Sequencer → Sequencer) : (s.modSeq b f).freeCount = s.freeCount := rfl

/-! ### modProf -/

@[simp] theorem State.modProf_pending (s : State) (b : Boom) (f : Profiler → Profiler) : (s.modProf b f).pending = s.pending := rfl
@[simp] theorem State.modProf_power (s : State) (b : Boom) (f : Profiler → Profiler) : (s.modProf b f).power = s.power := rfl
@[simp] theorem State.modProf_startTimer (s : State) (b : Boom) (f : Profiler → Profiler) : (s.modProf b f).startTimer = s.startTimer := rfl
@[simp] theorem State.modProf_resetCause (s : State) (b : Boom) (f : Profiler → Profiler) : (s.modProf b f).resetCause = s.resetCause := rfl
@[simp] theorem State.modProf_straps (s : State) (b : Boom) (f : Profiler → Profiler) : (s.modProf b f).straps = s.straps := rfl
@[simp] theorem State.modProf_params (s : State) (b : Boom) (f : Profiler → Profiler) : (s.modProf b f).params = s.params := rfl
@[simp] theorem State.modProf_link (s : State) (b : Boom) (f : Profiler → Profiler) : (s.modProf b f).link = s.link := rfl
@[simp] theorem State.modProf_seq (s : State) (b : Boom) (f : Profiler → Profiler) : (s.modProf b f).seq = s.seq := rfl
@[simp] theorem State.modProf_prof (s : State) (b : Boom) (f : Profiler → Profiler) :
    (s.modProf b f).prof = s.prof.set b (f (s.prof.get b)) := rfl
@[simp] theorem State.modProf_gov (s : State) (b : Boom) (f : Profiler → Profiler) : (s.modProf b f).gov = s.gov := rfl
@[simp] theorem State.modProf_sett (s : State) (b : Boom) (f : Profiler → Profiler) : (s.modProf b f).sett = s.sett := rfl
@[simp] theorem State.modProf_bands (s : State) (b : Boom) (f : Profiler → Profiler) : (s.modProf b f).bands = s.bands := rfl
@[simp] theorem State.modProf_idx (s : State) (b : Boom) (f : Profiler → Profiler) : (s.modProf b f).idx = s.idx := rfl
@[simp] theorem State.modProf_indexJog (s : State) (b : Boom) (f : Profiler → Profiler) : (s.modProf b f).indexJog = s.indexJog := rfl
@[simp] theorem State.modProf_arb (s : State) (b : Boom) (f : Profiler → Profiler) : (s.modProf b f).arb = s.arb := rfl
@[simp] theorem State.modProf_valve (s : State) (b : Boom) (f : Profiler → Profiler) : (s.modProf b f).valve = s.valve := rfl
@[simp] theorem State.modProf_head (s : State) (b : Boom) (f : Profiler → Profiler) : (s.modProf b f).head = s.head := rfl
@[simp] theorem State.modProf_diu (s : State) (b : Boom) (f : Profiler → Profiler) : (s.modProf b f).diu = s.diu := rfl
@[simp] theorem State.modProf_rot (s : State) (b : Boom) (f : Profiler → Profiler) : (s.modProf b f).rot = s.rot := rfl
@[simp] theorem State.modProf_store (s : State) (b : Boom) (f : Profiler → Profiler) : (s.modProf b f).store = s.store := rfl
@[simp] theorem State.modProf_bits (s : State) (b : Boom) (f : Profiler → Profiler) : (s.modProf b f).bits = s.bits := rfl
@[simp] theorem State.modProf_tram (s : State) (b : Boom) (f : Profiler → Profiler) : (s.modProf b f).tram = s.tram := rfl
@[simp] theorem State.modProf_freeCount (s : State) (b : Boom) (f : Profiler → Profiler) : (s.modProf b f).freeCount = s.freeCount := rfl

/-! ### modGov -/

@[simp] theorem State.modGov_pending (s : State) (b : Boom) (f : Governor → Governor) : (s.modGov b f).pending = s.pending := rfl
@[simp] theorem State.modGov_power (s : State) (b : Boom) (f : Governor → Governor) : (s.modGov b f).power = s.power := rfl
@[simp] theorem State.modGov_startTimer (s : State) (b : Boom) (f : Governor → Governor) : (s.modGov b f).startTimer = s.startTimer := rfl
@[simp] theorem State.modGov_resetCause (s : State) (b : Boom) (f : Governor → Governor) : (s.modGov b f).resetCause = s.resetCause := rfl
@[simp] theorem State.modGov_straps (s : State) (b : Boom) (f : Governor → Governor) : (s.modGov b f).straps = s.straps := rfl
@[simp] theorem State.modGov_params (s : State) (b : Boom) (f : Governor → Governor) : (s.modGov b f).params = s.params := rfl
@[simp] theorem State.modGov_link (s : State) (b : Boom) (f : Governor → Governor) : (s.modGov b f).link = s.link := rfl
@[simp] theorem State.modGov_seq (s : State) (b : Boom) (f : Governor → Governor) : (s.modGov b f).seq = s.seq := rfl
@[simp] theorem State.modGov_prof (s : State) (b : Boom) (f : Governor → Governor) : (s.modGov b f).prof = s.prof := rfl
@[simp] theorem State.modGov_gov (s : State) (b : Boom) (f : Governor → Governor) :
    (s.modGov b f).gov = s.gov.set b (f (s.gov.get b)) := rfl
@[simp] theorem State.modGov_sett (s : State) (b : Boom) (f : Governor → Governor) : (s.modGov b f).sett = s.sett := rfl
@[simp] theorem State.modGov_bands (s : State) (b : Boom) (f : Governor → Governor) : (s.modGov b f).bands = s.bands := rfl
@[simp] theorem State.modGov_idx (s : State) (b : Boom) (f : Governor → Governor) : (s.modGov b f).idx = s.idx := rfl
@[simp] theorem State.modGov_indexJog (s : State) (b : Boom) (f : Governor → Governor) : (s.modGov b f).indexJog = s.indexJog := rfl
@[simp] theorem State.modGov_arb (s : State) (b : Boom) (f : Governor → Governor) : (s.modGov b f).arb = s.arb := rfl
@[simp] theorem State.modGov_valve (s : State) (b : Boom) (f : Governor → Governor) : (s.modGov b f).valve = s.valve := rfl
@[simp] theorem State.modGov_head (s : State) (b : Boom) (f : Governor → Governor) : (s.modGov b f).head = s.head := rfl
@[simp] theorem State.modGov_diu (s : State) (b : Boom) (f : Governor → Governor) : (s.modGov b f).diu = s.diu := rfl
@[simp] theorem State.modGov_rot (s : State) (b : Boom) (f : Governor → Governor) : (s.modGov b f).rot = s.rot := rfl
@[simp] theorem State.modGov_store (s : State) (b : Boom) (f : Governor → Governor) : (s.modGov b f).store = s.store := rfl
@[simp] theorem State.modGov_bits (s : State) (b : Boom) (f : Governor → Governor) : (s.modGov b f).bits = s.bits := rfl
@[simp] theorem State.modGov_tram (s : State) (b : Boom) (f : Governor → Governor) : (s.modGov b f).tram = s.tram := rfl
@[simp] theorem State.modGov_freeCount (s : State) (b : Boom) (f : Governor → Governor) : (s.modGov b f).freeCount = s.freeCount := rfl

/-! ### modSett -/

@[simp] theorem State.modSett_pending (s : State) (b : Boom) (f : Setting → Setting) : (s.modSett b f).pending = s.pending := rfl
@[simp] theorem State.modSett_power (s : State) (b : Boom) (f : Setting → Setting) : (s.modSett b f).power = s.power := rfl
@[simp] theorem State.modSett_startTimer (s : State) (b : Boom) (f : Setting → Setting) : (s.modSett b f).startTimer = s.startTimer := rfl
@[simp] theorem State.modSett_resetCause (s : State) (b : Boom) (f : Setting → Setting) : (s.modSett b f).resetCause = s.resetCause := rfl
@[simp] theorem State.modSett_straps (s : State) (b : Boom) (f : Setting → Setting) : (s.modSett b f).straps = s.straps := rfl
@[simp] theorem State.modSett_params (s : State) (b : Boom) (f : Setting → Setting) : (s.modSett b f).params = s.params := rfl
@[simp] theorem State.modSett_link (s : State) (b : Boom) (f : Setting → Setting) : (s.modSett b f).link = s.link := rfl
@[simp] theorem State.modSett_seq (s : State) (b : Boom) (f : Setting → Setting) : (s.modSett b f).seq = s.seq := rfl
@[simp] theorem State.modSett_prof (s : State) (b : Boom) (f : Setting → Setting) : (s.modSett b f).prof = s.prof := rfl
@[simp] theorem State.modSett_gov (s : State) (b : Boom) (f : Setting → Setting) : (s.modSett b f).gov = s.gov := rfl
@[simp] theorem State.modSett_sett (s : State) (b : Boom) (f : Setting → Setting) :
    (s.modSett b f).sett = s.sett.set b (f (s.sett.get b)) := rfl
@[simp] theorem State.modSett_bands (s : State) (b : Boom) (f : Setting → Setting) : (s.modSett b f).bands = s.bands := rfl
@[simp] theorem State.modSett_idx (s : State) (b : Boom) (f : Setting → Setting) : (s.modSett b f).idx = s.idx := rfl
@[simp] theorem State.modSett_indexJog (s : State) (b : Boom) (f : Setting → Setting) : (s.modSett b f).indexJog = s.indexJog := rfl
@[simp] theorem State.modSett_arb (s : State) (b : Boom) (f : Setting → Setting) : (s.modSett b f).arb = s.arb := rfl
@[simp] theorem State.modSett_valve (s : State) (b : Boom) (f : Setting → Setting) : (s.modSett b f).valve = s.valve := rfl
@[simp] theorem State.modSett_head (s : State) (b : Boom) (f : Setting → Setting) : (s.modSett b f).head = s.head := rfl
@[simp] theorem State.modSett_diu (s : State) (b : Boom) (f : Setting → Setting) : (s.modSett b f).diu = s.diu := rfl
@[simp] theorem State.modSett_rot (s : State) (b : Boom) (f : Setting → Setting) : (s.modSett b f).rot = s.rot := rfl
@[simp] theorem State.modSett_store (s : State) (b : Boom) (f : Setting → Setting) : (s.modSett b f).store = s.store := rfl
@[simp] theorem State.modSett_bits (s : State) (b : Boom) (f : Setting → Setting) : (s.modSett b f).bits = s.bits := rfl
@[simp] theorem State.modSett_tram (s : State) (b : Boom) (f : Setting → Setting) : (s.modSett b f).tram = s.tram := rfl
@[simp] theorem State.modSett_freeCount (s : State) (b : Boom) (f : Setting → Setting) : (s.modSett b f).freeCount = s.freeCount := rfl

/-! ### modIdx -/

@[simp] theorem State.modIdx_pending (s : State) (f : Indexer → Indexer) : (s.modIdx f).pending = s.pending := rfl
@[simp] theorem State.modIdx_power (s : State) (f : Indexer → Indexer) : (s.modIdx f).power = s.power := rfl
@[simp] theorem State.modIdx_startTimer (s : State) (f : Indexer → Indexer) : (s.modIdx f).startTimer = s.startTimer := rfl
@[simp] theorem State.modIdx_resetCause (s : State) (f : Indexer → Indexer) : (s.modIdx f).resetCause = s.resetCause := rfl
@[simp] theorem State.modIdx_straps (s : State) (f : Indexer → Indexer) : (s.modIdx f).straps = s.straps := rfl
@[simp] theorem State.modIdx_params (s : State) (f : Indexer → Indexer) : (s.modIdx f).params = s.params := rfl
@[simp] theorem State.modIdx_link (s : State) (f : Indexer → Indexer) : (s.modIdx f).link = s.link := rfl
@[simp] theorem State.modIdx_seq (s : State) (f : Indexer → Indexer) : (s.modIdx f).seq = s.seq := rfl
@[simp] theorem State.modIdx_prof (s : State) (f : Indexer → Indexer) : (s.modIdx f).prof = s.prof := rfl
@[simp] theorem State.modIdx_gov (s : State) (f : Indexer → Indexer) : (s.modIdx f).gov = s.gov := rfl
@[simp] theorem State.modIdx_sett (s : State) (f : Indexer → Indexer) : (s.modIdx f).sett = s.sett := rfl
@[simp] theorem State.modIdx_bands (s : State) (f : Indexer → Indexer) : (s.modIdx f).bands = s.bands := rfl
@[simp] theorem State.modIdx_idx (s : State) (f : Indexer → Indexer) :
    (s.modIdx f).idx = f s.idx := rfl
@[simp] theorem State.modIdx_indexJog (s : State) (f : Indexer → Indexer) : (s.modIdx f).indexJog = s.indexJog := rfl
@[simp] theorem State.modIdx_arb (s : State) (f : Indexer → Indexer) : (s.modIdx f).arb = s.arb := rfl
@[simp] theorem State.modIdx_valve (s : State) (f : Indexer → Indexer) : (s.modIdx f).valve = s.valve := rfl
@[simp] theorem State.modIdx_head (s : State) (f : Indexer → Indexer) : (s.modIdx f).head = s.head := rfl
@[simp] theorem State.modIdx_diu (s : State) (f : Indexer → Indexer) : (s.modIdx f).diu = s.diu := rfl
@[simp] theorem State.modIdx_rot (s : State) (f : Indexer → Indexer) : (s.modIdx f).rot = s.rot := rfl
@[simp] theorem State.modIdx_store (s : State) (f : Indexer → Indexer) : (s.modIdx f).store = s.store := rfl
@[simp] theorem State.modIdx_bits (s : State) (f : Indexer → Indexer) : (s.modIdx f).bits = s.bits := rfl
@[simp] theorem State.modIdx_tram (s : State) (f : Indexer → Indexer) : (s.modIdx f).tram = s.tram := rfl
@[simp] theorem State.modIdx_freeCount (s : State) (f : Indexer → Indexer) : (s.modIdx f).freeCount = s.freeCount := rfl

/-! ### modArb -/

@[simp] theorem State.modArb_pending (s : State) (f : Arbiter → Arbiter) : (s.modArb f).pending = s.pending := rfl
@[simp] theorem State.modArb_power (s : State) (f : Arbiter → Arbiter) : (s.modArb f).power = s.power := rfl
@[simp] theorem State.modArb_startTimer (s : State) (f : Arbiter → Arbiter) : (s.modArb f).startTimer = s.startTimer := rfl
@[simp] theorem State.modArb_resetCause (s : State) (f : Arbiter → Arbiter) : (s.modArb f).resetCause = s.resetCause := rfl
@[simp] theorem State.modArb_straps (s : State) (f : Arbiter → Arbiter) : (s.modArb f).straps = s.straps := rfl
@[simp] theorem State.modArb_params (s : State) (f : Arbiter → Arbiter) : (s.modArb f).params = s.params := rfl
@[simp] theorem State.modArb_link (s : State) (f : Arbiter → Arbiter) : (s.modArb f).link = s.link := rfl
@[simp] theorem State.modArb_seq (s : State) (f : Arbiter → Arbiter) : (s.modArb f).seq = s.seq := rfl
@[simp] theorem State.modArb_prof (s : State) (f : Arbiter → Arbiter) : (s.modArb f).prof = s.prof := rfl
@[simp] theorem State.modArb_gov (s : State) (f : Arbiter → Arbiter) : (s.modArb f).gov = s.gov := rfl
@[simp] theorem State.modArb_sett (s : State) (f : Arbiter → Arbiter) : (s.modArb f).sett = s.sett := rfl
@[simp] theorem State.modArb_bands (s : State) (f : Arbiter → Arbiter) : (s.modArb f).bands = s.bands := rfl
@[simp] theorem State.modArb_idx (s : State) (f : Arbiter → Arbiter) : (s.modArb f).idx = s.idx := rfl
@[simp] theorem State.modArb_indexJog (s : State) (f : Arbiter → Arbiter) : (s.modArb f).indexJog = s.indexJog := rfl
@[simp] theorem State.modArb_arb (s : State) (f : Arbiter → Arbiter) :
    (s.modArb f).arb = f s.arb := rfl
@[simp] theorem State.modArb_valve (s : State) (f : Arbiter → Arbiter) : (s.modArb f).valve = s.valve := rfl
@[simp] theorem State.modArb_head (s : State) (f : Arbiter → Arbiter) : (s.modArb f).head = s.head := rfl
@[simp] theorem State.modArb_diu (s : State) (f : Arbiter → Arbiter) : (s.modArb f).diu = s.diu := rfl
@[simp] theorem State.modArb_rot (s : State) (f : Arbiter → Arbiter) : (s.modArb f).rot = s.rot := rfl
@[simp] theorem State.modArb_store (s : State) (f : Arbiter → Arbiter) : (s.modArb f).store = s.store := rfl
@[simp] theorem State.modArb_bits (s : State) (f : Arbiter → Arbiter) : (s.modArb f).bits = s.bits := rfl
@[simp] theorem State.modArb_tram (s : State) (f : Arbiter → Arbiter) : (s.modArb f).tram = s.tram := rfl
@[simp] theorem State.modArb_freeCount (s : State) (f : Arbiter → Arbiter) : (s.modArb f).freeCount = s.freeCount := rfl

/-! ### modValve -/

@[simp] theorem State.modValve_pending (s : State) (f : Valve → Valve) : (s.modValve f).pending = s.pending := rfl
@[simp] theorem State.modValve_power (s : State) (f : Valve → Valve) : (s.modValve f).power = s.power := rfl
@[simp] theorem State.modValve_startTimer (s : State) (f : Valve → Valve) : (s.modValve f).startTimer = s.startTimer := rfl
@[simp] theorem State.modValve_resetCause (s : State) (f : Valve → Valve) : (s.modValve f).resetCause = s.resetCause := rfl
@[simp] theorem State.modValve_straps (s : State) (f : Valve → Valve) : (s.modValve f).straps = s.straps := rfl
@[simp] theorem State.modValve_params (s : State) (f : Valve → Valve) : (s.modValve f).params = s.params := rfl
@[simp] theorem State.modValve_link (s : State) (f : Valve → Valve) : (s.modValve f).link = s.link := rfl
@[simp] theorem State.modValve_seq (s : State) (f : Valve → Valve) : (s.modValve f).seq = s.seq := rfl
@[simp] theorem State.modValve_prof (s : State) (f : Valve → Valve) : (s.modValve f).prof = s.prof := rfl
@[simp] theorem State.modValve_gov (s : State) (f : Valve → Valve) : (s.modValve f).gov = s.gov := rfl
@[simp] theorem State.modValve_sett (s : State) (f : Valve → Valve) : (s.modValve f).sett = s.sett := rfl
@[simp] theorem State.modValve_bands (s : State) (f : Valve → Valve) : (s.modValve f).bands = s.bands := rfl
@[simp] theorem State.modValve_idx (s : State) (f : Valve → Valve) : (s.modValve f).idx = s.idx := rfl
@[simp] theorem State.modValve_indexJog (s : State) (f : Valve → Valve) : (s.modValve f).indexJog = s.indexJog := rfl
@[simp] theorem State.modValve_arb (s : State) (f : Valve → Valve) : (s.modValve f).arb = s.arb := rfl
@[simp] theorem State.modValve_valve (s : State) (f : Valve → Valve) :
    (s.modValve f).valve = f s.valve := rfl
@[simp] theorem State.modValve_head (s : State) (f : Valve → Valve) : (s.modValve f).head = s.head := rfl
@[simp] theorem State.modValve_diu (s : State) (f : Valve → Valve) : (s.modValve f).diu = s.diu := rfl
@[simp] theorem State.modValve_rot (s : State) (f : Valve → Valve) : (s.modValve f).rot = s.rot := rfl
@[simp] theorem State.modValve_store (s : State) (f : Valve → Valve) : (s.modValve f).store = s.store := rfl
@[simp] theorem State.modValve_bits (s : State) (f : Valve → Valve) : (s.modValve f).bits = s.bits := rfl
@[simp] theorem State.modValve_tram (s : State) (f : Valve → Valve) : (s.modValve f).tram = s.tram := rfl
@[simp] theorem State.modValve_freeCount (s : State) (f : Valve → Valve) : (s.modValve f).freeCount = s.freeCount := rfl

/-! ### modHead -/

@[simp] theorem State.modHead_pending (s : State) (b : Boom) (f : Head → Head) : (s.modHead b f).pending = s.pending := rfl
@[simp] theorem State.modHead_power (s : State) (b : Boom) (f : Head → Head) : (s.modHead b f).power = s.power := rfl
@[simp] theorem State.modHead_startTimer (s : State) (b : Boom) (f : Head → Head) : (s.modHead b f).startTimer = s.startTimer := rfl
@[simp] theorem State.modHead_resetCause (s : State) (b : Boom) (f : Head → Head) : (s.modHead b f).resetCause = s.resetCause := rfl
@[simp] theorem State.modHead_straps (s : State) (b : Boom) (f : Head → Head) : (s.modHead b f).straps = s.straps := rfl
@[simp] theorem State.modHead_params (s : State) (b : Boom) (f : Head → Head) : (s.modHead b f).params = s.params := rfl
@[simp] theorem State.modHead_link (s : State) (b : Boom) (f : Head → Head) : (s.modHead b f).link = s.link := rfl
@[simp] theorem State.modHead_seq (s : State) (b : Boom) (f : Head → Head) : (s.modHead b f).seq = s.seq := rfl
@[simp] theorem State.modHead_prof (s : State) (b : Boom) (f : Head → Head) : (s.modHead b f).prof = s.prof := rfl
@[simp] theorem State.modHead_gov (s : State) (b : Boom) (f : Head → Head) : (s.modHead b f).gov = s.gov := rfl
@[simp] theorem State.modHead_sett (s : State) (b : Boom) (f : Head → Head) : (s.modHead b f).sett = s.sett := rfl
@[simp] theorem State.modHead_bands (s : State) (b : Boom) (f : Head → Head) : (s.modHead b f).bands = s.bands := rfl
@[simp] theorem State.modHead_idx (s : State) (b : Boom) (f : Head → Head) : (s.modHead b f).idx = s.idx := rfl
@[simp] theorem State.modHead_indexJog (s : State) (b : Boom) (f : Head → Head) : (s.modHead b f).indexJog = s.indexJog := rfl
@[simp] theorem State.modHead_arb (s : State) (b : Boom) (f : Head → Head) : (s.modHead b f).arb = s.arb := rfl
@[simp] theorem State.modHead_valve (s : State) (b : Boom) (f : Head → Head) : (s.modHead b f).valve = s.valve := rfl
@[simp] theorem State.modHead_head (s : State) (b : Boom) (f : Head → Head) :
    (s.modHead b f).head = s.head.set b (f (s.head.get b)) := rfl
@[simp] theorem State.modHead_diu (s : State) (b : Boom) (f : Head → Head) : (s.modHead b f).diu = s.diu := rfl
@[simp] theorem State.modHead_rot (s : State) (b : Boom) (f : Head → Head) : (s.modHead b f).rot = s.rot := rfl
@[simp] theorem State.modHead_store (s : State) (b : Boom) (f : Head → Head) : (s.modHead b f).store = s.store := rfl
@[simp] theorem State.modHead_bits (s : State) (b : Boom) (f : Head → Head) : (s.modHead b f).bits = s.bits := rfl
@[simp] theorem State.modHead_tram (s : State) (b : Boom) (f : Head → Head) : (s.modHead b f).tram = s.tram := rfl
@[simp] theorem State.modHead_freeCount (s : State) (b : Boom) (f : Head → Head) : (s.modHead b f).freeCount = s.freeCount := rfl

/-! ### modDiu -/

@[simp] theorem State.modDiu_pending (s : State) (f : Direct → Direct) : (s.modDiu f).pending = s.pending := rfl
@[simp] theorem State.modDiu_power (s : State) (f : Direct → Direct) : (s.modDiu f).power = s.power := rfl
@[simp] theorem State.modDiu_startTimer (s : State) (f : Direct → Direct) : (s.modDiu f).startTimer = s.startTimer := rfl
@[simp] theorem State.modDiu_resetCause (s : State) (f : Direct → Direct) : (s.modDiu f).resetCause = s.resetCause := rfl
@[simp] theorem State.modDiu_straps (s : State) (f : Direct → Direct) : (s.modDiu f).straps = s.straps := rfl
@[simp] theorem State.modDiu_params (s : State) (f : Direct → Direct) : (s.modDiu f).params = s.params := rfl
@[simp] theorem State.modDiu_link (s : State) (f : Direct → Direct) : (s.modDiu f).link = s.link := rfl
@[simp] theorem State.modDiu_seq (s : State) (f : Direct → Direct) : (s.modDiu f).seq = s.seq := rfl
@[simp] theorem State.modDiu_prof (s : State) (f : Direct → Direct) : (s.modDiu f).prof = s.prof := rfl
@[simp] theorem State.modDiu_gov (s : State) (f : Direct → Direct) : (s.modDiu f).gov = s.gov := rfl
@[simp] theorem State.modDiu_sett (s : State) (f : Direct → Direct) : (s.modDiu f).sett = s.sett := rfl
@[simp] theorem State.modDiu_bands (s : State) (f : Direct → Direct) : (s.modDiu f).bands = s.bands := rfl
@[simp] theorem State.modDiu_idx (s : State) (f : Direct → Direct) : (s.modDiu f).idx = s.idx := rfl
@[simp] theorem State.modDiu_indexJog (s : State) (f : Direct → Direct) : (s.modDiu f).indexJog = s.indexJog := rfl
@[simp] theorem State.modDiu_arb (s : State) (f : Direct → Direct) : (s.modDiu f).arb = s.arb := rfl
@[simp] theorem State.modDiu_valve (s : State) (f : Direct → Direct) : (s.modDiu f).valve = s.valve := rfl
@[simp] theorem State.modDiu_head (s : State) (f : Direct → Direct) : (s.modDiu f).head = s.head := rfl
@[simp] theorem State.modDiu_diu (s : State) (f : Direct → Direct) :
    (s.modDiu f).diu = f s.diu := rfl
@[simp] theorem State.modDiu_rot (s : State) (f : Direct → Direct) : (s.modDiu f).rot = s.rot := rfl
@[simp] theorem State.modDiu_store (s : State) (f : Direct → Direct) : (s.modDiu f).store = s.store := rfl
@[simp] theorem State.modDiu_bits (s : State) (f : Direct → Direct) : (s.modDiu f).bits = s.bits := rfl
@[simp] theorem State.modDiu_tram (s : State) (f : Direct → Direct) : (s.modDiu f).tram = s.tram := rfl
@[simp] theorem State.modDiu_freeCount (s : State) (f : Direct → Direct) : (s.modDiu f).freeCount = s.freeCount := rfl

/-! ### modRot -/

@[simp] theorem State.modRot_pending (s : State) (b : Boom) (f : Rotation → Rotation) : (s.modRot b f).pending = s.pending := rfl
@[simp] theorem State.modRot_power (s : State) (b : Boom) (f : Rotation → Rotation) : (s.modRot b f).power = s.power := rfl
@[simp] theorem State.modRot_startTimer (s : State) (b : Boom) (f : Rotation → Rotation) : (s.modRot b f).startTimer = s.startTimer := rfl
@[simp] theorem State.modRot_resetCause (s : State) (b : Boom) (f : Rotation → Rotation) : (s.modRot b f).resetCause = s.resetCause := rfl
@[simp] theorem State.modRot_straps (s : State) (b : Boom) (f : Rotation → Rotation) : (s.modRot b f).straps = s.straps := rfl
@[simp] theorem State.modRot_params (s : State) (b : Boom) (f : Rotation → Rotation) : (s.modRot b f).params = s.params := rfl
@[simp] theorem State.modRot_link (s : State) (b : Boom) (f : Rotation → Rotation) : (s.modRot b f).link = s.link := rfl
@[simp] theorem State.modRot_seq (s : State) (b : Boom) (f : Rotation → Rotation) : (s.modRot b f).seq = s.seq := rfl
@[simp] theorem State.modRot_prof (s : State) (b : Boom) (f : Rotation → Rotation) : (s.modRot b f).prof = s.prof := rfl
@[simp] theorem State.modRot_gov (s : State) (b : Boom) (f : Rotation → Rotation) : (s.modRot b f).gov = s.gov := rfl
@[simp] theorem State.modRot_sett (s : State) (b : Boom) (f : Rotation → Rotation) : (s.modRot b f).sett = s.sett := rfl
@[simp] theorem State.modRot_bands (s : State) (b : Boom) (f : Rotation → Rotation) : (s.modRot b f).bands = s.bands := rfl
@[simp] theorem State.modRot_idx (s : State) (b : Boom) (f : Rotation → Rotation) : (s.modRot b f).idx = s.idx := rfl
@[simp] theorem State.modRot_indexJog (s : State) (b : Boom) (f : Rotation → Rotation) : (s.modRot b f).indexJog = s.indexJog := rfl
@[simp] theorem State.modRot_arb (s : State) (b : Boom) (f : Rotation → Rotation) : (s.modRot b f).arb = s.arb := rfl
@[simp] theorem State.modRot_valve (s : State) (b : Boom) (f : Rotation → Rotation) : (s.modRot b f).valve = s.valve := rfl
@[simp] theorem State.modRot_head (s : State) (b : Boom) (f : Rotation → Rotation) : (s.modRot b f).head = s.head := rfl
@[simp] theorem State.modRot_diu (s : State) (b : Boom) (f : Rotation → Rotation) : (s.modRot b f).diu = s.diu := rfl
@[simp] theorem State.modRot_rot (s : State) (b : Boom) (f : Rotation → Rotation) :
    (s.modRot b f).rot = s.rot.set b (f (s.rot.get b)) := rfl
@[simp] theorem State.modRot_store (s : State) (b : Boom) (f : Rotation → Rotation) : (s.modRot b f).store = s.store := rfl
@[simp] theorem State.modRot_bits (s : State) (b : Boom) (f : Rotation → Rotation) : (s.modRot b f).bits = s.bits := rfl
@[simp] theorem State.modRot_tram (s : State) (b : Boom) (f : Rotation → Rotation) : (s.modRot b f).tram = s.tram := rfl
@[simp] theorem State.modRot_freeCount (s : State) (b : Boom) (f : Rotation → Rotation) : (s.modRot b f).freeCount = s.freeCount := rfl

/-! ### modStore -/

@[simp] theorem State.modStore_pending (s : State) (f : Store → Store) : (s.modStore f).pending = s.pending := rfl
@[simp] theorem State.modStore_power (s : State) (f : Store → Store) : (s.modStore f).power = s.power := rfl
@[simp] theorem State.modStore_startTimer (s : State) (f : Store → Store) : (s.modStore f).startTimer = s.startTimer := rfl
@[simp] theorem State.modStore_resetCause (s : State) (f : Store → Store) : (s.modStore f).resetCause = s.resetCause := rfl
@[simp] theorem State.modStore_straps (s : State) (f : Store → Store) : (s.modStore f).straps = s.straps := rfl
@[simp] theorem State.modStore_params (s : State) (f : Store → Store) : (s.modStore f).params = s.params := rfl
@[simp] theorem State.modStore_link (s : State) (f : Store → Store) : (s.modStore f).link = s.link := rfl
@[simp] theorem State.modStore_seq (s : State) (f : Store → Store) : (s.modStore f).seq = s.seq := rfl
@[simp] theorem State.modStore_prof (s : State) (f : Store → Store) : (s.modStore f).prof = s.prof := rfl
@[simp] theorem State.modStore_gov (s : State) (f : Store → Store) : (s.modStore f).gov = s.gov := rfl
@[simp] theorem State.modStore_sett (s : State) (f : Store → Store) : (s.modStore f).sett = s.sett := rfl
@[simp] theorem State.modStore_bands (s : State) (f : Store → Store) : (s.modStore f).bands = s.bands := rfl
@[simp] theorem State.modStore_idx (s : State) (f : Store → Store) : (s.modStore f).idx = s.idx := rfl
@[simp] theorem State.modStore_indexJog (s : State) (f : Store → Store) : (s.modStore f).indexJog = s.indexJog := rfl
@[simp] theorem State.modStore_arb (s : State) (f : Store → Store) : (s.modStore f).arb = s.arb := rfl
@[simp] theorem State.modStore_valve (s : State) (f : Store → Store) : (s.modStore f).valve = s.valve := rfl
@[simp] theorem State.modStore_head (s : State) (f : Store → Store) : (s.modStore f).head = s.head := rfl
@[simp] theorem State.modStore_diu (s : State) (f : Store → Store) : (s.modStore f).diu = s.diu := rfl
@[simp] theorem State.modStore_rot (s : State) (f : Store → Store) : (s.modStore f).rot = s.rot := rfl
@[simp] theorem State.modStore_store (s : State) (f : Store → Store) :
    (s.modStore f).store = f s.store := rfl
@[simp] theorem State.modStore_bits (s : State) (f : Store → Store) : (s.modStore f).bits = s.bits := rfl
@[simp] theorem State.modStore_tram (s : State) (f : Store → Store) : (s.modStore f).tram = s.tram := rfl
@[simp] theorem State.modStore_freeCount (s : State) (f : Store → Store) : (s.modStore f).freeCount = s.freeCount := rfl

/-! ### modBits -/

@[simp] theorem State.modBits_pending (s : State) (f : List BitPos → List BitPos) : (s.modBits f).pending = s.pending := rfl
@[simp] theorem State.modBits_power (s : State) (f : List BitPos → List BitPos) : (s.modBits f).power = s.power := rfl
@[simp] theorem State.modBits_startTimer (s : State) (f : List BitPos → List BitPos) : (s.modBits f).startTimer = s.startTimer := rfl
@[simp] theorem State.modBits_resetCause (s : State) (f : List BitPos → List BitPos) : (s.modBits f).resetCause = s.resetCause := rfl
@[simp] theorem State.modBits_straps (s : State) (f : List BitPos → List BitPos) : (s.modBits f).straps = s.straps := rfl
@[simp] theorem State.modBits_params (s : State) (f : List BitPos → List BitPos) : (s.modBits f).params = s.params := rfl
@[simp] theorem State.modBits_link (s : State) (f : List BitPos → List BitPos) : (s.modBits f).link = s.link := rfl
@[simp] theorem State.modBits_seq (s : State) (f : List BitPos → List BitPos) : (s.modBits f).seq = s.seq := rfl
@[simp] theorem State.modBits_prof (s : State) (f : List BitPos → List BitPos) : (s.modBits f).prof = s.prof := rfl
@[simp] theorem State.modBits_gov (s : State) (f : List BitPos → List BitPos) : (s.modBits f).gov = s.gov := rfl
@[simp] theorem State.modBits_sett (s : State) (f : List BitPos → List BitPos) : (s.modBits f).sett = s.sett := rfl
@[simp] theorem State.modBits_bands (s : State) (f : List BitPos → List BitPos) : (s.modBits f).bands = s.bands := rfl
@[simp] theorem State.modBits_idx (s : State) (f : List BitPos → List BitPos) : (s.modBits f).idx = s.idx := rfl
@[simp] theorem State.modBits_indexJog (s : State) (f : List BitPos → List BitPos) : (s.modBits f).indexJog = s.indexJog := rfl
@[simp] theorem State.modBits_arb (s : State) (f : List BitPos → List BitPos) : (s.modBits f).arb = s.arb := rfl
@[simp] theorem State.modBits_valve (s : State) (f : List BitPos → List BitPos) : (s.modBits f).valve = s.valve := rfl
@[simp] theorem State.modBits_head (s : State) (f : List BitPos → List BitPos) : (s.modBits f).head = s.head := rfl
@[simp] theorem State.modBits_diu (s : State) (f : List BitPos → List BitPos) : (s.modBits f).diu = s.diu := rfl
@[simp] theorem State.modBits_rot (s : State) (f : List BitPos → List BitPos) : (s.modBits f).rot = s.rot := rfl
@[simp] theorem State.modBits_store (s : State) (f : List BitPos → List BitPos) : (s.modBits f).store = s.store := rfl
@[simp] theorem State.modBits_bits (s : State) (f : List BitPos → List BitPos) :
    (s.modBits f).bits = f s.bits := rfl
@[simp] theorem State.modBits_tram (s : State) (f : List BitPos → List BitPos) : (s.modBits f).tram = s.tram := rfl
@[simp] theorem State.modBits_freeCount (s : State) (f : List BitPos → List BitPos) : (s.modBits f).freeCount = s.freeCount := rfl

/-! ### setTram -/

@[simp] theorem State.setTram_pending (s : State) (v : Bool) : (s.setTram v).pending = s.pending := rfl
@[simp] theorem State.setTram_power (s : State) (v : Bool) : (s.setTram v).power = s.power := rfl
@[simp] theorem State.setTram_startTimer (s : State) (v : Bool) : (s.setTram v).startTimer = s.startTimer := rfl
@[simp] theorem State.setTram_resetCause (s : State) (v : Bool) : (s.setTram v).resetCause = s.resetCause := rfl
@[simp] theorem State.setTram_straps (s : State) (v : Bool) : (s.setTram v).straps = s.straps := rfl
@[simp] theorem State.setTram_params (s : State) (v : Bool) : (s.setTram v).params = s.params := rfl
@[simp] theorem State.setTram_link (s : State) (v : Bool) : (s.setTram v).link = s.link := rfl
@[simp] theorem State.setTram_seq (s : State) (v : Bool) : (s.setTram v).seq = s.seq := rfl
@[simp] theorem State.setTram_prof (s : State) (v : Bool) : (s.setTram v).prof = s.prof := rfl
@[simp] theorem State.setTram_gov (s : State) (v : Bool) : (s.setTram v).gov = s.gov := rfl
@[simp] theorem State.setTram_sett (s : State) (v : Bool) : (s.setTram v).sett = s.sett := rfl
@[simp] theorem State.setTram_bands (s : State) (v : Bool) : (s.setTram v).bands = s.bands := rfl
@[simp] theorem State.setTram_idx (s : State) (v : Bool) : (s.setTram v).idx = s.idx := rfl
@[simp] theorem State.setTram_indexJog (s : State) (v : Bool) : (s.setTram v).indexJog = s.indexJog := rfl
@[simp] theorem State.setTram_arb (s : State) (v : Bool) : (s.setTram v).arb = s.arb := rfl
@[simp] theorem State.setTram_valve (s : State) (v : Bool) : (s.setTram v).valve = s.valve := rfl
@[simp] theorem State.setTram_head (s : State) (v : Bool) : (s.setTram v).head = s.head := rfl
@[simp] theorem State.setTram_diu (s : State) (v : Bool) : (s.setTram v).diu = s.diu := rfl
@[simp] theorem State.setTram_rot (s : State) (v : Bool) : (s.setTram v).rot = s.rot := rfl
@[simp] theorem State.setTram_store (s : State) (v : Bool) : (s.setTram v).store = s.store := rfl
@[simp] theorem State.setTram_bits (s : State) (v : Bool) : (s.setTram v).bits = s.bits := rfl
@[simp] theorem State.setTram_tram (s : State) (v : Bool) :
    (s.setTram v).tram = v := rfl
@[simp] theorem State.setTram_freeCount (s : State) (v : Bool) : (s.setTram v).freeCount = s.freeCount := rfl

/-! ### setIndexJog -/

@[simp] theorem State.setIndexJog_pending (s : State) (v : Nat) : (s.setIndexJog v).pending = s.pending := rfl
@[simp] theorem State.setIndexJog_power (s : State) (v : Nat) : (s.setIndexJog v).power = s.power := rfl
@[simp] theorem State.setIndexJog_startTimer (s : State) (v : Nat) : (s.setIndexJog v).startTimer = s.startTimer := rfl
@[simp] theorem State.setIndexJog_resetCause (s : State) (v : Nat) : (s.setIndexJog v).resetCause = s.resetCause := rfl
@[simp] theorem State.setIndexJog_straps (s : State) (v : Nat) : (s.setIndexJog v).straps = s.straps := rfl
@[simp] theorem State.setIndexJog_params (s : State) (v : Nat) : (s.setIndexJog v).params = s.params := rfl
@[simp] theorem State.setIndexJog_link (s : State) (v : Nat) : (s.setIndexJog v).link = s.link := rfl
@[simp] theorem State.setIndexJog_seq (s : State) (v : Nat) : (s.setIndexJog v).seq = s.seq := rfl
@[simp] theorem State.setIndexJog_prof (s : State) (v : Nat) : (s.setIndexJog v).prof = s.prof := rfl
@[simp] theorem State.setIndexJog_gov (s : State) (v : Nat) : (s.setIndexJog v).gov = s.gov := rfl
@[simp] theorem State.setIndexJog_sett (s : State) (v : Nat) : (s.setIndexJog v).sett = s.sett := rfl
@[simp] theorem State.setIndexJog_bands (s : State) (v : Nat) : (s.setIndexJog v).bands = s.bands := rfl
@[simp] theorem State.setIndexJog_idx (s : State) (v : Nat) : (s.setIndexJog v).idx = s.idx := rfl
@[simp] theorem State.setIndexJog_indexJog (s : State) (v : Nat) :
    (s.setIndexJog v).indexJog = v := rfl
@[simp] theorem State.setIndexJog_arb (s : State) (v : Nat) : (s.setIndexJog v).arb = s.arb := rfl
@[simp] theorem State.setIndexJog_valve (s : State) (v : Nat) : (s.setIndexJog v).valve = s.valve := rfl
@[simp] theorem State.setIndexJog_head (s : State) (v : Nat) : (s.setIndexJog v).head = s.head := rfl
@[simp] theorem State.setIndexJog_diu (s : State) (v : Nat) : (s.setIndexJog v).diu = s.diu := rfl
@[simp] theorem State.setIndexJog_rot (s : State) (v : Nat) : (s.setIndexJog v).rot = s.rot := rfl
@[simp] theorem State.setIndexJog_store (s : State) (v : Nat) : (s.setIndexJog v).store = s.store := rfl
@[simp] theorem State.setIndexJog_bits (s : State) (v : Nat) : (s.setIndexJog v).bits = s.bits := rfl
@[simp] theorem State.setIndexJog_tram (s : State) (v : Nat) : (s.setIndexJog v).tram = s.tram := rfl
@[simp] theorem State.setIndexJog_freeCount (s : State) (v : Nat) : (s.setIndexJog v).freeCount = s.freeCount := rfl

/-! ### storeParam -/

@[simp] theorem State.storeParam_pending (s : State) (i v : Nat) : (s.storeParam i v).pending = s.pending := rfl
@[simp] theorem State.storeParam_power (s : State) (i v : Nat) : (s.storeParam i v).power = s.power := rfl
@[simp] theorem State.storeParam_startTimer (s : State) (i v : Nat) : (s.storeParam i v).startTimer = s.startTimer := rfl
@[simp] theorem State.storeParam_resetCause (s : State) (i v : Nat) : (s.storeParam i v).resetCause = s.resetCause := rfl
@[simp] theorem State.storeParam_straps (s : State) (i v : Nat) : (s.storeParam i v).straps = s.straps := rfl
@[simp] theorem State.storeParam_params (s : State) (i v : Nat) :
    (s.storeParam i v).params = s.params.set i v := rfl
@[simp] theorem State.storeParam_link (s : State) (i v : Nat) : (s.storeParam i v).link = s.link := rfl
@[simp] theorem State.storeParam_seq (s : State) (i v : Nat) : (s.storeParam i v).seq = s.seq := rfl
@[simp] theorem State.storeParam_prof (s : State) (i v : Nat) : (s.storeParam i v).prof = s.prof := rfl
@[simp] theorem State.storeParam_gov (s : State) (i v : Nat) : (s.storeParam i v).gov = s.gov := rfl
@[simp] theorem State.storeParam_sett (s : State) (i v : Nat) : (s.storeParam i v).sett = s.sett := rfl
@[simp] theorem State.storeParam_bands (s : State) (i v : Nat) : (s.storeParam i v).bands = s.bands := rfl
@[simp] theorem State.storeParam_idx (s : State) (i v : Nat) : (s.storeParam i v).idx = s.idx := rfl
@[simp] theorem State.storeParam_indexJog (s : State) (i v : Nat) : (s.storeParam i v).indexJog = s.indexJog := rfl
@[simp] theorem State.storeParam_arb (s : State) (i v : Nat) : (s.storeParam i v).arb = s.arb := rfl
@[simp] theorem State.storeParam_valve (s : State) (i v : Nat) : (s.storeParam i v).valve = s.valve := rfl
@[simp] theorem State.storeParam_head (s : State) (i v : Nat) : (s.storeParam i v).head = s.head := rfl
@[simp] theorem State.storeParam_diu (s : State) (i v : Nat) : (s.storeParam i v).diu = s.diu := rfl
@[simp] theorem State.storeParam_rot (s : State) (i v : Nat) : (s.storeParam i v).rot = s.rot := rfl
@[simp] theorem State.storeParam_store (s : State) (i v : Nat) : (s.storeParam i v).store = s.store := rfl
@[simp] theorem State.storeParam_bits (s : State) (i v : Nat) : (s.storeParam i v).bits = s.bits := rfl
@[simp] theorem State.storeParam_tram (s : State) (i v : Nat) : (s.storeParam i v).tram = s.tram := rfl
@[simp] theorem State.storeParam_freeCount (s : State) (i v : Nat) : (s.storeParam i v).freeCount = s.freeCount := rfl

/-! ### modRec -/

@[simp] theorem State.modRec_pending (s : State) (b : Boom) (f : HoleRecord → HoleRecord) : (s.modRec b f).pending = s.pending := rfl
@[simp] theorem State.modRec_power (s : State) (b : Boom) (f : HoleRecord → HoleRecord) : (s.modRec b f).power = s.power := rfl
@[simp] theorem State.modRec_startTimer (s : State) (b : Boom) (f : HoleRecord → HoleRecord) : (s.modRec b f).startTimer = s.startTimer := rfl
@[simp] theorem State.modRec_resetCause (s : State) (b : Boom) (f : HoleRecord → HoleRecord) : (s.modRec b f).resetCause = s.resetCause := rfl
@[simp] theorem State.modRec_straps (s : State) (b : Boom) (f : HoleRecord → HoleRecord) : (s.modRec b f).straps = s.straps := rfl
@[simp] theorem State.modRec_params (s : State) (b : Boom) (f : HoleRecord → HoleRecord) : (s.modRec b f).params = s.params := rfl
@[simp] theorem State.modRec_link (s : State) (b : Boom) (f : HoleRecord → HoleRecord) : (s.modRec b f).link = s.link := rfl
@[simp] theorem State.modRec_seq (s : State) (b : Boom) (f : HoleRecord → HoleRecord) : (s.modRec b f).seq = s.seq := rfl
@[simp] theorem State.modRec_prof (s : State) (b : Boom) (f : HoleRecord → HoleRecord) : (s.modRec b f).prof = s.prof := rfl
@[simp] theorem State.modRec_gov (s : State) (b : Boom) (f : HoleRecord → HoleRecord) : (s.modRec b f).gov = s.gov := rfl
@[simp] theorem State.modRec_sett (s : State) (b : Boom) (f : HoleRecord → HoleRecord) : (s.modRec b f).sett = s.sett := rfl
@[simp] theorem State.modRec_bands (s : State) (b : Boom) (f : HoleRecord → HoleRecord) : (s.modRec b f).bands = s.bands := rfl
@[simp] theorem State.modRec_idx (s : State) (b : Boom) (f : HoleRecord → HoleRecord) : (s.modRec b f).idx = s.idx := rfl
@[simp] theorem State.modRec_indexJog (s : State) (b : Boom) (f : HoleRecord → HoleRecord) : (s.modRec b f).indexJog = s.indexJog := rfl
@[simp] theorem State.modRec_arb (s : State) (b : Boom) (f : HoleRecord → HoleRecord) : (s.modRec b f).arb = s.arb := rfl
@[simp] theorem State.modRec_valve (s : State) (b : Boom) (f : HoleRecord → HoleRecord) : (s.modRec b f).valve = s.valve := rfl
@[simp] theorem State.modRec_head (s : State) (b : Boom) (f : HoleRecord → HoleRecord) : (s.modRec b f).head = s.head := rfl
@[simp] theorem State.modRec_diu (s : State) (b : Boom) (f : HoleRecord → HoleRecord) : (s.modRec b f).diu = s.diu := rfl
@[simp] theorem State.modRec_rot (s : State) (b : Boom) (f : HoleRecord → HoleRecord) : (s.modRec b f).rot = s.rot := rfl
@[simp] theorem State.modRec_store (s : State) (b : Boom) (f : HoleRecord → HoleRecord) :
    (s.modRec b f).store = { s.store with opened := s.store.opened.set b ((s.store.opened.get b).map f) } := rfl
@[simp] theorem State.modRec_bits (s : State) (b : Boom) (f : HoleRecord → HoleRecord) : (s.modRec b f).bits = s.bits := rfl
@[simp] theorem State.modRec_tram (s : State) (b : Boom) (f : HoleRecord → HoleRecord) : (s.modRec b f).tram = s.tram := rfl
@[simp] theorem State.modRec_freeCount (s : State) (b : Boom) (f : HoleRecord → HoleRecord) : (s.modRec b f).freeCount = s.freeCount := rfl

end Sys2Proof.Machine
end

