-- ==== Sys2Proof/Laws/Link.lean ====
section
/-! SUPPORT. The taking of the inbound queue (R205, R206): a frame's taking is the meaning of its request's
command, and what the queue's test does at each length. -/

namespace Sys2Proof.Machine

/-- A frame is taken as its request's command. -/
theorem runRequest_requestOf (kind tag : Byte) (body : List Byte) (s : State) :
    runRequest (requestOf kind tag body) s = exec (requestOf kind tag body) s := by
  have h : ∀ (p : Prop) [Decidable p] (c d : Instr), runRequest c s = exec c s → runRequest d s = exec d s →
      runRequest (if p then c else d) s = exec (if p then c else d) s := by
    intro p _ c d hc hd
    split
    · exact hc
    · exact hd
  unfold requestOf
  iterate 30 refine h _ _ _ rfl ?_
  rfl

/-- With no frame waiting nothing is taken. -/
theorem State.drainInbound_nil {s : State} (h : s.link.inbound = []) : s.drainInbound = s := by
  simp [State.drainInbound, h, State.takeWaiting]

/-- Without a free reply place, or after RESTART, nothing is taken. -/
theorem State.takeHeadFrame_full {s : State} (h : s.takes = false) : s.takeHeadFrame = s := by
  unfold State.takeHeadFrame
  split
  · simp [h]
  · rfl

theorem State.takeWaiting_full {s : State} (h : s.takes = false) (n : Nat) : State.takeWaiting n s = s := by
  induction n with
  | zero => rfl
  | succ n ih => simp only [State.takeWaiting, State.takeHeadFrame_full h, ih]

theorem State.drainInbound_full {s : State} (h : s.takes = false) : s.drainInbound = s :=
  State.takeWaiting_full h _

/-- The head of the queue is taken as its command, on the state with the rest of the queue. -/
theorem State.takeHeadFrame_cons {s t : State} {f : Frame} {rest : List Frame} (h : s.link.inbound = f :: rest)
    (ht : s.takes = true)
    (he : exec (requestOf f.kind f.tag f.body) (s.modLink fun l => { l with inbound := rest }) = .next t) :
    s.takeHeadFrame = t := by
  simp only [State.takeHeadFrame, h, ht, if_true, runRequest_requestOf, he]

end Sys2Proof.Machine
end

