-- ==== Sys2Proof/Laws/Outer.lean ====
section
/-! SUPPORT. What the part's internal operations never change: the queue of commands, power, straps,
parameters, bands, head values, direct inputs, the line but for its reports, the number of records held,
and each channel but for its duty and its function. One lemma says so for each operation; the view of
those pieces is `State.outer`. -/

namespace Sys2Proof.Machine

/-- A channel without its duty and its driving function. -/
def Channel.fixed (c : Channel) : Channel := { c with duty := 0, driving := none }

/-- The line without its queued reports. -/
def Link.line (l : Link) : Link := { l with reports := [], dropped := false }

/-- The pieces of state no internal operation changes; `room` says that the report places hold. -/
structure Outer where
  pending    : List Instr
  power      : Power
  startTimer : Timer
  resetCause : ResetCause
  straps     : Straps
  params     : List Nat
  bands      : PerBoom (List Band)
  head       : PerBoom Head
  diu        : Direct
  line       : Link
  room       : Prop
  held       : Nat
  counter    : Nat
  channels   : List Channel

/-- The view of the pieces no internal operation changes. -/
def State.outer (s : State) : Outer :=
  { pending := s.pending, power := s.power, startTimer := s.startTimer, resetCause := s.resetCause
    straps := s.straps, params := s.params, bands := s.bands, head := s.head, diu := s.diu
    line := s.link.line, room := s.link.reports.length ≤ reportPlaces
    held := s.store.held, counter := s.store.counter
    channels := s.valve.channels.map Channel.fixed }

/-! ### The pieces, read back from an unchanged view -/

section
variable {s t : State} (h : t.outer = s.outer)
include h

theorem outer_pending : t.pending = s.pending := congrArg Outer.pending h
theorem outer_power : t.power = s.power := congrArg Outer.power h
theorem outer_straps : t.straps = s.straps := congrArg Outer.straps h
theorem outer_params : t.params = s.params := congrArg Outer.params h
theorem outer_bands : t.bands = s.bands := congrArg Outer.bands h
theorem outer_head : t.head = s.head := congrArg Outer.head h
theorem outer_diu : t.diu = s.diu := congrArg Outer.diu h
theorem outer_line : t.link.line = s.link.line := congrArg Outer.line h
theorem outer_held : t.store.held = s.store.held := congrArg Outer.held h
theorem outer_counter : t.store.counter = s.store.counter := congrArg Outer.counter h
theorem outer_channels : t.valve.channels.map Channel.fixed = s.valve.channels.map Channel.fixed :=
  congrArg Outer.channels h
theorem outer_room : (t.link.reports.length ≤ reportPlaces) ↔ (s.link.reports.length ≤ reportPlaces) :=
  iff_of_eq (congrArg Outer.room h)

end

/-- A fold of operations that keep a view keeps it. -/
theorem foldl_keeps {α β γ : Type} (v : β → γ) (f : β → α → β) (h : ∀ s x, v (f s x) = v s)
    (l : List α) (s : β) : v (l.foldl f s) = v s := by
  induction l generalizing s with
  | nil => rfl
  | cons x xs ih => simp only [List.foldl_cons]; rw [ih, h]

/-! ### The updates -/

@[simp] theorem State.outer_ite (c : Prop) [Decidable c] (s t : State) :
    (if c then s else t).outer = if c then s.outer else t.outer := apply_ite State.outer c s t

section
variable (s : State) (b : Boom)

@[simp] theorem State.outer_modSeq (f : Sequencer → Sequencer) : (s.modSeq b f).outer = s.outer := rfl
@[simp] theorem State.outer_modProf (f : Profiler → Profiler) : (s.modProf b f).outer = s.outer := rfl
@[simp] theorem State.outer_modGov (f : Governor → Governor) : (s.modGov b f).outer = s.outer := rfl
@[simp] theorem State.outer_modSett (f : Setting → Setting) : (s.modSett b f).outer = s.outer := rfl
@[simp] theorem State.outer_modIdx (f : Indexer → Indexer) : (s.modIdx f).outer = s.outer := rfl
@[simp] theorem State.outer_modArb (f : Arbiter → Arbiter) : (s.modArb f).outer = s.outer := rfl
@[simp] theorem State.outer_modRot (f : Rotation → Rotation) : (s.modRot b f).outer = s.outer := rfl
@[simp] theorem State.outer_modBits (f : List BitPos → List BitPos) : (s.modBits f).outer = s.outer := rfl
@[simp] theorem State.outer_setTram (v : Bool) : (s.setTram v).outer = s.outer := rfl
@[simp] theorem State.outer_setIndexJog (v : Nat) : (s.setIndexJog v).outer = s.outer := rfl

theorem Store.held_set (st : Store) (r : Option HoleRecord)
    (h : r.isSome = (st.opened.get b).isSome) : Store.held { st with opened := st.opened.set b r } = st.held := by
  obtain ⟨⟨a, c⟩, q, n⟩ := st
  cases b <;> cases r <;> cases a <;> cases c <;> simp_all [Store.held, PerBoom.set, PerBoom.get]

@[simp] theorem State.outer_modRec (f : HoleRecord → HoleRecord) : (s.modRec b f).outer = s.outer := by
  have h := Store.held_set b s.store ((s.store.opened.get b).map f) (by simp)
  simp [State.outer, State.modRec, State.modStore, h]

@[simp] theorem State.outer_report (r : Report) : (s.report r).outer = s.outer := by
  simp only [State.report, State.modLink, State.outer]
  split
  · simp [Link.line]; omega
  · simp [Link.line]

end

/-- Two states that differ in their valve alone have one view when the channels agree but for duty and
function. -/
theorem State.outer_modValve (s : State) (f : Valve → Valve)
    (h : (f s.valve).channels.map Channel.fixed = s.valve.channels.map Channel.fixed) :
    (s.modValve f).outer = s.outer := by
  simp [State.outer, State.modValve, h]

theorem Valve.resolve_fixed (v : Valve) :
    v.resolve.channels.map Channel.fixed = v.channels.map Channel.fixed := by
  apply List.ext_getElem
  · simp [Valve.resolve]
  · intro i h1 h2
    have h : i < v.channels.length := by simpa using h2
    simp [Valve.resolve, Valve.channel, Channel.fixed, h]

/-! ### Ops and Arbiter -/

@[simp] theorem State.outer_goPhase (s : State) (b : Boom) (p : Phase) (f : Sequencer → Sequencer) : (s.goPhase b p f).outer = s.outer := by
  simp [State.goPhase]

@[simp] theorem State.outer_notePhase (s : State) (b : Boom) : (s.notePhase b).outer = s.outer := by
  simp [State.notePhase]

@[simp] theorem State.outer_clearRotation (s : State) (b : Boom) : (s.clearRotation b).outer = s.outer := by
  simp [State.clearRotation]

@[simp] theorem State.outer_computeFlow (s : State) : (s.computeFlow).outer = s.outer := by
  simp [State.computeFlow]

@[simp] theorem State.outer_putReservation (s : State) (b : Boom) (n : Nat) : (s.putReservation b n).outer = s.outer := by
  simp [State.putReservation]

@[simp] theorem State.outer_markAdmitted (s : State) (b : Boom) : (s.markAdmitted b).outer = s.outer := by
  simp [State.markAdmitted]

@[simp] theorem State.outer_dropReservation (s : State) (b : Boom) : (s.dropReservation b).outer = s.outer := by
  simp [State.dropReservation]

@[simp] theorem State.outer_computeDuties (s : State) : (s.computeDuties).outer = s.outer := by
  apply State.outer_modValve
  simp [Channel.fixed, Function.comp_def]

/-! ### Store and Profiler -/

@[simp] theorem State.outer_modBit (s : State) (p : Nat) (f : BitPos → BitPos) : (s.modBit p f).outer = s.outer := by
  simp [State.modBit]

@[simp] theorem State.outer_markBitWorn (s : State) (p : BitPos) : (s.markBitWorn p).outer = s.outer := by
  unfold State.markBitWorn
  try dsimp only
  repeat' split
  all_goals simp

@[simp] theorem State.outer_evalWorn (s : State) (p : Nat) : (s.evalWorn p).outer = s.outer := by
  simp [State.evalWorn]

@[simp] theorem State.outer_addWear (s : State) (b : Boom) (w : Nat) : (s.addWear b w).outer = s.outer := by
  unfold State.addWear
  try dsimp only
  repeat' split
  all_goals simp

@[simp] theorem State.outer_bitClose (s : State) (b : Boom) (p : Nat) : (s.bitClose b p).outer = s.outer := by
  simp [State.bitClose]

@[simp] theorem State.outer_handWork (s : State) (b : Boom) (g : OpenSeg) : (s.handWork b g).outer = s.outer := by
  simp [State.handWork]

@[simp] theorem State.outer_closeSegment (s : State) (b : Boom) (c p : Bool) : (s.closeSegment b c p).outer = s.outer := by
  unfold State.closeSegment
  try dsimp only
  repeat' split
  all_goals simp

@[simp] theorem State.outer_profSample (s : State) (b : Boom) (n : Nat) : (s.profSample b n).outer = s.outer := by
  simp [State.profSample]

@[simp] theorem State.outer_markCollar (s : State) (b : Boom) : (s.markCollar b).outer = s.outer := rfl

@[simp] theorem State.outer_takeRemnant (s : State) (b : Boom) : (s.takeRemnant b).outer = s.outer := by
  unfold State.takeRemnant
  try dsimp only
  repeat' split
  all_goals simp

@[simp] theorem State.outer_endProfile (s : State) (b : Boom) : (s.endProfile b).outer = s.outer := by
  simp [State.endProfile]

/-! ### Governor -/

@[simp] theorem State.outer_startApproach (s : State) (b : Boom) : (s.startApproach b).outer = s.outer := by
  simp [State.startApproach]

@[simp] theorem State.outer_startClimb (s : State) (b : Boom) : (s.startClimb b).outer = s.outer := by
  simp [State.startClimb]

@[simp] theorem State.outer_endGovernor (s : State) (b : Boom) : (s.endGovernor b).outer = s.outer := by
  simp [State.endGovernor]

@[simp] theorem State.outer_leaveDrilling (s : State) (b : Boom) : (s.leaveDrilling b).outer = s.outer := by
  simp [State.leaveDrilling]

@[simp] theorem State.outer_resumeGovernor (s : State) (b : Boom) : (s.resumeGovernor b).outer = s.outer := by
  simp [State.resumeGovernor]

@[simp] theorem State.outer_endBackoff (s : State) (b : Boom) : (s.endBackoff b).outer = s.outer := by
  simp [State.endBackoff]

@[simp] theorem State.outer_stageDemands (s : State) (b : Boom) : (s.stageDemands b).outer = s.outer := by
  simp [State.stageDemands]

@[simp] theorem State.outer_startBackoff (s : State) (b : Boom) : (s.startBackoff b).outer = s.outer := by
  simp [State.startBackoff]

/-! ### Setting -/

@[simp] theorem State.outer_startPush (s : State) (b : Boom) : (s.startPush b).outer = s.outer := by
  simp [State.startPush]

@[simp] theorem State.outer_startMix (s : State) (b : Boom) : (s.startMix b).outer = s.outer := by
  simp [State.startMix]

@[simp] theorem State.outer_startHold (s : State) (b : Boom) : (s.startHold b).outer = s.outer := by
  simp [State.startHold]

@[simp] theorem State.outer_startTorque (s : State) (b : Boom) : (s.startTorque b).outer = s.outer := by
  simp [State.startTorque]

@[simp] theorem State.outer_writeMix (s : State) (b : Boom) (e : MixEnd) : (s.writeMix b e).outer = s.outer := by
  simp [State.writeMix]

@[simp] theorem State.outer_writeElapsed (s : State) (b : Boom) (n : Nat) : (s.writeElapsed b n).outer = s.outer := by
  simp [State.writeElapsed]

@[simp] theorem State.outer_cutHold (s : State) (b : Boom) : (s.cutHold b).outer = s.outer := by
  simp [State.cutHold]

@[simp] theorem State.outer_writeTorque (s : State) (b : Boom) : (s.writeTorque b).outer = s.outer := by
  simp [State.writeTorque]

@[simp] theorem State.outer_leaveSetting (s : State) (b : Boom) (p : Phase) (e : MixEnd) : (s.leaveSetting b p e).outer = s.outer := by
  unfold State.leaveSetting
  try dsimp only
  repeat' split
  all_goals simp

/-! ### Sequencer -/

@[simp] theorem State.outer_enterPhase (s : State) (b : Boom) (p : Phase) (f : Sequencer → Sequencer) : (s.enterPhase b p f).outer = s.outer := by
  simp [State.enterPhase]

@[simp] theorem State.outer_leavePhase (s : State) (b : Boom) (e : MixEnd) : (s.leavePhase b e).outer = s.outer := by
  simp [State.leavePhase]

@[simp] theorem State.outer_goHalted (s : State) (b : Boom) (r : HaltReason) : (s.goHalted b r).outer = s.outer := by
  simp [State.goHalted]

@[simp] theorem State.outer_haltCore (s : State) (b : Boom) (r : HaltReason) (e : MixEnd) : (s.haltCore b r e).outer = s.outer := by
  simp [State.haltCore]

@[simp] theorem State.outer_enterMixing (s : State) (b : Boom) : (s.enterMixing b).outer = s.outer := by
  simp [State.enterMixing]

@[simp] theorem State.outer_admitBoom (s : State) (b : Boom) : (s.admitBoom b).outer = s.outer := by
  simp [State.admitBoom]

@[simp] theorem State.outer_testWaiting (n : Nat) (s : State) : (State.testWaiting n s).outer = s.outer := by
  induction n generalizing s with
  | zero => rfl
  | succ n ih =>
    unfold State.testWaiting
    split
    · rw [ih]; simp
    · rfl

@[simp] theorem State.outer_testList (s : State) : (s.testList).outer = s.outer := by
  simp [State.testList]

@[simp] theorem State.outer_releaseFrom (s : State) (b : Boom) (p : Phase) : (s.releaseFrom b p).outer = s.outer := by
  simp [State.releaseFrom]

@[simp] theorem State.outer_halt (s : State) (b : Boom) (r : HaltReason) (e : MixEnd) : (s.halt b r e).outer = s.outer := by
  simp [State.halt]

@[simp] theorem State.outer_pauseBoom (s : State) (b : Boom) (c : Cause) : (s.pauseBoom b c).outer = s.outer := by
  simp [State.pauseBoom]

@[simp] theorem State.outer_arriveBasic (s : State) (b : Boom) (c : Cause) : (s.arriveBasic b c).outer = s.outer := by
  simp [State.arriveBasic]

@[simp] theorem State.outer_takeStanding (s : State) (b : Boom) : (s.takeStanding b).outer = s.outer := by
  exact foldl_keeps State.outer _ (fun s c => State.outer_arriveBasic s b c) _ _

theorem Store.held_close (st : Store) (b : Boom) (r r' : HoleRecord) (h : st.opened.get b = some r) :
    Store.held { st with opened := st.opened.set b none, queue := st.queue ++ [r'] } = st.held := by
  obtain ⟨⟨x, y⟩, q, n⟩ := st
  cases b <;> cases x <;> cases y <;> simp_all [Store.held, PerBoom.set, PerBoom.get]

@[simp] theorem State.outer_closeRecord (s : State) (b : Boom) (c : Option Closing) (r : Option HaltReason) :
    (s.closeRecord b c r).outer = s.outer := by
  unfold State.closeRecord
  dsimp only
  split
  · rfl
  · rename_i x h
    simp only [State.outer_bitClose, State.outer_report]
    simp only [State.outer, State.modStore]
    rw [Store.held_close _ _ x _ h]

@[simp] theorem State.outer_closeHole (s : State) (b : Boom) : (s.closeHole b).outer = s.outer := by
  simp [State.closeHole]

@[simp] theorem State.outer_jackLowered (s : State) (b : Boom) : (s.jackLowered b).outer = s.outer := by
  simp [State.jackLowered]

@[simp] theorem State.outer_startJackDown (s : State) (b : Boom) : (s.startJackDown b).outer = s.outer := by
  simp [State.startJackDown]

@[simp] theorem State.outer_testReleasing (s : State) (b : Boom) : (s.testReleasing b).outer = s.outer := by
  simp [State.testReleasing]

@[simp] theorem State.outer_toReleasing (s : State) (b : Boom) : (s.toReleasing b).outer = s.outer := by
  simp [State.toReleasing]

@[simp] theorem State.outer_abortFrom (s : State) (b : Boom) : (s.abortFrom b).outer = s.outer := by
  simp [State.abortFrom]

@[simp] theorem State.outer_abortHalted (s : State) (b : Boom) : (s.abortHalted b).outer = s.outer := by
  simp [State.abortHalted]

@[simp] theorem State.outer_takeDeferred (s : State) (b : Boom) : (s.takeDeferred b).outer = s.outer := by
  have h : ∀ (l : List Cause) (t : State), (l.foldl (fun s c => s.arriveBasic b c) t).outer = t.outer := fun l t =>
    foldl_keeps State.outer _ (fun s c => State.outer_arriveBasic s b c) l t
  unfold State.takeDeferred
  dsimp only
  rw [h]
  simp only [State.outer_modSeq]
  repeat' split
  all_goals simp

@[simp] theorem State.outer_mixInterrupted (s : State) (b : Boom) : (s.mixInterrupted b).outer = s.outer := by
  simp [State.mixInterrupted]

@[simp] theorem State.outer_arrive (s : State) (b : Boom) (c : Cause) : (s.arrive b c).outer = s.outer := by
  simp [State.arrive]

@[simp] theorem State.outer_enterBoltPush (s : State) (b : Boom) : (s.enterBoltPush b).outer = s.outer := by
  simp [State.enterBoltPush]

@[simp] theorem State.outer_boltPresent (s : State) (b : Boom) : (s.boltPresent b).outer = s.outer := by
  simp [State.boltPresent]

@[simp] theorem State.outer_enterAwaitBolt (s : State) (b : Boom) : (s.enterAwaitBolt b).outer = s.outer := by
  simp [State.enterAwaitBolt]

@[simp] theorem State.outer_enterMixWait (s : State) (b : Boom) : (s.enterMixWait b).outer = s.outer := by
  simp [State.enterMixWait]

@[simp] theorem State.outer_enterGelHold (s : State) (b : Boom) : (s.enterGelHold b).outer = s.outer := by
  simp [State.enterGelHold]

@[simp] theorem State.outer_enterTorquing (s : State) (b : Boom) : (s.enterTorquing b).outer = s.outer := by
  simp [State.enterTorquing]

@[simp] theorem State.outer_mixComplete (s : State) (b : Boom) : (s.mixComplete b).outer = s.outer := by
  simp [State.mixComplete]

@[simp] theorem State.outer_mixPulse (s : State) (b : Boom) : (s.mixPulse b).outer = s.outer := by
  simp [State.mixPulse]

@[simp] theorem State.outer_giveVerdict (s : State) (b : Boom) (v : Verdict) : (s.giveVerdict b v).outer = s.outer := by
  simp [State.giveVerdict]

@[simp] theorem State.outer_stopBoom (s : State) (b : Boom) : (s.stopBoom b).outer = s.outer := by
  simp [State.stopBoom]

/-! ### Indexer -/

@[simp] theorem State.outer_seqBurstEnd (s : State) (b : Boom) (k : BurstEnd) : (s.seqBurstEnd b k).outer = s.outer := by
  unfold State.seqBurstEnd
  try dsimp only
  repeat' split
  all_goals simp

@[simp] theorem State.outer_notifyEnd (s : State) (r : Burst) (k : BurstEnd) : (s.notifyEnd r k).outer = s.outer := by
  simp [State.notifyEnd]

@[simp] theorem State.outer_idxFault (s : State) (c : IdxFault) : (s.idxFault c).outer = s.outer := by
  unfold State.idxFault
  try dsimp only
  repeat' split
  all_goals simp

@[simp] theorem State.outer_readySync (s : State) : (s.readySync).outer = s.outer := by
  unfold State.readySync
  try dsimp only
  repeat' split
  all_goals simp

@[simp] theorem State.outer_enterAwaitReady (s : State) : (s.enterAwaitReady).outer = s.outer := by
  simp [State.enterAwaitReady]

@[simp] theorem State.outer_startStep (s : State) : (s.startStep).outer = s.outer := by
  simp [State.startStep]

@[simp] theorem State.outer_startMove (s : State) : (s.startMove).outer = s.outer := by
  unfold State.startMove
  try dsimp only
  repeat' split
  all_goals simp

@[simp] theorem State.outer_homeFound (s : State) : (s.homeFound).outer = s.outer := by
  simp [State.homeFound]

@[simp] theorem State.outer_startPositioning (s : State) : (s.startPositioning).outer = s.outer := by
  unfold State.startPositioning
  try dsimp only
  repeat' split
  all_goals simp

@[simp] theorem State.outer_takeSlot (s : State) (n : Nat) (f : Bool) : (s.takeSlot n f).outer = s.outer := by
  simp [State.takeSlot]

@[simp] theorem State.outer_trySetAside (s : State) : (s.trySetAside).outer = s.outer := by
  unfold State.trySetAside
  try dsimp only
  repeat' split
  all_goals simp

@[simp] theorem State.outer_starve (s : State) (r : Burst) : (s.starve r).outer = s.outer := by
  simp [State.starve]

@[simp] theorem State.outer_takeHead (s : State) (f : Bool) : (s.takeHead f).outer = s.outer := by
  unfold State.takeHead
  try dsimp only
  repeat' split
  all_goals simp

@[simp] theorem State.outer_endBurst (s : State) (k : BurstEnd) : (s.endBurst k).outer = s.outer := by
  unfold State.endBurst
  try dsimp only
  repeat' split
  all_goals simp

@[simp] theorem State.outer_endWaiting (s : State) (b : Boom) (k : BurstEnd) : (s.endWaiting b k).outer = s.outer := by
  unfold State.endWaiting
  try dsimp only
  repeat' split
  all_goals simp

@[simp] theorem State.outer_retestStarved (s : State) : (s.retestStarved).outer = s.outer := by
  unfold State.retestStarved
  try dsimp only
  repeat' split
  all_goals simp

@[simp] theorem State.outer_postBurst (s : State) (b : Boom) : (s.postBurst b).outer = s.outer := by
  unfold State.postBurst
  try dsimp only
  repeat' split
  all_goals simp

@[simp] theorem State.outer_stopBurst (s : State) (b : Boom) : (s.stopBurst b).outer = s.outer := by
  unfold State.stopBurst
  try dsimp only
  repeat' split
  all_goals simp

@[simp] theorem State.outer_homingStep (s : State) : (s.homingStep).outer = s.outer := by
  unfold State.homingStep
  try dsimp only
  repeat' split
  all_goals simp

@[simp] theorem State.outer_moveStep (s : State) : (s.moveStep).outer = s.outer := by
  unfold State.moveStep
  try dsimp only
  repeat' split
  all_goals simp

@[simp] theorem State.outer_strayStep (s : State) : (s.strayStep).outer = s.outer := by
  unfold State.strayStep
  try dsimp only
  repeat' split
  all_goals simp

@[simp] theorem State.outer_idxStep (s : State) : (s.idxStep).outer = s.outer := by
  unfold State.idxStep
  try dsimp only
  repeat' split
  all_goals simp

@[simp] theorem State.outer_indexFailed (s : State) : (s.indexFailed).outer = s.outer := by
  simp [State.indexFailed]

@[simp] theorem State.outer_cartridgePassed (s : State) (b : Boom) : (s.cartridgePassed b).outer = s.outer := by
  unfold State.cartridgePassed
  try dsimp only
  repeat' split
  all_goals simp

@[simp] theorem State.outer_passFailed (s : State) : (s.passFailed).outer = s.outer := by
  unfold State.passFailed
  try dsimp only
  repeat' split
  all_goals simp

@[simp] theorem State.outer_stopIndexer (s : State) : (s.stopIndexer).outer = s.outer := by
  unfold State.stopIndexer
  dsimp only
  rw [foldl_keeps State.outer _ (fun s r => State.outer_notifyEnd s r .stopped)]
  simp

@[simp] theorem State.outer_clearMagazine (s : State) : (s.clearMagazine).outer = s.outer := by
  simp [State.clearMagazine]

/-! ### Cycle -/

@[simp] theorem State.outer_enterResinInsert (s : State) (b : Boom) : (s.enterResinInsert b).outer = s.outer := by
  simp [State.enterResinInsert]

@[simp] theorem State.outer_sendDecision (s : State) (b : Boom) : (s.sendDecision b).outer = s.outer := by
  simp [State.sendDecision]

@[simp] theorem State.outer_enterAwaitDecision (s : State) (b : Boom) (c : ChoiceSet) : (s.enterAwaitDecision b c).outer = s.outer := by
  simp [State.enterAwaitDecision]

@[simp] theorem State.outer_planHole (s : State) (b : Boom) : (s.planHole b).outer = s.outer := by
  unfold State.planHole
  try dsimp only
  repeat' split
  all_goals simp

@[simp] theorem State.outer_completePlan (s : State) (b : Boom) (n : Nat) : (s.completePlan b n).outer = s.outer := by
  simp [State.completePlan]

@[simp] theorem State.outer_enterRedrill (s : State) (b : Boom) : (s.enterRedrill b).outer = s.outer := by
  simp [State.enterRedrill]

@[simp] theorem State.outer_decideTaken (s : State) (b : Boom) (c : Choice) : (s.decideTaken b c).outer = s.outer := by
  unfold State.decideTaken
  try dsimp only
  repeat' split
  all_goals simp

@[simp] theorem State.outer_enterCollaring (s : State) (b : Boom) : (s.enterCollaring b).outer = s.outer := by
  simp [State.enterCollaring]

@[simp] theorem State.outer_jackAtRoof (s : State) (b : Boom) : (s.jackAtRoof b).outer = s.outer := by
  simp [State.jackAtRoof]

@[simp] theorem State.outer_testJackSet (s : State) (b : Boom) : (s.testJackSet b).outer = s.outer := by
  simp [State.testJackSet]

@[simp] theorem State.outer_enterJackSet (s : State) (b : Boom) : (s.enterJackSet b).outer = s.outer := by
  simp [State.enterJackSet]

@[simp] theorem State.outer_contactMade (s : State) (b : Boom) : (s.contactMade b).outer = s.outer := by
  simp [State.contactMade]

@[simp] theorem State.outer_haltAtSample (s : State) (b : Boom) (r : HaltReason) :
    (s.haltAtSample b r).outer = s.outer := by
  simp [State.haltAtSample]

@[simp] theorem State.outer_enterDrilling (s : State) (b : Boom) : (s.enterDrilling b).outer = s.outer := by
  simp [State.enterDrilling]

@[simp] theorem State.outer_feedRetracted (s : State) (b : Boom) : (s.feedRetracted b).outer = s.outer := by
  simp [State.feedRetracted]

@[simp] theorem State.outer_endDrilling (s : State) (b : Boom) : (s.endDrilling b).outer = s.outer := by
  simp [State.endDrilling]

@[simp] theorem State.outer_reenter (s : State) (b : Boom) (p : Phase) : (s.reenter b p).outer = s.outer := by
  unfold State.reenter
  try dsimp only
  repeat' split
  all_goals simp

@[simp] theorem State.outer_resumeBoom (s : State) (b : Boom) : (s.resumeBoom b).outer = s.outer := by
  unfold State.resumeBoom
  try dsimp only
  repeat' split
  all_goals simp

@[simp] theorem State.outer_abortBurst (s : State) (b : Boom) : (s.abortBurst b).outer = s.outer := by
  simp [State.abortBurst]

@[simp] theorem State.outer_deferAbort (s : State) (b : Boom) : (s.deferAbort b).outer = s.outer := by
  simp [State.deferAbort]

@[simp] theorem State.outer_abortPaused (s : State) (b : Boom) (p : Phase) : (s.abortPaused b p).outer = s.outer := by
  unfold State.abortPaused
  dsimp only
  split <;> simp

@[simp] theorem State.outer_clearStopBoom (s : State) (b : Boom) : (s.clearStopBoom b).outer = s.outer := by
  simp [State.clearStopBoom]

@[simp] theorem State.outer_boomFailed (s : State) (b : Boom) (k : FnKind) : (s.boomFailed b k).outer = s.outer := by
  simp [State.boomFailed]

@[simp] theorem State.outer_takeFailed (s : State) (l : List Fn) : (s.takeFailed l).outer = s.outer := by
  refine foldl_keeps State.outer _ (fun s f => ?_) _ _
  cases f <;> simp

@[simp] theorem State.outer_zeroJogs (s : State) : (s.zeroJogs).outer = s.outer := by
  simp [State.zeroJogs]

/-! ### Settle -/

@[simp] theorem State.outer_tramCheck (s : State) : (s.tramCheck).outer = s.outer := by
  simp [State.tramCheck]

@[simp] theorem State.outer_flushSync (s : State) (b : Boom) : (s.flushSync b).outer = s.outer := by
  simp [State.flushSync]

@[simp] theorem State.outer_takeNewlyFailed (s : State) (v : Valve) : (s.takeNewlyFailed v).outer = s.outer := by
  simp [State.takeNewlyFailed]

@[simp] theorem State.outer_returnOne (q : Bool) (s : State) (f : Fn) :
    (State.returnOne q s f).outer = s.outer := by
  have h : (s.modValve fun _ => (s.valve.setRoute f { s.valve.route f with kind := .primary }).resolve).outer =
      s.outer := State.outer_modValve s _ (Valve.resolve_fixed _)
  unfold State.returnOne
  dsimp only
  repeat' split
  all_goals simp [h]

@[simp] theorem State.outer_returnTest (s : State) (q : Bool) : (s.returnTest q).outer = s.outer :=
  foldl_keeps State.outer _ (fun s f => State.outer_returnOne q s f) _ _

@[simp] theorem State.outer_settle (q : Bool) (n : Nat) (force : Bool) (on : List Bool) (s : State) :
    (State.settle q n force on s).outer = s.outer := by
  induction n generalizing force on s with
  | zero => rfl
  | succ n ih =>
    unfold State.settle
    dsimp only
    repeat' split
    all_goals first
      | (rw [ih]; simp)
      | simp

/-- The end of an event changes nothing of the view. -/
@[simp] theorem State.outer_finishFrom (on : List Bool) (force q : Bool) (s : State) :
    (s.finishFrom on force q).outer = s.outer := by
  simp [State.finishFrom]

@[simp] theorem State.outer_finish (s0 s : State) : (s0.finish s).outer = s.outer := by
  simp [State.finish]

@[simp] theorem State.outer_finishComputed (s0 s : State) : (s0.finishComputed s).outer = s.outer := by
  simp [State.finishComputed]

/-- A fold in the free order keeps what its step keeps. -/
theorem State.outer_inOrder {α : Type} (s : State) (free : Bool) (l : List α) (f : State → α → State)
    (h : ∀ s x, (f s x).outer = s.outer) : (s.inOrder free l f).outer = s.outer := by
  unfold State.inOrder
  split
  · rw [foldl_keeps State.outer f h]; rfl
  · exact foldl_keeps State.outer f h _ _

@[simp] theorem State.outer_takeStop (s : State) (x : StopBlock) : (s.takeStop x).outer = s.outer := by
  cases x <;> simp [State.takeStop]

@[simp] theorem State.outer_arriveTested (s : State) (c : Cause) (b : Boom) :
    (s.arriveTested c b).outer = s.outer := by
  simp [State.arriveTested]

@[simp] theorem State.outer_arriveAll (s : State) (c : Cause) : (s.arriveAll c).outer = s.outer :=
  State.outer_inOrder _ _ _ _ fun s b => State.outer_arriveTested s c b

@[simp] theorem State.outer_takeSilence (s : State) (x : SilencePlace) :
    (s.takeSilence x).outer = s.outer := by
  cases x <;> simp [State.takeSilence]

@[simp] theorem State.outer_doneQuiet (s0 s : State) : (s0.doneQuiet s).outer = s.outer := by
  simp [State.doneQuiet]

/-! ### The sample and the inputs -/

@[simp] theorem State.outer_flushReturned (s : State) (b : Boom) : (s.flushReturned b).outer = s.outer := by
  simp [State.flushReturned]

@[simp] theorem State.outer_takeInput (b : Boom) (s : State) (k : Nat) :
    (State.takeInput b s k).outer = s.outer := by
  unfold State.takeInput
  split <;> simp

@[simp] theorem State.outer_takeInputs (s : State) (b : Boom) (ks : List Nat) :
    (s.takeInputs b ks).outer = s.outer :=
  State.outer_inOrder _ _ _ _ (State.outer_takeInput b)

/-- A single input event is taken as it is. -/
@[simp] theorem State.takeInputs_single (s : State) (b : Boom) (k : Nat) :
    s.takeInputs b [k] = State.takeInput b s k := by
  have h : s.passOrderMatters b [k] = false := by
    simp only [State.passOrderMatters, List.contains_cons, List.contains_nil, Bool.or_false, Bool.and_eq_false_iff,
      Bool.or_eq_false_iff, Input.cartridgePassed, Input.injectorReady, Input.feedRetracted, beq_eq_false_iff_ne]
    omega
  simp [State.takeInputs, State.inOrder, h]

/-- An arrival without an input event. -/
@[simp] theorem State.takeInputs_nil (s : State) (b : Boom) : s.takeInputs b [] = s := rfl

@[simp] theorem State.outer_govSample (s : State) (b : Boom) (adv : Nat) (d : Bool) :
    (s.govSample b adv d).1.outer = s.outer := by
  unfold State.govSample
  dsimp only
  repeat' split
  all_goals simp

@[simp] theorem State.outer_pushSample (s : State) (b : Boom) : (s.pushSample b).1.outer = s.outer := by
  unfold State.pushSample
  dsimp only
  repeat' split
  all_goals simp

@[simp] theorem State.outer_torqueSample (s : State) (b : Boom) (n : Nat) :
    (s.torqueSample b n).1.outer = s.outer := by
  unfold State.torqueSample
  dsimp only
  split <;> simp

@[simp] theorem State.outer_takeGovReport (s : State) (b : Boom) (r : GovReport) :
    (s.takeGovReport b r).outer = s.outer := by
  cases r <;> simp [State.takeGovReport]

@[simp] theorem State.outer_takeSetReport (s : State) (b : Boom) (r : SetReport) :
    (s.takeSetReport b r).outer = s.outer := by
  cases r <;> simp [State.takeSetReport]

@[simp] theorem State.outer_drillSample (s : State) (b : Boom) (n : Nat) :
    (s.drillSample b n).outer = s.outer := by
  simp [State.drillSample]

@[simp] theorem State.outer_workSample (s : State) (b : Boom) (n : Nat) :
    (s.workSample b n).outer = s.outer := by
  unfold State.workSample
  split <;> simp

@[simp] theorem State.outer_takeOverflow (s : State) (b : Boom) : (s.takeOverflow b).outer = s.outer := by
  unfold State.takeOverflow
  dsimp only
  repeat' split
  all_goals simp

@[simp] theorem State.outer_rotationOverflow (s : State) (b : Boom) : (s.rotationOverflow b).outer = s.outer := by
  simp [State.rotationOverflow]

/-- Behind a pulse or a clear, and while NO_ROTATION is set, no overflow is given (R188). -/
theorem State.tickOverflow_of_not_full {s : State} {b : Boom}
    (h : (s.rot.get b).interval < 4095 ∨ (s.rot.get b).noRotation = true) : s.tickOverflow b = s := by
  rcases h with h | h <;> simp [State.tickOverflow, h, Nat.not_le.mpr]

/-- At the full count the tick gives the overflow (R188). -/
theorem State.tickOverflow_of_full {s : State} {b : Boom} (h : 4095 ≤ (s.rot.get b).interval)
    (hn : (s.rot.get b).noRotation = false) : s.tickOverflow b = s.rotationOverflow b := by
  simp [State.tickOverflow, h, hn]

@[simp] theorem State.outer_tickOverflow (s : State) (b : Boom) : (s.tickOverflow b).outer = s.outer := by
  unfold State.tickOverflow
  split <;> simp

@[simp] theorem State.outer_timerOut (s : State) (b : Boom) (i : Nat) : (s.timerOut b i).outer = s.outer := by
  simp [State.timerOut]

@[simp] theorem State.outer_gelExpired (s : State) (b : Boom) : (s.gelExpired b).outer = s.outer := by
  simp [State.gelExpired]

@[simp] theorem State.outer_readyExpired (s : State) : s.readyExpired.outer = s.outer := by
  simp [State.readyExpired]

@[simp] theorem State.outer_passExpired (s : State) : s.passExpired.outer = s.outer := by
  simp [State.passExpired]

@[simp] theorem State.outer_stepExpired (s : State) : s.stepExpired.outer = s.outer := by
  simp [State.stepExpired]

end Sys2Proof.Machine
end

