-- ==== Sys2Proof/Laws/Settle.lean ====
section
/-! SUPPORT. The end of an event with no waiting reservation that fits and no function that may return to its
primary, as in every calm state: only the grants, the duties and the timers that follow an input change. -/

namespace Sys2Proof.Machine

theorem Valve.route_calm {v : Valve} (h : ∀ r ∈ v.routes, r.kind ≠ .alternate) (f : Fn) :
    (v.route f).kind ≠ .alternate := by
  unfold Valve.route
  rw [List.getD_eq_getElem?_getD]
  cases h' : v.routes[f.num]? with
  | none => simp [Route.default]
  | some r => exact h r (List.mem_of_getElem? h')

theorem State.calm_waiting {s : State} (h : s.calm = true) : s.arb.waiting = [] := by
  simp only [State.calm, Bool.and_eq_true, List.isEmpty_iff] at h
  exact h.1

theorem State.calm_routes {s : State} (h : s.calm = true) : ∀ r ∈ s.valve.routes, r.kind ≠ .alternate := by
  simp only [State.calm, Bool.and_eq_true, List.all_eq_true, decide_eq_true_eq] at h
  exact h.2

/-- With nothing waiting the list's test does nothing (R155). -/
theorem State.testList_nil {s : State} (h : s.arb.waiting = []) : s.testList = s := by
  simp [State.testList, State.testWaiting, h]

/-- No function may return to its primary, whatever is at rest (R171). -/
def Valve.Still (v : Valve) : Prop := ∀ rest f, v.mayReturn rest f = false

/-- A function on its alternate stays there while its primary channel is not OK (R171). -/
theorem Valve.still_of_faulted {v : Valve}
    (h : ∀ f, (v.route f).kind = .alternate → v.chOk (v.route f).primary = false) : v.Still := by
  intro rest f
  by_cases hk : (v.route f).kind = .alternate
  · simp [Valve.mayReturn, h f hk]
  · simp [Valve.mayReturn, hk]

/-- In a calm state no function may return. -/
theorem State.calm_still {s : State} (h : s.calm = true) : s.valve.Still :=
  Valve.still_of_faulted fun f hk => absurd hk (Valve.route_calm (State.calm_routes h) f)

/-- When no function may return the return test does nothing (R171). -/
theorem State.returnTest_still {s : State} (h : s.valve.Still) (q : Bool) : s.returnTest q = s := by
  have h1 : ∀ f, State.returnOne q s f = s := fun f => if_neg (by simp [h _ f])
  have h2 : ∀ l : List Fn, l.foldl (State.returnOne q) s = s := by
    intro l
    induction l with
    | nil => rfl
    | cons f l ih => rw [List.foldl_cons, h1, ih]
  exact h2 _

/-- `t` is `s` with other results of a grant computation. -/
def State.FlowOnly (s t : State) : Prop :=
  ∃ fl u fd, t = s.modArb fun a => { a with flow := fl, unused := u, failed := fd }

theorem State.FlowOnly.refl (s : State) : s.FlowOnly s :=
  ⟨s.arb.flow, s.arb.unused, s.arb.failed, rfl⟩

/-- A computation changes the grants, the FAILED set it read and the flow left unused, and nothing else. -/
theorem State.FlowOnly.compute {s t : State} (h : s.FlowOnly t) : s.FlowOnly t.computeFlow := by
  obtain ⟨fl, u, fd, rfl⟩ := h
  exact ⟨_, _, _, rfl⟩

theorem State.FlowOnly.valve {s t : State} (h : s.FlowOnly t) : t.valve = s.valve := by
  obtain ⟨fl, u, fd, rfl⟩ := h
  rfl

theorem State.FlowOnly.firstFit {s t : State} (h : s.FlowOnly t) : t.firstFit = s.firstFit := by
  obtain ⟨fl, u, fd, rfl⟩ := h
  rfl

theorem State.firstFit_nil {s : State} (h : s.arb.waiting = []) : s.firstFit = none := by
  simp [State.firstFit, h]

/-- With no waiting reservation that fits, the test of the list does nothing (R154). -/
theorem State.testList_none {s : State} (h : s.firstFit = none) : s.testList = s := by
  unfold State.testList
  generalize s.arb.waiting.length = n
  cases n with
  | zero => rfl
  | succ n => simp [State.testWaiting, h]

theorem newlyFailed_self (fs : List Fn) : newlyFailed fs fs = [] := by simp [newlyFailed]

@[simp] theorem State.takeFailed_nil (s : State) : s.takeFailed [] = s := rfl

/-- With the routes as they were no function is newly FAILED (R172). -/
theorem State.takeNewlyFailed_same {s : State} {v : Valve} (h : s.valve.failedFns = v.failedFns) :
    s.takeNewlyFailed v = s := by
  rw [State.takeNewlyFailed, h, newlyFailed_self]; rfl

/-- One round of an event with nothing to admit or to return: a computation when one is due. -/
theorem State.settle_round {s : State} (hw : s.firstFit = none)
    (hr : s.valve.Still) (q : Bool) (n : Nat) (force : Bool) (on : List Bool) :
    State.settle q (n + 1) force on s =
      (let t := if force || s.flowStale then s.computeFlow else s
       if (force || s.flowStale) || t.onStates != on then State.settle q n false t.onStates t else t) := by
  have ht : (if force || s.flowStale then s.computeFlow else s).valve = s.valve := by
    split <;> rfl
  have hrt := State.returnTest_still (s := if force || s.flowStale then s.computeFlow else s)
    (by rw [ht]; exact hr) q
  refine (State.settle.eq_2 ..).trans ?_
  simp only [State.testList_none hw, hrt]

/-- Those rounds change nothing but what a computation does. -/
theorem State.settle_still {s : State} (hw : s.firstFit = none) (hr : s.valve.Still) (q : Bool) :
    ∀ (n : Nat) (force : Bool) (on : List Bool) (t : State), s.FlowOnly t →
      s.FlowOnly (State.settle q n force on t) := by
  intro n
  induction n with
  | zero => intro force on t ht; exact ht
  | succ n ih =>
    intro force on t ht
    have hv := ht.valve
    rw [State.settle_round (ht.firstFit.trans hw) (hv ▸ hr) q n force on]
    have h1 : s.FlowOnly (if force || t.flowStale then t.computeFlow else t) := by
      split
      · exact ht.compute
      · exact ht
    dsimp only
    generalize (if force || t.flowStale then t.computeFlow else t) = u at h1 ⊢
    split
    · exact ih _ _ _ h1
    · exact h1

/-- What every computation establishes, the rounds keep. -/
theorem State.settle_closed {s : State} {Q : State → Prop} (hw : s.firstFit = none) (hr : s.valve.Still)
    (hQ : ∀ t : State, Q t.computeFlow) (q : Bool) :
    ∀ (n : Nat) (force : Bool) (on : List Bool) (t : State), s.FlowOnly t → Q t →
      Q (State.settle q n force on t) := by
  intro n
  induction n with
  | zero => intro force on t _ ht; exact ht
  | succ n ih =>
    intro force on t hf ht
    rw [State.settle_round (hf.firstFit.trans hw) (hf.valve ▸ hr) q n force on]
    have h1 : s.FlowOnly (if force || t.flowStale then t.computeFlow else t) := by
      split
      · exact hf.compute
      · exact hf
    have h2 : Q (if force || t.flowStale then t.computeFlow else t) := by
      split
      · exact hQ t
      · exact ht
    dsimp only
    generalize (if force || t.flowStale then t.computeFlow else t) = u at h1 h2 ⊢
    split
    · exact ih _ _ _ h1 h2
    · exact h2

/-- A forced round is a computation. -/
theorem State.settle_forced {s : State} {Q : State → Prop} (hw : s.firstFit = none) (hr : s.valve.Still)
    (hQ : ∀ t : State, Q t.computeFlow) (q : Bool) (n : Nat) (on : List Bool) :
    Q (State.settle q (n + 1) true on s) := by
  rw [State.settle_round hw hr q n true on]
  simp only [Bool.true_or, if_true]
  exact State.settle_closed hw hr hQ q _ _ _ _ (State.FlowOnly.refl s).compute (hQ s)

/-! ### The end of an event -/

/-- A computation leaves the grants of the values it reads (R147). -/
theorem State.computeFlow_computed (s : State) : s.computeFlow.FlowComputed := rfl

/-- A computation leaves nothing stale (R148). -/
theorem State.computeFlow_stale (s : State) : s.computeFlow.flowStale = false := by
  have h1 : s.computeFlow.flowInputs = s.flowInputs := rfl
  have h2 : ∀ (p : Nat) (rs : List FlowRec), (grantAll p rs).1.map FlowRec.input = rs.map FlowRec.input := by
    intro p rs
    have h : ∀ (c : FlowClass) (r : Nat) (l : List FlowRec),
        (grantClass c r l).map FlowRec.input = l.map FlowRec.input := by
      intro c r l
      unfold grantClass
      rw [List.map_map]
      refine List.map_congr_left fun x _ => ?_
      by_cases hx : x.cls = c <;> simp [hx, FlowRec.input]
    simp only [grantAll, h]
  have h3 : s.computeFlow.arb.flow = (grantAll (s.live P.pumpFlow) s.flowInputs).1 := rfl
  have h4 : s.computeFlow.arb.failed = s.valve.failedFns := rfl
  have h5 : s.computeFlow.valve = s.valve := rfl
  simp [State.flowStale, h1, h2, h3, h4, h5]

/-- Those rounds end with no stale value. -/
theorem State.settle_fresh {s : State} (hw : s.firstFit = none)
    (hr : s.valve.Still) (q : Bool) :
    ∀ (n : Nat) (force : Bool) (on : List Bool) (t : State), s.FlowOnly t →
      (State.settle q (n + 1) force on t).flowStale = false := by
  intro n
  induction n with
  | zero =>
    intro force on t ht
    have hv := ht.valve
    rw [State.settle_round (ht.firstFit.trans hw) (hv ▸ hr) q 0 force on]
    dsimp only [State.settle]
    rw [ite_self]
    by_cases h : (force || t.flowStale) = true
    · rw [if_pos h]; exact t.computeFlow_stale
    · rw [if_neg h]
      simp only [Bool.or_eq_true, not_or, Bool.not_eq_true] at h
      exact h.2
  | succ n ih =>
    intro force on t ht
    have hv := ht.valve
    rw [State.settle_round (ht.firstFit.trans hw) (hv ▸ hr) q (n + 1) force on]
    have h1 : s.FlowOnly (if force || t.flowStale then t.computeFlow else t) := by
      split
      · exact ht.compute
      · exact ht
    have h2 : (if force || t.flowStale then t.computeFlow else t).flowStale = false := by
      by_cases h : (force || t.flowStale) = true
      · rw [if_pos h]; exact t.computeFlow_stale
      · rw [if_neg h]
        simp only [Bool.or_eq_true, not_or, Bool.not_eq_true] at h
        exact h.2
    dsimp only
    generalize (if force || t.flowStale then t.computeFlow else t) = u at h1 h2 ⊢
    split
    · exact ih _ _ _ h1
    · exact h2

@[simp] theorem State.tramCheck_valve (s : State) : s.tramCheck.valve = s.valve := by
  unfold State.tramCheck; split <;> rfl

@[simp] theorem State.tramCheck_arb (s : State) : s.tramCheck.arb = s.arb := by
  unfold State.tramCheck; split <;> rfl

theorem State.tramCheck_firstFit (s : State) : s.tramCheck.firstFit = s.firstFit := by
  unfold State.tramCheck; split <;> rfl

/-- What the staleness of the grants reads of a state (R148). -/
structure FlowAgree (s t : State) : Prop where
  seq : t.seq = s.seq
  sett : t.sett = s.sett
  straps : t.straps = s.straps
  jog : t.indexJog = s.indexJog
  demand : t.idx.demand = s.idx.demand
  arb : t.arb = s.arb
  routes : t.valve.routes = s.valve.routes
  gov : ∀ b k, (t.gov.get b).demand k = (s.gov.get b).demand k

theorem FlowAgree.refl (s : State) : FlowAgree s s := ⟨rfl, rfl, rfl, rfl, rfl, rfl, rfl, fun _ _ => rfl⟩

theorem FlowAgree.trans {s t u : State} (h : FlowAgree s t) (k : FlowAgree t u) : FlowAgree s u :=
  ⟨k.seq.trans h.seq, k.sett.trans h.sett, k.straps.trans h.straps, k.jog.trans h.jog,
    k.demand.trans h.demand, k.arb.trans h.arb, k.routes.trans h.routes,
    fun b x => (k.gov b x).trans (h.gov b x)⟩

theorem Valve.isFailed_congr {v w : Valve} (h : w.routes = v.routes) : w.isFailed = v.isFailed := by
  funext f
  simp [Valve.isFailed, Valve.route, h]

theorem Valve.failedFns_congr {v w : Valve} (h : w.routes = v.routes) : w.failedFns = v.failedFns := by
  simp [Valve.failedFns, Valve.isFailed_congr h]

theorem FlowAgree.asked {s t : State} (h : FlowAgree s t) (f : Fn) : t.asked f = s.asked f := by
  cases f with
  | index => simp [State.asked, h.demand, h.jog]
  | tram => rfl
  | boom b k => simp [State.asked, State.present, State.phaseDemand, State.phase, h.seq, h.sett, h.straps, h.gov]

theorem FlowAgree.flowClass {s t : State} (h : FlowAgree s t) (f : Fn) : t.flowClass f = s.flowClass f := by
  cases f with
  | index => rfl
  | tram => rfl
  | boom b k =>
    have hp : t.phase b = s.phase b := by simp [State.phase, h.seq]
    cases k <;> simp only [State.flowClass, hp]

theorem FlowAgree.withheld {s t : State} (h : FlowAgree s t) (f : Fn) : t.withheld f = s.withheld f := by
  simp [State.withheld, h.arb, Valve.isFailed_congr h.routes]

theorem FlowAgree.inputs {s t : State} (h : FlowAgree s t) : t.flowInputs = s.flowInputs := by
  simp [State.flowInputs, State.effective, h.asked, h.flowClass, h.withheld]

theorem FlowAgree.stale {s t : State} (h : FlowAgree s t) : t.flowStale = s.flowStale := by
  simp [State.flowStale, h.inputs, h.arb, Valve.failedFns_congr h.routes]

theorem State.flushSync_agree (s : State) (b : Boom) : FlowAgree s (s.flushSync b) := by
  refine ⟨rfl, rfl, rfl, rfl, rfl, rfl, rfl, fun c k => ?_⟩
  cases b <;> cases c <;> cases k <;> rfl

theorem State.readySync_agree (s : State) : FlowAgree s s.readySync := by
  unfold State.readySync
  repeat' split
  all_goals exact ⟨rfl, rfl, rfl, rfl, rfl, rfl, rfl, fun _ _ => rfl⟩

theorem State.computeDuties_agree (s : State) : FlowAgree s s.computeDuties :=
  ⟨rfl, rfl, rfl, rfl, rfl, rfl, rfl, fun _ _ => rfl⟩

/-- What follows the rounds. -/
def State.afterRounds (t : State) : State := ((t.flushSync .A).flushSync .B).readySync

theorem State.afterRounds_agree (t : State) : FlowAgree t t.afterRounds :=
  ((t.flushSync_agree .A).trans (State.flushSync_agree _ .B)).trans (State.readySync_agree _)

/-- The duties after they are computed are those the state then gives. -/
theorem State.computeDuties_duty (s : State) :
    ∀ c ∈ s.computeDuties.valve.channels, c.duty = s.computeDuties.channelDuty c := by
  intro c hc
  simp only [State.computeDuties, State.modValve, List.mem_map] at hc
  obtain ⟨x, _, rfl⟩ := hc
  rfl

theorem State.core_core (s : State) : s.core.core = s.core := by
  simp [State.core, Function.comp_def]

theorem State.flushSync_core (s : State) (b : Boom) : (s.flushSync b).core = s.core.flushSync b := by
  cases b <;> rfl

theorem State.readySync_core (s : State) : s.readySync.core = s.core.readySync := by
  unfold State.readySync
  have h1 : s.core.idx = s.idx := rfl
  have h2 : ∀ b, s.core.requesterPaused b = s.requesterPaused b := fun _ => rfl
  have h3 : ∀ b k, s.core.active b k = s.active b k := fun _ _ => rfl
  simp only [h1, h2, h3]
  repeat' split
  all_goals rfl

/-- What follows the rounds does not read the last computation. -/
theorem State.afterRounds_core (t : State) : t.afterRounds.core = t.core.afterRounds := by
  simp only [State.afterRounds, State.readySync_core, State.flushSync_core]

theorem State.computeDuties_core (t : State) : t.computeDuties.core = t.core := by
  simp [State.computeDuties, State.core, State.modValve, Function.comp_def]

theorem State.FlowOnly.core {s t : State} (h : s.FlowOnly t) : t.core = s.core := by
  obtain ⟨fl, u, fd, rfl⟩ := h
  rfl

theorem State.tramCheck_agree (s : State) : FlowAgree s s.tramCheck := by
  unfold State.tramCheck
  split
  · exact ⟨rfl, rfl, rfl, rfl, rfl, rfl, rfl, fun _ _ => rfl⟩
  · exact FlowAgree.refl s

@[simp] theorem State.readySync_params (s : State) : s.readySync.params = s.params := by
  unfold State.readySync
  repeat' split
  all_goals rfl

@[simp] theorem State.afterRounds_params (s : State) : s.afterRounds.params = s.params := by
  simp only [State.afterRounds, State.readySync_params]; rfl

/-- States that agree in what the computation reads and in its result have the same grants computed. -/
theorem FlowAgree.computed {s t : State} (h : FlowAgree s t) (hp : t.params = s.params)
    (hs : s.FlowComputed) : t.FlowComputed := by
  simpa [State.FlowComputed, State.live, h.inputs, h.arb, hp] using hs

/-- What follows the rounds keeps the grants computed. -/
theorem State.FlowComputed.ended {t : State} (h : t.FlowComputed) : t.afterRounds.computeDuties.FlowComputed :=
  (State.computeDuties_agree _).computed rfl (t.afterRounds_agree.computed (by simp) h)

/-- The end of an event at which the Arbiter recomputes leaves the grants of the values as they stand. -/
theorem State.finishComputed_computed {s0 s : State} (hw : s.firstFit = none) (hr : s.valve.Still) :
    (s0.finishComputed s).FlowComputed := by
  have hst : (State.settle false settleRounds true s0.onStates s.tramCheck).FlowComputed :=
    State.settle_forced (Q := State.FlowComputed) (by rw [State.tramCheck_firstFit, hw]) (by simpa using hr)
      State.computeFlow_computed false 39 _
  have he : s0.finishComputed s =
      (State.settle false settleRounds true s0.onStates s.tramCheck).afterRounds.computeDuties := rfl
  rw [he]
  exact hst.ended

/-- The end of an event that leaves nothing to admit and nothing to return. -/
theorem State.finishFrom_ends_still {s : State} (hw : s.firstFit = none) (hr : s.valve.Still)
    (on : List Bool) (force q : Bool) : s.Ends (s.finishFrom on force q) := by
  have hw' : s.tramCheck.firstFit = none := by rw [State.tramCheck_firstFit, hw]
  have hr' : s.tramCheck.valve.Still := by simpa using hr
  have hfl : s.tramCheck.FlowOnly (State.settle q settleRounds force on s.tramCheck) :=
    State.settle_still hw' hr' q settleRounds force on _ (State.FlowOnly.refl _)
  have hst : (State.settle q settleRounds force on s.tramCheck).flowStale = false :=
    State.settle_fresh hw' hr' q 39 force on _ (State.FlowOnly.refl _)
  have hcl : (State.settle q settleRounds force on s.tramCheck).FlowComputed ∨
      State.settle q settleRounds force on s.tramCheck = s.tramCheck :=
    State.settle_closed (Q := fun t => t.FlowComputed ∨ t = s.tramCheck) hw' hr'
      (fun t => .inl t.computeFlow_computed) q settleRounds force on _ (State.FlowOnly.refl _) (.inr rfl)
  have he : s.finishFrom on force q =
      (State.settle q settleRounds force on s.tramCheck).afterRounds.computeDuties := rfl
  generalize State.settle q settleRounds force on s.tramCheck = t at hfl hst hcl he
  rw [he]
  have harb : t.afterRounds.computeDuties.arb = t.arb :=
    (State.computeDuties_agree _).arb.trans t.afterRounds_agree.arb
  refine ⟨?_, ⟨?_, hcl.imp State.FlowComputed.ended fun h => ?_⟩, State.computeDuties_duty _⟩
  · rw [State.computeDuties_core, State.afterRounds_core, hfl.core, ← State.afterRounds_core]
    rfl
  · rw [(State.computeDuties_agree _).stale, t.afterRounds_agree.stale, hst]
  · rw [harb, h, State.tramCheck_arb]
    exact ⟨s.tramCheck_agree.stale ▸ h ▸ hst, rfl, rfl⟩

/-- The end of an event in a calm state. -/
theorem State.finishFrom_ends {s : State} (h : s.calm = true) (on : List Bool) (force q : Bool) :
    s.Ends (s.finishFrom on force q) :=
  State.finishFrom_ends_still (State.firstFit_nil (State.calm_waiting h)) (State.calm_still h) on force q

/-- The end of an event that leaves a still state: what waits does not fit, and nothing may return. -/
theorem State.finish_ends_of_still {s0 s : State} (h : s.still = true) : s.Ends (s0.finish s) := by
  simp only [State.still, Bool.and_eq_true, List.all_eq_true, decide_eq_true_eq, Bool.not_eq_true'] at h
  refine State.finishFrom_ends_still (List.find?_eq_none.mpr fun b hb => by simp [h.1 b hb]) ?_ _ _ _
  exact Valve.still_of_faulted fun f hk => absurd hk (Valve.route_calm h.2 f)

/-- A calm state is still. -/
theorem State.still_of_calm {s : State} (h : s.calm = true) : s.still = true := by
  simp [State.still, State.calm_waiting h]
  exact fun r hr => State.calm_routes h r hr

/-- The end of an event that leaves a calm state. -/
theorem State.finish_ends {s0 s : State} (h : s.calm = true) : s.Ends (s0.finish s) :=
  State.finishFrom_ends h _ _ _

/-- The end of an event that leaves a calm state and at which the Arbiter recomputes. -/
theorem State.finishComputed_ends {s0 s : State} (h : s.calm = true) : s.Ends (s0.finishComputed s) :=
  State.finishFrom_ends h _ _ _

/-- A change of the Link Port after the end of an event is one before it. -/
theorem State.Ends.modLink {x t : State} (h : x.Ends t) (f : Link → Link) :
    (x.modLink f).Ends (t.modLink f) := by
  obtain ⟨h1, ⟨h2, hf⟩, h3⟩ := h
  have hs : ∀ y : State, FlowAgree y (y.modLink f) :=
    fun _ => ⟨rfl, rfl, rfl, rfl, rfl, rfl, rfl, fun _ _ => rfl⟩
  refine ⟨?_, ⟨?_, hf.imp ((hs t).computed rfl) fun h => ⟨(hs x).stale ▸ h.1, h.2⟩⟩, h3⟩
  · have e1 : (t.modLink f).core = t.core.modLink f := rfl
    have e2 : ∀ y : State, (y.modLink f).afterEvent = y.afterEvent.modLink f := by
      intro y
      have a1 : (y.modLink f).tramCheck = y.tramCheck.modLink f := by
        unfold State.tramCheck
        have : ∀ b k, (y.modLink f).active b k = y.active b k := fun _ _ => rfl
        simp only [this]
        show (if (y.tram && y.booms.any fun b => !y.active b Input.jackLowered) = true then _ else _) = _
        split <;> rfl
      have a2 : ∀ (z : State) b, (z.modLink f).flushSync b = (z.flushSync b).modLink f := by
        intro z b; cases b <;> rfl
      have a3 : ∀ z : State, (z.modLink f).readySync = z.readySync.modLink f := by
        intro z
        unfold State.readySync
        have i1 : (z.modLink f).idx = z.idx := rfl
        have i2 : ∀ b, (z.modLink f).requesterPaused b = z.requesterPaused b := fun _ => rfl
        have i3 : ∀ b k, (z.modLink f).active b k = z.active b k := fun _ _ => rfl
        simp only [i1, i2, i3]
        repeat' split
        all_goals rfl
      simp only [State.afterEvent, a1, a2, a3]
    rw [e1, h1, e2]
    rfl
  · rw [(hs t).stale, h2]

/-- An operation that leaves the outer view as it was keeps the state around the cycle. -/
theorem State.keeps_of_outer {s t : State} (h : t.outer = s.outer) : s.Keeps t := by
  refine ⟨congrArg Outer.pending h, congrArg Outer.power h, congrArg Outer.startTimer h,
    congrArg Outer.resetCause h, congrArg Outer.straps h, congrArg Outer.params h, congrArg Outer.bands h,
    congrArg Outer.head h, congrArg Outer.diu h, ?_, congrArg Outer.counter h,
    congrArg Outer.channels h⟩
  have hl : t.link.line = s.link.line := congrArg Outer.line h
  exact congrArg
    (fun l : Link => { l with reports := s.link.reports, dropped := s.link.dropped }) hl

end Sys2Proof.Machine
end

