-- ==== Sys2Proof/Laws/Valve.lean ====
section
/-! SUPPORT. The resolution of conflicts and the replacement of a route (R168, R170): what they do to each route
and each channel, said once. -/

namespace Sys2Proof.Machine

/-- A resolution sets a route's ROUTE_CONFLICT flag and nothing else of it (R170). -/
@[simp] theorem Valve.resolve_route (v : Valve) (f : Fn) :
    v.resolve.route f = { v.route f with conflict := v.loses f } := by
  cases f with
  | boom b k => cases b <;> cases k <;> rfl
  | _ => rfl

@[simp] theorem Valve.resolve_channels_length (v : Valve) :
    v.resolve.channels.length = v.channels.length := by simp [Valve.resolve]

/-- A resolution sets the function a channel is driven by and nothing else of it (R160, R170). -/
theorem Valve.resolve_channel {v : Valve} {n : Nat} (h : n < v.channels.length) :
    v.resolve.channel n = { v.channel n with driving := (v.claimants n).head? } := by
  simp [Valve.resolve, Valve.channel, h]

theorem Valve.loses_iff (v : Valve) (f : Fn) : v.loses f = true ↔
    ∃ n, (v.route f).claims = some n ∧ ∃ h ∈ allFns, h.num < f.num ∧ (v.route h).claims = some n := by
  unfold Valve.loses
  cases (v.route f).claims <;> simp

/-- The functions are listed in number order. -/
theorem allFns_ascending : allFns.Pairwise fun f g => f.num < g.num := by decide

theorem mem_allFns (f : Fn) : f ∈ allFns := by
  cases f with
  | boom b k => cases b <;> cases k <;> decide
  | _ => decide

theorem Fn.num_inj {f g : Fn} (h : f.num = g.num) : f = g := by
  have hs : ∀ f ∈ allFns, ∀ g ∈ allFns, f.num = g.num → f = g := by decide
  exact hs f (mem_allFns f) g (mem_allFns g) h

/-- The driver of a channel is the lowest-numbered of its claimants (R170). -/
theorem Valve.claimants_head (v : Valve) (n : Nat) (f : Fn) : (v.claimants n).head? = some f ↔
    (v.route f).claims = some n ∧ ∀ h ∈ allFns, h.num < f.num → (v.route h).claims ≠ some n := by
  have key : ∀ l : List Fn, l.Pairwise (fun f g => f.num < g.num) → f ∈ l →
      ((l.filter fun g => (v.route g).claims = some n).head? = some f ↔
        (v.route f).claims = some n ∧ ∀ h ∈ l, h.num < f.num → (v.route h).claims ≠ some n) := by
    intro l
    induction l with
    | nil => intro _ h; cases h
    | cons g l ih =>
      intro hp hf
      obtain ⟨h1, h2⟩ := List.pairwise_cons.1 hp
      by_cases hg : (v.route g).claims = some n
      · rw [List.filter_cons_of_pos (by simpa using hg)]
        constructor
        · rintro ⟨⟩
          exact ⟨hg, fun h hh hlt => by
            rcases List.mem_cons.1 hh with rfl | hh
            · exact absurd hlt (Nat.lt_irrefl _)
            · exact absurd hlt (Nat.lt_asymm (h1 h hh))⟩
        · rintro ⟨_, hall⟩
          rcases List.mem_cons.1 hf with rfl | hf
          · rfl
          · exact absurd hg (hall g (List.mem_cons_self ..) (h1 f hf))
      · rw [List.filter_cons_of_neg (by simpa using hg)]
        rcases List.mem_cons.1 hf with rfl | hf
        · constructor
          · intro h
            have := List.mem_of_mem_head? h
            simp only [List.mem_filter, decide_eq_true_eq] at this
            exact absurd this.2 hg
          · rintro ⟨h, _⟩; exact absurd h hg
        · rw [ih h2 hf]
          simp [hg]
  exact key allFns allFns_ascending (mem_allFns f)

/-- A resolution leaves the conflicts resolved (R160, R170). -/
theorem Valve.resolve_resolved (v : Valve) : v.resolve.Resolved := by
  have hc : ∀ g, (v.resolve.route g).claims = (v.route g).claims := by intro g; simp [Route.claims]
  refine ⟨fun g _ => ?_, fun n hn g => ?_⟩
  · rw [Valve.resolve_route]
    simp only [hc]
    exact v.loses_iff g
  · rw [Valve.resolve_channels_length] at hn
    rw [Valve.resolve_channel hn]
    simp only [hc]
    exact v.claimants_head n g

/-- The replaced entry is the named function's, the other entries stay (R168). -/
theorem Valve.setRoute_route {v : Valve} (h : v.routes.length = 16) (f : Fn) (r : Route) (g : Fn) :
    (v.setRoute f r).route g = if g = f then r else v.route g := by
  have hf : f.num < v.routes.length := by
    have : ∀ f ∈ allFns, f.num < 16 := by decide
    rw [h]; exact this f (mem_allFns f)
  unfold Valve.setRoute Valve.route
  by_cases hg : g = f
  · subst hg; simp [hf]
  · have : f.num ≠ g.num := fun e => hg (Fn.num_inj e.symm)
    simp [hg, this]

@[simp] theorem Valve.setRoute_channels (v : Valve) (f : Fn) (r : Route) :
    (v.setRoute f r).channels = v.channels := rfl

end Sys2Proof.Machine
end

