-- ==== Sys2Proof/Tests/Slice0.lean ====
section
/-! SUPPORT. Tests: the smoke test of WellFormed, the worked cases of the manual, and for every statement with
hypotheses a concrete state and operands that meet them, clause by clause (`test_hyp_<Name>`). -/

namespace Sys2Proof.Tests

open Sys2Proof.Machine

/-! ### WellFormed refuses what cannot be given -/

theorem test_wf_refuses_long_body : Instr.wf (.ping 0 (List.replicate 241 0)) = false := by decide +kernel
theorem test_wf_takes_full_body : Instr.wf (.ping 0 (List.replicate 240 0)) = true := by decide +kernel
theorem test_wf_refuses_known_kind : Instr.wf (.unknownKindRequest 0x10 0 []) = false := by decide
theorem test_wf_takes_unknown_kind : Instr.wf (.unknownKindRequest 0x16 0 []) = true := by decide
theorem test_wf_refuses_empty_bytes : Instr.wf (.frameArrival []) = false := by decide
theorem test_wf_refuses_nineteen_channels :
    Instr.wf (.valveCurrentReading (List.replicate 19 0)) = false := by decide
theorem test_wf_refuses_short_len : Instr.wf (.lenAbove240Discard 240) = false := by decide

/-! ### Worked cases of the manual -/

/-- The full segment of section 2.4 (R47, R53): SE 707, work 8,093,982 mJ. -/
theorem test_worked_segment :
    specificEnergy 240000 75000 270 200 = 707 ∧ segWork 240000 75000 = 8093982 := by decide

/-- One segment of the Layer List example of section 2.8, 200 tenths long. -/
def seg (k se : Nat) (c : Cls) : Segment :=
  { index := k, top := 200 * k, bottom := 200 * (k + 1), samples := 1, se := se, cls := c, flags := .empty }

/-- The fifteen segments of the example "building a Layer List". -/
def fifteen : List Segment :=
  [seg 0 210 .medium, seg 1 235 .medium, seg 2 450 .hard, seg 3 260 .medium, seg 4 240 .medium,
   seg 5 90 .soft, seg 6 22 .void, seg 7 15 .void, seg 8 120 .soft, seg 9 300 .medium,
   seg 10 950 .veryHard, seg 11 280 .medium, seg 12 520 .hard, seg 13 610 .hard, seg 14 480 .hard]

/-- The six layers that the example gives (R57 to R60). -/
theorem test_worked_layers : (buildLayers fifteen).map
    (fun l => ((l.top, l.bottom, l.cls), [l.count, l.minSe, l.maxSe, l.meanSe])) =
  [((0, 100, .medium), [5, 210, 450, 279]), ((100, 120, .soft), [1, 90, 90, 90]),
   ((120, 160, .void), [2, 15, 22, 18]), ((160, 180, .soft), [1, 120, 120, 120]),
   ((180, 240, .medium), [3, 280, 950, 510]), ((240, 300, .hard), [3, 480, 610, 536])] := by decide

/-- The hole spec of the first worked plan of chapter 4. -/
def spec1 : Spec := { planned := 1850, holeDia := 270, boltLen := 1800, boltDia := 220, fastCount := 1 }

/-- A fresh record of boom A with that spec and the default parameters. -/
def rec1 : HoleRecord := HoleRecord.fresh 1 .A 2 spec1 [] (holeCopy defaultParams)

/-- The worked plans of chapter 4: Vreq and ns of the first case, ns with one fast cartridge more, and the
charge held at eight of the third (R92 to R95). -/
theorem test_worked_plans :
    (let p := rec1.complete { rec1.newPlan with le := some 1700, nv := some 2 } 1
     p.vreq = some 4263000000 ∧ p.ns = some 1 ∧ p.types = some [.fast, .slow]) ∧
    (rec1.complete { rec1.newPlan with le := some 1700, nv := some 2 } 2).ns = some 1 ∧
    (let r := { rec1 with spec := { rec1.spec with holeDia := 350 }, params := rec1.params.set P.voidExtra 300 }
     let p := r.complete { r.newPlan with le := some 2300, nv := some 9 } 3
     p.vreq = some 21044400000 ∧ p.ns = some 5 ∧ p.flags.shortResin = true) := by decide

/-- A record of the grant computation. -/
def ask (f : Fn) (c : FlowClass) (n : Nat) : FlowRec :=
  { fn := f, asked := n, cls := c, effective := n, cause := .none, grant := 0, limited := false }

/-- The worked division of section 7.2, and the duties of its grants of section 8.2 (R147, R162). -/
theorem test_worked_grants :
    (let g := grantAll 1400 [ask (.boom .A .feedUp) .work 120, ask (.boom .B .feedUp) .setting 30,
       ask (.boom .A .rotFwd) .work 800, ask (.boom .B .rotFwd) .setting 640]
     g.1.map FlowRec.grant = [95, 30, 634, 640] ∧ g.1.map FlowRec.limited = [true, false, true, false] ∧
     g.2 = 1) ∧
    [95, 30, 634, 640, 1, 1000].map (dutyOf (Channel.reset 0)) = [311, 269, 662, 666, 250, 900] := by
  decide

/-- The hold time of the example of section 5.6: 12 °C gives factor 150 and 30.0 s (R110). -/
theorem test_worked_hold : gelFactor 12 = 150 ∧ holdTime 200 150 = 300 := by decide

/-- The measured rpm of the example of section 9.5: 25 and 80 ticks of 100 µs (R189). -/
theorem test_worked_rpm :
    ({ Rotation.reset with last := some (25, 2) }).rpm = 400 ∧
    ({ Rotation.reset with last := some (80, 2) }).rpm = 125 := by decide

/-- The first two windows of the example "rewriting the thresholds" (R211). -/
theorem test_worked_windows :
    (paramRow? P.t2).map State.reset.window = some (41, 399) ∧
    (paramRow? P.t2).map (fun r => State.reset.storedValue r 500) = some 399 ∧
    (paramRow? P.t3).map (fun r => (State.reset.storeParam P.t2 399).storedValue r 100) = some 400 := by
  decide

/-- The check value of the CRC named in R203 over the digits 1 to 9. -/
theorem test_crc_check_value :
    crc16 [0x31, 0x32, 0x33, 0x34, 0x35, 0x36, 0x37, 0x38, 0x39] = 0x29B1#16 := by decide +kernel

/-! ### States that meet the hypotheses of the statements -/

/-- A head that has seen a good frame, with GUARD_CLOSED (input 7) active alone. -/
def guarded : Head := { Head.reset with valid := true, levels := 0x0080#16 }

/-- Boom A in phase `p` with hole 1 open, its bit at position 2 and its phase timer running. -/
def inPhase (p : Phase) : State :=
  { State.reset with
    seq := State.reset.seq.set .A { State.reset.seq.a with
      state := p, hole := some 1, timer := { running := true, ticks := 0 } }
    head := { a := guarded, b := guarded }
    bits := State.reset.bits.set 2 { BitPos.reset with state := .fitted .A }
    store := { opened := { a := some { rec1 with plan := some rec1.newPlan }, b := none }
               queue := [], counter := 2 } }

/-- Boom A paused from phase `p`. -/
def pausedIn (p : Phase) : State :=
  { inPhase .paused with
    seq := (inPhase .paused).seq.set .A { (inPhase .paused).seq.a with returnPhase := some p } }

/-- Boom A idle with a usable bit and no hole. -/
def ready1 : State :=
  { State.reset with
    head := { a := guarded, b := guarded }
    bits := State.reset.bits.set 2 { BitPos.reset with state := .fitted .A } }

/-- The replies of a full reply queue. -/
def fourReplies : List Reply :=
  List.replicate 4 { kind := 1, tag := 0, result := .ok, content := [], sent := 0 }

/-- A frame that waits. -/
def frame1 : Frame := { kind := 0x01, tag := 7, body := [] }

/-- The body of a START_HOLE of boom A with the spec of chapter 4's first case and planned depth `planned`. -/
def startBody (planned : Nat) : List Byte :=
  [0] ++ be 2 planned ++ be 2 270 ++ be 2 1800 ++ be 2 220 ++ [1]

/-- The Link Port with other queues. -/
def linked (s : State) (f : Link → Link) : State := { s with link := f s.link }

/-- The Indexer serving one burst of boom A. -/
def serving (p : IdxState) : State :=
  { inPhase .resinInsert with
    idx := { State.reset.idx with
      state := p, selected := some 0, slots := State.reset.idx.slots.set 0
        { state := .loaded, type := some .fast, seq := some 1, fails := 1 }
      position := some 0, stepTimer := .start, readyTimer := .start, passTimer := .start
      queue := [{ boom := .A, hole := 1, types := [.fast, .slow], progress := 0, delivered := [] }] } }

theorem test_hyp_StepTakesInboundHead :
    let s := linked State.reset fun l => { l with inbound := [frame1] }
    s.pending = [] ∧ s.power = .running ∧ s.takes = true ∧ s.link.inbound = [frame1] := by decide

/-- A part whose presence timer is one tick from its limit of 2,000 ms, with boom A's interval count `n`. -/
def idling (n : Nat) : State :=
  (linked State.reset fun l => { l with presence := { running := true, ticks := 79999 } }).modRot .A fun r =>
    { r with interval := n, prescale := 3 }

theorem test_hyp_StepTakesInboundHead_tick :
    (∀ n ∈ [0, 4095], (idling n).pending = [] ∧ (idling n).power = .running ∧ (idling n).link.inbound = []) ∧
    (let full := fun s : State => s.booms.filter fun b => (s.rot.get b).overflows
     full (idling 0) = [] ∧ full (idling 4095) = [.A] ∧
       full ((idling 4095).modRot .B fun r => { r with interval := 4095, prescale := 3 }) = [.A, .B]) ∧
    (State.unpowered.pending = [] ∧ State.unpowered.power = .off) ∧
    (let s := { State.reset with power := .startUp }
     s.pending = [] ∧ s.power = .startUp) := by decide

/-- PRESENCE_TIMEOUT (default 2,000 ms) is due at its 80,000th tick (R209), and the 4,096th tick of the interval
count overflows (R188). -/
theorem test_idle_tick :
    (match step (idling 0) with
      | .next t => t.pending == [.presenceTimeout] && t.rot.a.interval == 1
      | _ => false) = true ∧
    (match step (idling 4095) with
      | .next t => t.rot.a.noRotation && t.rot.a.interval == 4095
      | _ => false) = true := by decide +kernel

theorem test_hyp_PowerOnBeginsStartUp :
    State.unpowered.power = .off ∧ (∀ st p, Instr.eStopAssert ≠ .powerOn st p) ∧
    Instr.eStopAssert ≠ .powerLoss :=
  ⟨rfl, fun _ _ h => (by cases h), fun h => (by cases h)⟩

theorem test_hyp_StartUpEndLeavesReset :
    (State.inStartUp .power State.reset.straps State.reset.pins).power = .startUp := rfl

theorem test_hyp_ResetLineNeedsItsMark :
    (State.reset.power ≠ .off ∧ State.reset.diu.armed = true) ∧
    (let s := { State.reset with diu := { State.reset.diu with armed := false } }
     s.power ≠ .off ∧ s.diu.armed = false) := by decide

theorem test_hyp_RestartIsTheLastRequest :
    State.reset.ready = true ∧
    (let s := linked State.reset fun l => { l with restarting := true }
     s.power = .running ∧ s.link.restarting = true ∧ s.link.replies = []) := by decide

theorem test_hyp_PingEchoes :
    State.reset.ready = true ∧ (List.replicate 32 (0 : Byte)).length ≤ 32 ∧
    ¬ (List.replicate 33 (0 : Byte)).length ≤ 32 := by decide

theorem test_hyp_BadFramesAnswered :
    State.reset.ready = true ∧
    (let body : List Byte := [0, 0, 0, 0]
     body.length ≠ 0 ∧ body.length ≠ 1 ∧ body.length ≠ 2 ∧ body.length ≠ 3 ∧ body.length ≠ 5 ∧
     body.length ≠ 7 ∧ body.length ≠ 10 ∧ body.length ≠ 12) := by decide

theorem test_hyp_FullRepliesHoldRequests :
    (let s := linked State.reset fun l =>
       { l with replies := fourReplies, inbound := List.replicate 3 frame1 }
     s.power = .running ∧ s.link.replies.length = 4 ∧ s.link.inbound.length < 4) ∧
    (let s := linked State.reset fun l =>
       { l with replies := fourReplies, inbound := List.replicate 4 frame1 }
     s.power = .running ∧ s.link.replies.length = 4 ∧ 4 ≤ s.link.inbound.length) := by decide

theorem test_hyp_ReadingChangesNothing :
    State.reset.ready = true ∧ ([] : List Byte).length = 0 ∧
    ([0] : List Byte).length = 1 ∧ (paramRow? 72).isSome = true ∧ (paramRow? 73).isSome = false ∧
    statusLen [0] = true ∧ statusLen [5, 1] = true ∧ statusLen [5, 2] = true ∧ statusLen [6] = true ∧
    ([0, 1] : List Byte).length = 2 ∧ ([0, 0, 0, 0, 0, 0, 0] : List Byte).length = 7 := by decide

theorem test_hyp_FrameReceivedWhole :
    (State.reset.power = .running ∧ State.reset.link.rx = [] ∧ (List.replicate 240 (0 : Byte)).length ≤ 240 ∧
      State.reset.link.inbound = []) ∧
    (let s := linked State.reset fun l => { l with replies := fourReplies, inbound := List.replicate 3 frame1 }
     s.power = .running ∧ s.link.rx = [] ∧ s.takes = false) := by decide +kernel

theorem test_hyp_DiscardLeavesHunting :
    State.reset.power = .running ∧ 240 < (241 : Byte).toNat ∧ State.reset.link.rx = [] ∧
    (linked State.reset fun l => { l with rx := [sync] }).link.rx = [sync] ∧
    sync ∉ (linked State.reset fun l => { l with rx := [sync, 4, 1] }).link.rx.drop 1 ∧
    (linked State.reset fun l => { l with replies := fourReplies, rx := [sync, sync] }).takes = false := by
  decide

theorem test_hyp_TransmitterSendsHead :
    State.reset.power = .running ∧ State.reset.link.replies = [] ∧ State.reset.link.inbound = [] ∧
    State.reset.link.reports = [.started .power State.reset.straps] ∧
    (linked State.reset fun l => { l with replies := fourReplies }).link.replies = fourReplies ∧
    (linked State.reset fun l => { l with reports := [] }).link.reports = [] ∧
    (let s := linked State.reset fun l => { l with replies := fourReplies, inbound := [frame1] }
     s.link.replies.length = 4 ∧ s.link.restarting = false ∧ s.link.inbound = [frame1] ∧
     ∀ r ∈ fourReplies, r.content.length ≤ 237 * (r.sent + 1)) := by decide

theorem test_hyp_SilenceReachesEveryBoom :
    (∀ s ∈ [inPhase .drilling, inPhase .mixing, pausedIn .drilling, inPhase .manual],
      s.power = .running ∧ s.calm = true ∧ s.link.presence.running = true ∧ Boom.A ∈ s.booms) ∧
    (inPhase .drilling).seq.a.state.automatic = true ∧ (inPhase .drilling).seq.a.state ≠ .mixing ∧
    (inPhase .mixing).seq.a.state = .mixing ∧ (pausedIn .drilling).seq.a.state = .paused ∧
    (inPhase .manual).seq.a.state.automatic = false ∧ (inPhase .manual).seq.a.state ≠ .paused := by
  decide

/-- `ParamsOrdered` of the default parameters, in its decidable parts. -/
theorem params_ordered_default : ParamsOrdered defaultParams := by
  unfold ParamsOrdered; decide

theorem test_hyp_SetParamStoresNearest :
    State.reset.ready = true ∧ ([72, 0, 0, 0, 0] : List Byte).length = 5 ∧ ParamsOrdered State.reset.params ∧
    (paramRow? (byteAt [72, 0, 0, 0, 0] 0)).isSome = true ∧
    paramRow? (byteAt [73, 0, 0, 0, 0] 0) = none ∧
    (State.reset.calm = true ∧
      0 ∉ [P.readyWait, P.passTimeout, P.stepTimeout, P.inputPolarityA, P.inputPolarityB]) :=
  ⟨by decide, by decide, params_ordered_default, by decide, by decide, by decide, by decide⟩

theorem test_hyp_StartAndDecideCheckInOrder :
    State.reset.ready = true ∧ (inPhase .awaitDecision).ready = true ∧
    State.reset.boomAt [2, 0] 0 = none ∧ State.reset.boomAt [0, 4] 0 = some .A ∧ 3 < byteAt [0, 4] 1 ∧
    (byteAt [0, 3] 1 ≤ 3 ∧ State.reset.seq.a.state ≠ .awaitDecision) ∧
    (choiceOfByte (byteAt [0, 3] 1) = some .abandon ∧ (inPhase .awaitDecision).seq.a.state = .awaitDecision ∧
      (inPhase .awaitDecision).seq.a.choices.has .abandon = false) ∧
    (startBody 300).length = 10 ∧ State.reset.boomAt (startBody 300) 0 = some .A ∧
    (inPhase .drilling).seq.a.state ≠ .idle ∧ State.reset.seq.a.state = .idle ∧ State.reset.tram = false ∧
    (specAt (startBody 299) 1).planned < 300 ∧
    (specAt (startBody 300) 1).inRange = true ∧ State.reset.fittedPos .A = none ∧
    ready1.fittedPos .A = some 2 ∧ (ready1.bitAt 2).wear < ready1.live P.bitWearLimit * 1000000 ∧
    8 ≤ ({ ready1 with store := { ready1.store with queue := List.replicate 8 rec1 } }).store.held := by
  decide

theorem test_hyp_StartHoleOpensHole :
    let s := ready1
    let body := startBody 2500
    s.ready = true ∧ s.calm = true ∧ body.length = 10 ∧ s.boomAt body 0 = some .A ∧ s.seq.a.state = .idle ∧
    s.tram = false ∧ (specAt body 1).inRange = true ∧ s.fittedPos .A = some 2 ∧
    (s.bitAt 2).wear < s.live P.bitWearLimit * 1000000 ∧ s.store.held < 8 ∧
    s.valve.isFailed (.boom .A .jackUp) = false ∧ s.clearOfCauses .A = true ∧
    s.active .A Input.jackAtRoof = false := by decide

/-- Boom A in AWAIT_DECISION with every choice offered, and the Indexer in FAULT. -/
def deciding : State :=
  let s := inPhase .awaitDecision
  { s with
    seq := s.seq.set .A { s.seq.a with choices := { proceed := true, extraFast := true, redrill := true, abandon := true } }
    idx := { s.idx with state := .fault } }

/-- Boom A deciding, with another Indexer. -/
def decidingWith (f : Indexer → Indexer) : State := deciding.modIdx f

/-- An Indexer with a fast cartridge in slot 5. -/
def stocked (x : Indexer) : Indexer :=
  { x with slots := x.slots.set 5 { state := .loaded, type := some .fast, seq := some 1, fails := 0 } }

/-- The burst of boom B that a STARVED Indexer holds. -/
def burstB : Burst := { boom := .B, hole := 9, types := [.slow], progress := 0, delivered := [] }

theorem test_hyp_DecideOrdersTheBurst :
    (∀ s ∈ [deciding, decidingWith fun x => { stocked x with state := .idle },
        decidingWith fun x => { stocked x with state := .idle, position := some 5 },
        decidingWith fun x => { x with state := .idle },
        decidingWith fun x => { stocked x with state := .starved, queue := [burstB], position := some 4 },
        decidingWith fun x => { x with state := .starved, queue := [burstB] }],
      s.ready = true ∧ s.calm = true ∧ s.boomAt [0, 1] 0 = some .A ∧ s.seq.a.state = .awaitDecision ∧
      s.seq.a.choices.has .proceed = true ∧ s.seq.a.choices.has .extraFast = true ∧
      s.seq.a.choices.has .abandon = true ∧ s.rec? .A = some { rec1 with plan := some rec1.newPlan } ∧
      s.diu.estop = false ∧ s.mayRelease .A = true ∧ s.valve.isFailed .index = false ∧
      s.diu.indexHome = false) ∧
    ([0, 1] : List Byte).length = 2 ∧ choiceOfByte (byteAt [0, 0] 1) = some .proceed ∧
    choiceOfByte (byteAt [0, 1] 1) = some .extraFast ∧ choiceOfByte (byteAt [0, 3] 1) = some .abandon ∧
    ((rec1.complete rec1.newPlan 1).types.getD []).head? = some .fast ∧
    (stocked State.reset.idx).select .fast = some 5 ∧ State.reset.idx.select .fast = none ∧
    deciding.idx.state ≠ .idle ∧ deciding.idx.state ≠ .starved ∧ deciding.idx.queue = [] := by decide

theorem test_hyp_DecideRedrills :
    let s := deciding
    s.ready = true ∧ s.calm = true ∧ ([0, 2] : List Byte).length = 2 ∧ s.boomAt [0, 2] 0 = some .A ∧
    s.seq.a.state = .awaitDecision ∧ byteAt [0, 2] 1 = 2 ∧ s.seq.a.choices.redrill = true ∧
    s.rec? .A = some { rec1 with plan := some rec1.newPlan } ∧ s.blocked .A .drilling = false := by
  decide

/-- The automatic phases that a pause can leave a boom in. -/
def returnPhases : List Phase :=
  [.jackSet, .collaring, .drilling, .retracting, .awaitDecision, .resinInsert, .awaitBolt, .boltPush, .mixWait,
   .mixing, .gelHold, .torquing, .releasing]

/-- A state with the inputs `on` of boom A active, and each at one frame from the end of its debounce. -/
def edge (s : State) (on : BitVec 16) : State :=
  s.modHead .A fun _ => { guarded with levels := on, changes := List.replicate 16 2 }

/-- A state in which boom A's reservation waits, alone, in MIX_WAIT. -/
def waitingA (s : State) : State :=
  s.modArb fun a => { a with waiting := [.A], res := a.res.set .A { mark := .waiting, amount := 1900 } }

/-- Channel 0 (A_JACK_UP's) open and the function without a route. -/
def jackLost (s : State) : State :=
  s.modValve fun v =>
    { channels := v.channels.modify 0 fun c => { c with state := .openCoil, driving := none }
      routes := v.routes.modify 0 fun r => { r with kind := .none } }

theorem test_hyp_PauseSuspendsThePhase :
    (∀ s ∈ [inPhase .drilling, inPhase .mixing, pausedIn .boltPush, inPhase .halted, waitingA (inPhase .mixWait),
        waitingA (pausedIn .mixWait)],
      s.ready = true ∧ s.still = true ∧ s.boomAt [0] 0 = some .A) ∧ ([0] : List Byte).length = 1 ∧
    (inPhase .drilling).seq.a.state.automatic = true ∧ (inPhase .drilling).seq.a.state ≠ .mixing ∧
    (let s := waitingA (inPhase .mixWait)
     s.arb.waiting = [.A] ∧ s.seq.a.state.automatic = true ∧
     ({ s with seq := s.seq.set .A (s.seq.a.suspended .mixWait .operator) }).still = true) ∧
    (inPhase .mixing).seq.a.state = .mixing ∧ (pausedIn .boltPush).seq.a.state = .paused ∧
    (inPhase .halted).seq.a.state.automatic = false ∧ (inPhase .halted).seq.a.state ≠ .paused := by
  decide

theorem test_hyp_ResumeReturnsToThePhase :
    (∀ p ∈ returnPhases, ∀ s ∈ [pausedIn p, edge (pausedIn p) 0x0088#16],
      s.ready = true ∧ s.calmBut .A = true ∧ s.boomAt [0] 0 = some .A ∧ s.seq.a.state = .paused ∧
      s.diu.methane = false ∧ (s.head.get .A).scanLost = false ∧ s.seq.a.returnPhase = some p ∧
      s.blocked .A p = false ∧ s.active .A Input.jackAtRoof = false ∧
      s.active .A Input.feedRetracted = false ∧ s.active .A Input.jackLowered = false ∧
      s.blocked .A .boltPush = false ∧ s.blocked .A .torquing = false) ∧
    (pausedIn .awaitBolt).active .A Input.boltPresent = false ∧
    (edge (pausedIn .awaitBolt) 0x0088#16).active .A Input.boltPresent = true ∧
    (jackLost (pausedIn .jackSet)).blocked .A .jackSet = true ∧
    (pausedIn .awaitDecision).rec? .A = some { rec1 with plan := some rec1.newPlan } ∧
    (pausedIn .gelHold).seq.a.holdComplete = false ∧ (pausedIn .mixWait).arb.waiting = [] ∧
    (let s := waitingA (pausedIn .mixWait)
     s.calmBut .A = true ∧ s.fits (s.arb.res.get .A).amount = false) ∧
    ((pausedIn .gelHold).modSeq .A fun q => { q with holdComplete := true }).seq.a.holdComplete = true ∧
    ((pausedIn .releasing).modSeq .A fun q => { q with jackDownStarted := true }).seq.a.jackDownStarted = true ∧
    (pausedIn .releasing).seq.a.jackDownStarted = false ∧
    (edge (pausedIn .releasing) 0x0081#16).active .A Input.feedRetracted = true ∧
    (edge (pausedIn .releasing) 0x0081#16).active .A Input.jackLowered = false ∧
    (inPhase .drilling).seq.a.state ≠ .paused ∧
    (let s := (pausedIn .drilling).modDiu fun d => { d with methane := true }
     s.ready = true ∧ s.calmBut .A = true ∧ s.seq.a.state = .paused ∧ s.diu.methane = true) := by decide

/-- The Indexer serving a last burst of one fast cartridge for boom A. -/
def lastBurst (p : IdxState) : State :=
  (serving p).modIdx fun x =>
    { x with queue := [{ boom := .A, hole := 1, types := [.fast], progress := 0, delivered := [] }] }

theorem test_hyp_AbortReleasesTheBoom :
    (∀ p ∈ [Phase.idle, .manual, .stopped, .halted] ++ returnPhases,
      let s := inPhase p
      s.ready = true ∧ s.calmBut .A = true ∧ s.boomAt [0] 0 = some .A ∧ s.seq.a.state = p ∧
      s.mayRelease .A = true ∧ s.clearOfCauses .A = true ∧
      s.rec? .A = some { rec1 with plan := some rec1.newPlan }) ∧
    (∀ p ∈ returnPhases,
      let s := pausedIn p
      s.ready = true ∧ s.calmBut .A = true ∧ s.boomAt [0] 0 = some .A ∧ s.seq.a.state = .paused ∧
      s.seq.a.returnPhase = some p ∧ s.mayRelease .A = true ∧ s.diu.methane = false ∧
      (s.head.get .A).scanLost = false) ∧
    ((waitingA (inPhase .mixWait)).calmBut .A = true ∧ (waitingA (inPhase .mixWait)).mayRelease .A = true) ∧
    (let s := (pausedIn .drilling).modDiu fun d => { d with methane := true }
     s.ready = true ∧ s.calmBut .A = true ∧ s.seq.a.state = .paused ∧ s.seq.a.returnPhase = some .drilling ∧
     s.diu.methane = true) ∧
    (∀ p ∈ [IdxState.positioning, .ejecting, .awaitReady, .starved],
      let s := lastBurst p
      s.ready = true ∧ s.calmBut .A = true ∧ s.seq.a.state = .resinInsert ∧ s.seq.a.abortPending = false ∧
      s.idx.state = p ∧ s.mayRelease .A = true ∧
      s.idx.queue = [{ boom := .A, hole := 1, types := [.fast], progress := 0, delivered := [] }]) := by decide

theorem test_hyp_ClearStopFreesTheBooms :
    (let s := inPhase .stopped
     s.ready = true ∧ s.calm = true ∧ s.diu.estop = false ∧ Boom.A ∈ s.booms ∧ s.seq.a.state = .stopped) ∧
    (State.reset.ready = true ∧ State.reset.calm = true ∧
      ∀ b ∈ State.reset.booms, (State.reset.seq.get b).state ≠ .stopped) := by decide

/-- Both booms idle with their jacks lowered. -/
def lowered : State :=
  let h : Head := { State.reset.head.a with valid := true, levels := 0x0004#16 }
  { State.reset with head := { a := h, b := h } }

theorem test_hyp_JogAndTramTaken :
    (∀ s ∈ [State.reset, inPhase .manual, inPhase .halted, inPhase .drilling, deciding],
      s.ready = true ∧ s.calm = true ∧ s.present .A = true) ∧
    ([15, 0, 0] : List Byte).length = 3 ∧ 15 ≤ byteAt [15, 0, 0] 0 ∧ byteAt [14, 0, 0] 0 = 14 ∧
    (serving .starved).ready = true ∧ (serving .starved).calm = true ∧ (serving .starved).idx.busy = true ∧
    State.reset.idx.busy = false ∧
    byteAt [12, 0, 0] 0 = (Fn.boom .A .flush).num ∧ byteAt [13, 0, 0] 0 = (Fn.boom .B .flush).num ∧
    ({ State.reset with straps := { State.reset.straps with boomB := false } }).present .B = false ∧
    State.reset.seq.a.state = .idle ∧ (inPhase .manual).seq.a.state = .manual ∧
    (inPhase .halted).seq.a.state = .halted ∧
    ((inPhase .drilling).seq.a.state ≠ .idle ∧ (inPhase .drilling).seq.a.state ≠ .manual ∧
      (inPhase .drilling).seq.a.state ≠ .halted) ∧
    lowered.ready = true ∧ lowered.calm = true ∧ ([0] : List Byte).length = 1 ∧ ([1] : List Byte).length = 1 ∧
    byteAt [0] 0 % 2 = 0 ∧ byteAt [1] 0 % 2 = 1 ∧
    (∀ b ∈ lowered.booms, (lowered.seq.get b).state = .idle ∧ lowered.active b Input.jackLowered = true) ∧
    (Boom.A ∈ State.reset.booms ∧ State.reset.active .A Input.jackLowered = false) := by decide

theorem test_hyp_EndManualEndsJogging :
    (∀ s ∈ [State.reset, inPhase .manual, inPhase .halted],
      s.ready = true ∧ s.calm = true ∧ s.boomAt [0] 0 = some .A) ∧ ([0] : List Byte).length = 1 ∧
    (inPhase .manual).seq.a.state = .manual ∧ (inPhase .halted).seq.a.state = .halted ∧
    (State.reset.seq.a.state ≠ .manual ∧ State.reset.seq.a.state ≠ .halted) := by decide

theorem test_hyp_PhaseTimeoutHalts :
    ∀ p ∈ [Phase.jackSet, .collaring, .retracting, .boltPush, .releasing],
      let s := inPhase p
      s.power = .running ∧ s.present .A = true ∧ s.calm = true ∧ s.seq.a.timer.running = true ∧
      s.seq.a.state = p ∧ s.link.reports.length < 10 := by decide

theorem test_hyp_SettingTimeoutsWriteResults :
    ∀ p ∈ [Phase.mixing, .torquing],
      let s := inPhase p
      s.power = .running ∧ s.present .A = true ∧ s.calm = true ∧ s.seq.a.timer.running = true ∧
      s.rec? .A = some { rec1 with plan := some rec1.newPlan } ∧ s.seq.a.state = p ∧
      s.seq.a.deferredAbort = false ∧ s.blocked .A .releasing = false ∧
      s.active .A Input.feedRetracted = false := by decide

/-- A boom with its gel hold and flush-loss timers running. -/
def timed (s : State) : State :=
  { s with sett := s.sett.set .A { s.sett.a with gelTimer := .start }
           gov := s.gov.set .A { s.gov.a with flushTimer := .start } }

theorem test_hyp_WorkerTimersExpire :
    (∀ s ∈ [timed (inPhase .gelHold), timed (pausedIn .gelHold), timed (inPhase .drilling)],
      s.power = .running ∧ s.present .A = true ∧ s.calm = true ∧
      s.rec? .A = some { rec1 with plan := some rec1.newPlan } ∧ s.sett.a.gelTimer.running = true ∧
      s.gov.a.flushTimer.running = true ∧ s.blocked .A .torquing = false) ∧
    (timed (inPhase .gelHold)).seq.a.state = .gelHold ∧
    ((timed (pausedIn .gelHold)).seq.a.state = .paused ∧
      (timed (pausedIn .gelHold)).seq.a.returnPhase = some .gelHold) ∧
    (timed (inPhase .drilling)).seq.a.state = .drilling := by decide

/-- An open segment of 200 tenths. -/
def openSeg1 : OpenSeg := { OpenSeg.new 0 with sf := 240000, st := 75000, lseg := 200, samples := 100 }

/-- Boom A drilling with a segment open, its rotation granted. -/
def cutting (retry : Bool) : State :=
  (((inPhase .drilling).modProf .A fun p => { p with
      mode := .running, collarRef := some 0
      openSeg := some { openSeg1 with lseg := 100, flags := { openSeg1.flags with stallRetry := retry } } }).modGov
    .A fun g => { g with stage := .cut }).modArb fun a =>
      { a with flow := [{ ask (.boom .A .rotFwd) .work 800 with grant := 800 }] }

theorem test_hyp_SegmentCloseAppends :
    (∀ n ∈ [0, 1],
      let s := (cutting false).modProf .A fun p => { p with openSeg := some { openSeg1 with samples := n } }
      s.prof.a.openSeg = some { openSeg1 with samples := n } ∧
      s.rec? .A = some { rec1 with plan := some rec1.newPlan } ∧
      s.bits[rec1.bitPos]? = some { BitPos.reset with state := .fitted .A } ∧
      BitPos.reset.worn = false ∧ s.link.reports.length < 11) ∧
    (let s := (cutting false).storeParam P.bitWearLimit 0
     decide (s.live P.bitWearLimit * 1000000 ≤ 240000 + 75000 * 35500 / 339) = true) ∧
    0 < rec1.spec.holeDia ∧ 0 < openSeg1.lseg ∧ Boom.B ≠ Boom.A ∧ rec1.segments.length < 128 ∧
    128 ≤ (List.replicate 128 (seg 0 0 .void)).length ∧ openSeg1.sf < 4294967295 ∧ openSeg1.st < 4294967295 ∧
    rec1.param P.t1 < rec1.param P.t2 ∧ rec1.param P.t2 < rec1.param P.t3 ∧
    rec1.param P.t3 < rec1.param P.t4 := by decide +kernel

theorem test_hyp_LayersCoverTheTable :
    fifteen.head? = some (seg 0 210 .medium) ∧ fifteen.getLast? = some (seg 14 480 .hard) ∧
    (seg 0 1 .medium).cls = (seg 2 1 .medium).cls ∧ (seg 1 1 .void).cls ≠ (seg 0 1 .medium).cls ∧
    Adjacent (fun x y : Segment => x.bottom = y.top) [seg 0 1 .soft, seg 1 2 .hard] :=
  ⟨by decide, by decide, by decide, by decide, rfl, trivial⟩

theorem test_hyp_PlanSizesTheCharge :
    (let p := { rec1.newPlan with le := some 1700, nv := some 2 }
     p.le = some 1700 ∧ p.nv = some 2) ∧ 1 ≤ 1 ∧ 4 ≤ 4 ∧ 0 < rec1.slowVolume := by decide

theorem test_hyp_SetBandsReplacesTheTable :
    let sent : List Byte := [0, 1] ++ be 2 2580 ++ be 2 2600 ++ [2, 2] ++ be 2 50 ++ be 2 6000
    let late : List Byte := [0, 1] ++ be 2 2580 ++ be 2 2601 ++ [2, 2] ++ be 2 50 ++ be 2 6000
    State.reset.ready = true ∧ bandsLen sent = true ∧ bandsLen late = true ∧
    State.reset.boomAt sent 0 = some .A ∧ State.reset.boomAt late 0 = some .A ∧
    byteAt sent 1 ≤ 8 ∧
    bandList sent = [some { top := 2580, bottom := 2600, attr := .stop, feed := 2, rpm := 50, thrust := 6000 }] ∧
    bandList late = [some { top := 2580, bottom := 2601, attr := .stop, feed := 2, rpm := 50, thrust := 6000 }] := by
  decide

/-- The values of a head frame with raw bits `bits`. -/
def seen (bits : BitVec 16) (feed thrust torque : Nat) : FrameValues :=
  { feed := feed, thrust := thrust, torque := torque, temp := 0, bits := bits }

/-- Frames with GUARD_CLOSED active, their check bytes worked out from R176: every value 0, and with one of the
inputs 0 to 6 active as well. -/
def goodFrame : BitVec 80 := 0x008000000000000000BF#80
def inputFrames : List (BitVec 80 × BitVec 16) :=
  [(0x008100000000000000AC#80, 0x0081#16), (0x00820000000000000099#80, 0x0082#16),
   (0x008400000000000000F3#80, 0x0084#16), (0x00880000000000000027#80, 0x0088#16),
   (0x00900000000000000088#80, 0x0090#16), (0x00A000000000000000D1#80, 0x00A0#16),
   (0x00C00000000000000063#80, 0x00C0#16)]

/-- A frame worked out as a multiple of x⁸ + x² + x + 1 (R176), and a still state for the end of an event. -/
theorem test_frame_is_multiple :
    (let q := 0x838ab50b3194ee89#80
     q.toNat < 2 ^ 72 ∧ goodFrame = q <<< 8 ^^^ q <<< 2 ^^^ q <<< 1 ^^^ q) ∧ goodFrame ≠ 0#80 ∧
    State.reset.still = true := by decide

theorem test_frames_judged :
    judgeFrame goodFrame = some (seen 0x0080#16 0 0 0) ∧ judgeFrame 0x00000001000000000029#80 = some (seen 0#16 1 0 0) ∧
    (inputFrames.map fun x => judgeFrame x.1) = (inputFrames.map fun x => some (seen x.2 0 0 0)) ∧ judgeFrame 1#80 = none ∧
    judgeFrame 0x008000000064000000B2#80 = some (seen 0x0080#16 0 100 0) ∧
    judgeFrame 0x00803E8003E800000075#80 = some (seen 0x0080#16 16000 1000 0) ∧
    judgeFrame 0x008000000000010E0002#80 = some (seen 0x0080#16 0 0 270) ∧
    judgeFrame 0x008003E8000000000037#80 = some (seen 0x0080#16 1000 0 0) := by decide +kernel

/-- A state with boom A's head as the frame of input bits `bits` and no other value leaves it. -/
def afterFrame (s : State) (bits : BitVec 16) : State :=
  s.modHead .A fun h => h.takeGood (seen bits 0 0 0) (s.live P.debounce)

/-- Boom A retracting, its hole drilled to `dd` and its profile `segs`. -/
def retracted (dd : Nat) (segs : List Segment) : State :=
  (edge (inPhase .retracting) 0x0080#16).modRec .A fun r => { r with drilledDepth := some dd, segments := segs }

theorem test_hyp_HeadFrameTaken :
    (State.reset.power = .running ∧ State.reset.present .A = true ∧ Boom.B ≠ Boom.A ∧
      State.reset.head.a.scanLost = false ∧ State.reset.head.a.valid = false) ∧
    (∀ p ∈ [Phase.idle, .jackSet, .mixing, .paused, .retracting, .releasing, .awaitBolt],
      let s := edge (inPhase p) 0x0080#16
      s.power = .running ∧ s.present .A = true ∧ s.calm = true ∧ s.head.a.valid = true ∧
      s.head.a.scanLost = false ∧ s.active .A Input.guardClosed = true ∧ s.seq.a.state = p ∧
      s.seq.a.deferred.has .scan = false ∧ s.seq.a.causes.has .scan = false ∧
      s.seq.a.deferred.has .operator = false ∧ s.seq.a.causes.has .operator = false ∧
      s.rec? .A = some { rec1 with plan := some rec1.newPlan } ∧ s.blocked .A .collaring = false ∧
      s.blocked .A .boltPush = false ∧
      (afterFrame s 0#16).active .A Input.guardClosed = false ∧ s.newInputs (afterFrame s 0#16) .A = [] ∧
      ∀ k < 7, (afterFrame s (inputFrames.getD k (0, 0)).2).active .A Input.guardClosed = true ∧
        s.newInputs (afterFrame s (inputFrames.getD k (0, 0)).2) .A = [k]) ∧
    ((inPhase .idle).modHead .A fun h => { h with badRun := 4 }).head.a.badRun = 4 ∧
    ((inPhase .paused).modSeq .A fun q => { q with causes := q.causes.add .flush }).seq.a.causes.flush = true ∧
    (let bt := rec1.spec.boltLen - rec1.param P.tailLength
     let soft := { seg 0 90 .soft with top := (bt - 100) * 10, bottom := bt * 10 }
     0 < bt ∧ bt ≤ bt * 10 / 10 ∧ rec1.param P.anchorPolicy ≠ 0 ∧ soft.top < bt * 10 ∧
     (bt - rec1.param P.anchorZone) * 10 < soft.bottom ∧
     (retracted 0 []).newInputs (afterFrame (retracted 0 []) 0x0081#16) .A = [Input.feedRetracted] ∧
     ((retracted (bt * 10) [soft]).rec? .A).map HoleRecord.drilledDepth = some (some (bt * 10)) ∧
     deciding.idx.state ≠ .idle ∧ deciding.idx.state ≠ .starved ∧ deciding.diu.estop = false) ∧
    (edge (inPhase .releasing) 0x0080#16).seq.a.jackDownStarted = false ∧
    ((inPhase .releasing).modSeq .A fun q => { q with jackDownStarted := true }).seq.a.jackDownStarted = true ∧
    (let s := edge (lastBurst .awaitReady) 0x0080#16
     s.idx.state = .awaitReady ∧ s.idx.queue.head?.map Burst.boom = some .A ∧ s.requesterPaused .A = false ∧
     s.newInputs (afterFrame s 0x0090#16) .A = [Input.injectorReady] ∧ s.idx.state ≠ .ejecting) ∧
    (let s := edge (lastBurst .ejecting) 0x0080#16
     s.idx.state = .ejecting ∧ s.idx.selected = some 0 ∧ (s.idx.slot 0).type = some .fast ∧
     s.seq.a.state = .resinInsert ∧ s.seq.a.abortPending = false ∧
     s.newInputs (afterFrame s 0x00A0#16) .A = [Input.cartridgePassed] ∧
     (afterFrame s 0x00A0#16).active .A Input.boltPresent = false) := by decide +kernel

theorem test_hyp_MeasuredRpmFollowsTheInterval :
    Rotation.reset.last = none ∧
    (let r := { Rotation.reset with last := some (0, 3) }
     r.noRotation = false ∧ r.last = some (0, 3)) := by decide

/-- Boom A collaring in stage `g`, before contact. -/
def approaching : State :=
  ((inPhase .collaring).modProf .A fun p => { p with mode := .armed }).modGov .A fun g =>
    { g with stage := .approach }

/-- Boom A with its rotation granted. -/
def turningA (s : State) : State :=
  s.modArb fun a => { a with flow := [{ ask (.boom .A .rotFwd) .work 800 with grant := 800 }] }

/-- Boom A collaring after contact, with 400 tenths drilled and 100 in the open segment. -/
def collared : State :=
  ((cutting false).modSeq .A fun q => { q with state := .collaring }).modGov .A fun g => { g with stage := .collar }

/-- Boom A torquing, snug and at angle `n`. -/
def snugAt (n : Nat) : State :=
  turningA ((inPhase .torquing).modSett .A fun c => { c with stage := .torque, snug := some 40, angle := n })

/-- Boom A's interval count at `n`. -/
def countedTo (n : Nat) (s : State) : State := s.modRot .A fun o => { o with interval := n }

theorem test_hyp_RotationPulsesAndOverflows :
    (∀ s ∈ [inPhase .jackSet, inPhase .mixing, cutting false, cutting true, approaching, turningA approaching,
        collared, inPhase .torquing, snugAt 30].map (countedTo 4095),
      s.power = .running ∧ s.present .A = true ∧ s.calm = true ∧ s.rot.a.noRotation = false ∧
      s.rot.a.interval = 4095 ∧
      s.rec? .A = some { rec1 with plan := some rec1.newPlan } ∧ s.mayRelease .A = true ∧
      s.blocked .A .gelHold = false ∧ s.blocked .A .drilling = false ∧ s.blocked .A .retracting = false ∧
      (s.head.get .A).scanLost = false ∧ s.seq.a.deferredAbort = false ∧
      (afterFrame s 0x0080#16).active .A Input.guardClosed = true ∧
      (afterFrame s 0x0080#16).active .A Input.feedRetracted = false ∧
      (afterFrame s 0x0080#16).mayRelease .A = true ∧ s.newInputs (afterFrame s 0x0080#16) .A = []) ∧
    (inPhase .mixing).sett.a.mixPulses + 1 < rec1.param P.mixRevs * 60 ∧
    rec1.param P.mixRevs * 60 ≤ 1799 + 1 ∧
    ((inPhase .jackSet).modRot .A fun o => { o with noRotation := true }).rot.a.noRotation = true ∧
    (countedTo 4094 (inPhase .jackSet)).rot.a.interval < 4095 ∧
    (∀ s ∈ [cutting false, cutting true, turningA approaching, snugAt 30, turningA (inPhase .mixing)].map
        (countedTo 4095),
      s.rot.a.noRotation = false ∧ s.rot.a.interval = 4095 ∧
      0 < s.arb.grantOf (.boom .A .rotFwd) ∧ s.gov.a.backingOff = false) ∧
    approaching.arb.grantOf (.boom .A .rotFwd) = 0 ∧ approaching.prof.a.mode ≠ .running ∧
    (snugAt 30).sett.a.verdict = none ∧
    (cutting true).prof.a.openSeg.any (fun x => x.flags.stallRetry) = true ∧
    -- the samples: the depths reached of `cutting`, and the angles of `snugAt`
    ((cutting false).prof.a.mode = .running ∧ (cutting false).prof.a.collarRef = some 0 ∧
      0 - 0 - (cutting false).prof.a.maxDepth ≤ 40 ∧ 40 < 41 - 0 - (cutting false).prof.a.maxDepth ∧
      (cutting false).prof.a.openSeg.map OpenSeg.lseg = some 100) ∧
    (∀ n ∈ [0, 2], let s := (cutting false).modProf .A fun p => { p with jumps := n }
      s.prof.a.jumps = n ∧ s.calm = true ∧ s.prof.a.mode = .running ∧ rec1.segments.length < 128) ∧
    rec1.param P.contactThrust ≤ 100 ∧ 0 < rec1.param P.contactThrust ∧
    rec1.param P.torqueTarget ≤ 270 ∧ ¬ rec1.param P.torqueTarget ≤ 0 ∧
    0 < rec1.param P.angleMin ∧ ¬ 30 < rec1.param P.angleMin ∧ ¬ rec1.param P.angleMax < 30 ∧
    rec1.param P.angleMax < 121 ∧ rec1.param P.collarLength * 10 ≤ 1000 ∧ 1000 < rec1.spec.planned * 10 := by
  decide +kernel

/-- The direct inputs held and their timers running. -/
def held : State :=
  { State.reset with diu := { State.reset.diu with
      rawEstop := true, estop := true, releaseTimer := .start, rawMethane := true, methane := true
      clearTimer := .start } }

theorem test_hyp_DirectInputsQualified :
    held.power = .running ∧ held.calm = true ∧ held.diu.estop = true ∧ held.diu.methane = true ∧
    held.diu.releaseTimer.running = true ∧ held.diu.clearTimer.running = true := by decide

theorem test_hyp_EmergencyStopStopsAll :
    let s := State.reset
    (∀ s ∈ [State.reset, inPhase .mixing, serving .ejecting],
      s.power = .running ∧ s.diu.estop = false ∧ s.calm = true ∧
      (∀ r ∈ s.idx.queue, s.phase r.boom = .resinInsert → (s.seq.get r.boom).abortPending = false) ∧
      s.link.reports.length + s.idx.queue.length ≤ 5) ∧
    (serving .ejecting).idx.queue ≠ [] ∧ (inPhase .mixing).seq.a.state = .mixing ∧ Boom.A ∈ s.booms ∧ s.seq.a.state ≠ .stopped ∧ (inPhase .stopped).seq.a.state = .stopped := by
  decide

theorem test_hyp_MethaneStopsRotation :
    ∀ s ∈ [inPhase .jackSet, inPhase .mixing, pausedIn .jackSet, State.reset],
      s.power = .running ∧ s.diu.methane = false ∧ s.calm = true ∧
      (∀ b ∈ [Boom.A, .B], (s.seq.get b).deferredAbort = false) ∧ Boom.A ∈ s.booms := by
  decide

theorem test_hyp_NothingThatFitsWaits :
    (let s := State.reset.modArb fun a =>
       { a with waiting := [.A], res := a.res.set .A { mark := .waiting, amount := 4000 } }
     Boom.A ∈ s.testList.arb.waiting) ∧
    (∀ s0 ∈ [inPhase .mixWait, pausedIn .mixWait],
      let s := s0.modArb fun a =>
        { a with waiting := [.B, .A]
                 res := { a := { mark := .waiting, amount := 1400 }, b := { mark := .waiting, amount := 1401 } } }
      s.arb.waiting = [Boom.B] ++ Boom.A :: [] ∧ Boom.B ≠ Boom.A ∧ Boom.A ∉ [Boom.B] ++ [] ∧
      (∀ x ∈ [Boom.B], s.live P.pumpFlow < s.supportTotal + s.arb.admittedSum + (s.arb.res.get x).amount) ∧
      s.supportTotal + s.arb.admittedSum + (s.arb.res.get .A).amount ≤ s.live P.pumpFlow ∧
      s.blocked .A .mixing = false) ∧
    (∀ n ∈ [0, 1000],
      let s := ((inPhase .boltPush).modSett .A fun c => { c with pushOrigin := some 0 }).modArb fun a =>
        { a with res := a.res.set .B { mark := .admitted, amount := n } }
      let u := afterFrame s 0x0080#16
      s.power = .running ∧ s.present .A = true ∧ s.calm = true ∧ (s.head.get .A).scanLost = false ∧
      s.rec? .A = some { rec1 with plan := some rec1.newPlan } ∧ s.seq.a.state = .boltPush ∧
      (s.arb.res.get .A).mark = .none ∧ s.blocked .A .mixing = false ∧
      u.active .A Input.guardClosed = true ∧ s.newInputs u .A = [] ∧
      0 < rec1.param P.seatThrust ∧ rec1.param P.seatThrust ≤ 1000 ∧
      (rec1.spec.boltLen - 200) * 10 ≤ 16000 ∧ ¬ (rec1.spec.boltLen - 200) * 10 ≤ 15999) := by decide

theorem test_hyp_SetChannelClamps :
    State.reset.ready = true ∧ State.reset.calm = true ∧ (List.replicate 12 (0 : Byte)).length = 12 ∧
    State.reset.valve.channels.length = 20 ∧ 19 < byteAt [20] 0 ∧ byteAt [19] 0 ≤ 19 ∧
    byteAt [0, 0, 0, 0, 0, 0, 0, 2] 7 = 2 ∧ byteAt [0, 0, 0, 0, 0, 0, 0, 1] 7 = 1 := by decide

/-- Channel 8 open, the function it drives without a route. -/
def opened8 : State :=
  State.reset.modValve fun v =>
    { channels := v.channels.modify 8 fun c => { c with state := .openCoil, driving := none }
      routes := v.routes.modify 8 fun r => { r with kind := .none } }

theorem test_hyp_RoutesAndChannelsSet :
    (∀ s ∈ [State.reset, opened8],
      s.ready = true ∧ s.calm = true ∧ s.valve.channels.length = 20 ∧ s.valve.routes.length = 16 ∧
      s.valve.resolve = s.valve ∧ s.absentFn .tram = false ∧ s.routeOwned .tram = false) ∧
    routeLen [15, 16, 0] = true ∧ routeLen [15, 8, 1, 19] = true ∧ 15 < byteAt [16, 16, 0] 0 ∧
    19 < byteAt [15, 20, 0] 1 ∧ fnOfNum 15 = some .tram ∧ fnOfNum 13 = some (.boom .B .flush) ∧
    ({ State.reset with straps := { State.reset.straps with boomB := false } }).absentFn (.boom .B .flush) = true ∧
    ({ State.reset with tram := true }).routeOwned .tram = true ∧
    State.reset.valve.chOk 16 = true ∧ opened8.valve.chOk 8 = false ∧ opened8.valve.chOk 19 = true ∧
    19 < byteAt [20] 0 ∧ (byteAt [3] 0 ≤ 19 ∧ (opened8.valve.channel 3).state = .ok) ∧
    (byteAt [8] 0 ≤ 19 ∧ (opened8.valve.channel 8).state ≠ .ok) := by decide

theorem test_hyp_CurrentReadingFindsFaults :
    (let s := State.reset
     s.power = .running ∧ s.valve.channels.length = 20 ∧ (s.valve.channel 0).state = .ok ∧
     (opened8.valve.channel 8).state ≠ .ok ∧ (s.valve.channel 0).shortTh < 3501 ∧
     3500 ≤ (s.valve.channel 0).shortTh ∧ s.calm = true ∧ s.valve.routes.length = 16 ∧
     s.valve.resolve = s.valve) ∧
    (match exec (.valveCurrentReading ((List.replicate 20 0).set 8 3501)) State.reset with
      | .next t => (t.valve.channel 8).state == .short && (List.range 20).all fun j =>
          j == 8 || (t.valve.channel j).state == .ok
      | _ => false) = true ∧
    (let s := State.reset.modValve fun v => { v with routes := v.routes.modify 8 fun r =>
       { r with alternate := some 19, kind := .alternate } }
     s.valve.routes.length = 16 ∧ s.arb.waiting = [] ∧ (s.valve.route (.boom .A .rotFwd)).kind = .alternate ∧
     s.valve.chOk (s.valve.route (.boom .A .rotFwd)).primary = true ∧
     s.arb.grantOf (.boom .A .rotFwd) = 0 ∧
     ∀ g ∈ allFns, g.num < 8 → (s.valve.route g).claims ≠ some (s.valve.route (.boom .A .rotFwd)).primary) := by
  decide +kernel

/-- A reading that makes INDEX FAILED with a step under way, the case of `TakesFailed` for it (R131). -/
theorem test_hyp_TakesFailed_index :
    (serving .positioning).calm = true ∧ (serving .positioning).valve.resolve = (serving .positioning).valve ∧
    (serving .positioning).idx.stepTimer.running = true ∧
    (match exec (.valveCurrentReading ((List.replicate 20 0).set 14 3501)) (serving .positioning) with
      | .next t => t.valve.isFailed .index && t.idx.fault == some .indexFailed
      | _ => false) = true := by
  decide +kernel

theorem test_hyp_OldestStockSelected :
    (serving .ejecting).idx.select .fast = some 0 ∧ State.reset.idx.select .fast = none := by decide

/-- The Indexer in FAULT with no request. -/
def faulted : State := { State.reset with idx := { State.reset.idx with state := .fault } }

theorem test_hyp_MagazineLoadedAndCleared :
    State.reset.ready = true ∧ State.reset.calm = true ∧ slotsLen [0] = true ∧ byteAt [0] 0 = 0 ∧
    slotsLen [1, 11, 1] = true ∧ itemList [1, 11, 1] = [((11, CartType.slow) : Nat × CartType)].map
      (fun x => (x.1, some x.2)) ∧ itemList [1, 11, 2] = [(11, none)] ∧ State.reset.idx.state ≠ .starved ∧
    State.reset.idx.slots.length ≤ 12 ∧ 11 < State.reset.idx.slots.length ∧
    ((serving .ejecting).idx.slot 0).state = .loaded ∧ (State.reset.idx.slot 11).state ≠ .loaded ∧
    State.reset.idx.state ≠ .fault ∧ (faulted.ready = true ∧ faulted.calm = true ∧
      faulted.idx.state = .fault ∧ faulted.idx.queue = []) ∧
    -- a request at the head, with a LOADED slot of its type, of the waiting one's, or of none
    (let fastA : Burst := { boom := .A, hole := 1, types := [.fast], progress := 0, delivered := [] }
     ∀ p ∈ [IdxState.starved, .fault], ∀ q ∈ [[fastA], [burstB, fastA], [burstB]],
      let s := State.reset.modIdx fun x => { stocked x with state := p, queue := q }
      s.ready = true ∧ s.calm = true ∧ s.idx.state = p ∧ s.valve.isFailed .index = false ∧
      fastA.wanted.bind s.idx.select = some 5 ∧ burstB.wanted = some .slow ∧ s.idx.select .slow = none) := by
  decide

/-- The Indexer in a move, with changes. -/
def indexing (f : Indexer → Indexer) : State := (lastBurst .positioning).modIdx f

theorem test_hyp_IndexStepCounted :
    (∀ s ∈ [indexing fun x => { x with state := .idle }, indexing fun x => { x with state := .awaitReady },
        indexing fun x => { x with remaining := 2 }, indexing fun x => { x with remaining := 1 },
        indexing fun x => { x with position := some 11 }, indexing fun x => { x with homing := true },
        indexing fun x => { x with homing := true, homeCount := 11 }],
      s.power = .running ∧ s.calm = true ∧ s.diu.indexHome = false ∧ s.valve.isFailed .index = false ∧
      s.idx.stopMark = false ∧ s.idx.selected = some 0 ∧ s.seq.a.state = .resinInsert ∧
      s.seq.a.abortPending = false ∧
      s.idx.queue = [{ boom := .A, hole := 1, types := [.fast], progress := 0, delivered := [] }]) ∧
    (indexing id).idx.state = .positioning ∧ (indexing id).idx.homing = false ∧
    (indexing id).idx.position = some 0 ∧ (indexing id).idx.slots.length = 12 ∧
    (let s := (indexing fun x => { x with stopMark := true }).modSeq .A fun q => { q with abortPending := true }
     s.idx.stopMark = true ∧ s.seq.a.abortPending = true ∧ s.mayRelease .A = true ∧ s.diu.indexHome = false) ∧
    ((indexing id).modDiu fun d => { d with indexHome := true }).diu.indexHome = true ∧
    (let s := (indexing fun x => { x with state := .awaitReady, selected := some 5 }).modValve fun v =>
       { v with routes := v.routes.modify 14 fun r => { r with kind := .none } }
     s.power = .running ∧ s.calm = true ∧ s.valve.isFailed .index = true ∧ s.idx.state = .awaitReady ∧
     s.idx.selected = some 5 ∧ 5 % s.idx.slots.length ≠ 0) := by decide

theorem test_hyp_MagazineTimersExpire :
    ∀ p ∈ [IdxState.positioning, .awaitReady, .ejecting],
      let s := serving p
      s.power = .running ∧ s.calm = true ∧
      s.idx.queue = [{ boom := .A, hole := 1, types := [.fast, .slow], progress := 0, delivered := [] }] ∧
      s.idx.stopMark = false ∧ s.seq.a.state = .resinInsert ∧ s.seq.a.abortPending = false ∧
      s.idx.state = p ∧ s.idx.stepTimer.running = true ∧ s.idx.readyTimer.running = true ∧
      s.idx.passTimer.running = true ∧ s.valve.isFailed .index = false ∧ s.idx.selected = some 0 ∧
      s.idx.slots[0]?.isSome = true := by decide

theorem test_hyp_HoleNumberIsFree :
    let s := { State.reset with store := { State.reset.store with
      queue := [{ rec1 with number := 65535 }, { rec1 with number := 1 }], counter := 65535 } }
    s.store.numbers.length ≤ 7 ∧ 1 ≤ s.store.counter ∧ s.store.counter ≤ 65535 ∧ s.nextHole = 2 := by
  decide

theorem test_hyp_ClosedHoleJoinsTheQueue :
    let s := inPhase .releasing
    s.rec? .A = some { rec1 with plan := some rec1.newPlan } ∧
    s.bits[rec1.bitPos]? = some { BitPos.reset with state := .fitted .A } := by decide

theorem test_hyp_ReleaseHoleFreesItsPlace :
    let s := { State.reset with store := { State.reset.store with queue := [rec1] } }
    s.ready = true ∧ ([0, 1] : List Byte).length = 2 ∧ numAt [0, 1] 0 2 = 1 ∧
    (∃ r ∈ s.store.queue, r.number = 1) ∧ (∀ r ∈ s.store.queue, r.number ≠ 0) := by decide

/-- Boom A's bit at position 2, a serviceable one at 7. -/
def spare7 : State :=
  { ready1 with bits := ready1.bits.set 7 { BitPos.reset with state := .serviceable } }

theorem test_hyp_BitFittedSwapsTheBits :
    let s := spare7
    s.ready = true ∧ ([0, 7] : List Byte).length = 2 ∧ s.bits.length = 8 ∧ s.boomAt [2, 7] 0 = none ∧
    s.boomAt [0, 7] 0 = some .A ∧ 7 < byteAt [0, 8] 1 ∧ byteAt [0, 7] 1 ≤ 7 ∧
    (s.bitAt 6).state ≠ .serviceable ∧ s.seq.a.state = .idle ∧ (s.bitAt 7).state = .serviceable := by
  decide

theorem test_hyp_ReplaceBitRenewsThePosition :
    let s := spare7
    s.ready = true ∧ ([7] : List Byte).length = 1 ∧ s.bits.length = 8 ∧ 7 < byteAt [8] 0 ∧
    (byteAt [2] 0 ≤ 7 ∧ (s.bitAt 2).state = .fitted .A) ∧ (byteAt [7] 0 ≤ 7 ∧
      (s.bitAt 7).state = .serviceable) ∧ (s.bitAt 0).state = .empty := by decide

/-- A drilling boom with a PAUSE waiting: a state from which the step moves more than a timer. -/
def moving : State := { inPhase .drilling with pending := [.pause 1 [0]] }

theorem test_hyp_invariants :
    moving.QueuesBounded ∧ moving.StopHeld ∧ moving.DutiesGood ∧ ParamsOrdered moving.params ∧
    (moving.RecordsBounded ∧ moving.NumbersDistinct) ∧ moving.PausesMarked := by
  refine ⟨?_, ?_, ?_, params_ordered_default, ⟨?_, ?_⟩, ?_⟩
  · unfold State.QueuesBounded; decide
  · unfold State.StopHeld; decide
  · unfold State.DutiesGood Channel.settingsGood Channel.dutyGood; decide
  · unfold State.RecordsBounded; decide
  · unfold State.NumbersDistinct; decide
  · exact ⟨⟨fun h => absurd h (by decide), fun _ => rfl⟩,
      ⟨fun h => absurd h (by decide), fun _ => rfl⟩⟩

/-- The step from that state answers a next state in which boom A is PAUSED. -/
theorem test_hyp_invariants_step :
    (match step moving with
      | .next t => t.seq.a.state == .paused
      | _ => false) = true := by decide

end Sys2Proof.Tests
end

/-! A boom off the cycle keeps its Sequencer through the end of every event: the Arbiter admits only a boom in
MIX_WAIT (R156), the end of a burst concerns only one in RESIN_INSERT (R137), a FAILED function halts only a boom
whose phase uses it (R172), and what the other boom then does is its own. -/

namespace Sys2Proof.Machine

/-! ### What leaves every Sequencer unchanged -/

@[simp] theorem State.seq_ite (p : Prop) [Decidable p] (s t : State) :
    (if p then s else t).seq = if p then s.seq else t.seq := apply_ite State.seq p s t

section
variable (s : State) (b : Boom)

@[simp] theorem State.seq_report (r : Report) : (s.report r).seq = s.seq := rfl

@[simp] theorem State.seq_modBit (p : Nat) (f : BitPos → BitPos) : (s.modBit p f).seq = s.seq := rfl

@[simp] theorem State.seq_markBitWorn (p : BitPos) : (s.markBitWorn p).seq = s.seq := by
  unfold State.markBitWorn
  split <;> rfl

@[simp] theorem State.seq_evalWorn (p : Nat) : (s.evalWorn p).seq = s.seq := by
  simp [State.evalWorn]

@[simp] theorem State.seq_addWear (w : Nat) : (s.addWear b w).seq = s.seq := by
  unfold State.addWear
  split
  · rfl
  · simp

@[simp] theorem State.seq_bitClose (p : Nat) : (s.bitClose b p).seq = s.seq := by
  simp [State.bitClose]

@[simp] theorem State.seq_handWork (g : OpenSeg) : (s.handWork b g).seq = s.seq := by
  simp [State.handWork]

@[simp] theorem State.seq_closeSegment (c p : Bool) : (s.closeSegment b c p).seq = s.seq := by
  unfold State.closeSegment
  split
  · dsimp only
    split <;> simp
  · rfl

@[simp] theorem State.seq_takeRemnant : (s.takeRemnant b).seq = s.seq := by
  unfold State.takeRemnant
  split
  · split <;> simp
  · rfl

@[simp] theorem State.seq_leaveDrilling : (s.leaveDrilling b).seq = s.seq := by
  simp [State.leaveDrilling, State.endGovernor, State.endProfile]

@[simp] theorem State.seq_cutHold : (s.cutHold b).seq = s.seq := by
  simp [State.cutHold, State.writeElapsed]

@[simp] theorem State.seq_leaveSetting (p : Phase) (e : MixEnd) : (s.leaveSetting b p e).seq = s.seq := by
  unfold State.leaveSetting
  split
  case h_3 => split <;> rfl
  case h_4 => simp
  all_goals rfl

@[simp] theorem State.seq_leavePhase (e : MixEnd) : (s.leavePhase b e).seq = s.seq := by
  simp [State.leavePhase]

@[simp] theorem State.seq_closeRecord (c : Option Closing) (r : Option HaltReason) :
    (s.closeRecord b c r).seq = s.seq := by
  unfold State.closeRecord
  split
  · rfl
  · simp [State.modStore]

end

/-! ### A boom off the cycle -/

/-- A Sequencer off the cycle: in IDLE, MANUAL, HALTED or STOPPED, not in an automatic phase and not PAUSED. -/
def Sequencer.Resting (q : Sequencer) : Prop := q.state.automatic = false ∧ q.state ≠ .paused

/-- The Sequencer of boom `b` is `q`, and `q` is off the cycle. -/
def State.RestsAs (s : State) (b : Boom) (q : Sequencer) : Prop := s.seq.get b = q ∧ q.Resting

theorem Sequencer.Resting.ne {q : Sequencer} (h : q.Resting) {p : Phase} (hp : p.automatic = true) :
    q.state ≠ p := by
  rintro rfl
  exact absurd hp (by simp [h.1])

theorem Sequencer.Resting.phase {q : Sequencer} (h : q.Resting) : q.phase = q.state := if_neg h.2

namespace State.RestsAs
variable {s t : State} {b c : Boom} {q : Sequencer}

theorem of_seq (h : s.RestsAs b q) (ht : t.seq = s.seq) : t.RestsAs b q := ⟨ht ▸ h.1, h.2⟩

/-- A resting boom counts as being in no phase of the cycle. -/
theorem phase_ne (h : s.RestsAs b q) {p : Phase} (hp : p.automatic = true) : s.phase b ≠ p := by
  rw [State.phase, h.1, h.2.phase]
  exact h.2.ne hp

theorem modSeq (h : s.RestsAs b q) (hc : b ≠ c) (f : Sequencer → Sequencer) : (s.modSeq c f).RestsAs b q :=
  ⟨(PerBoom.get_set_ne s.seq hc _).trans h.1, h.2⟩

theorem report (h : s.RestsAs b q) (r : Report) : (s.report r).RestsAs b q := h

theorem modIdx (h : s.RestsAs b q) (f : Indexer → Indexer) : (s.modIdx f).RestsAs b q := h

theorem notePhase (h : s.RestsAs b q) (c : Boom) : (s.notePhase c).RestsAs b q := h

/-! ### The moves of the other boom -/

theorem goPhase (h : s.RestsAs b q) (hc : b ≠ c) (p : Phase) (f : Sequencer → Sequencer) :
    (s.goPhase c p f).RestsAs b q := by
  unfold State.goPhase
  exact (h.modSeq hc _).report _

theorem goHalted (h : s.RestsAs b q) (hc : b ≠ c) (r : HaltReason) : (s.goHalted c r).RestsAs b q := by
  unfold State.goHalted
  split
  · exact h.modSeq hc _
  · exact h.goPhase hc _ _

theorem haltCore (h : s.RestsAs b q) (hc : b ≠ c) (r : HaltReason) (e : MixEnd) :
    (s.haltCore c r e).RestsAs b q := by
  have hg : ((s.leavePhase c e).goHalted c r).RestsAs b q := (h.of_seq (by simp)).goHalted hc r
  unfold State.haltCore
  dsimp only
  split
  · exact hg.of_seq rfl
  · exact hg

theorem enterMixing (h : s.RestsAs b q) (hc : b ≠ c) : (s.enterMixing c).RestsAs b q := by
  unfold State.enterMixing
  split
  · exact h.haltCore hc _ _
  · exact (h.goPhase hc _ _).of_seq rfl

/-- An admission moves no resting boom, be it the admitted one or the other (R156). -/
theorem admitBoom (h : s.RestsAs b q) (c : Boom) : (s.admitBoom c).RestsAs b q := by
  have hm : (s.markAdmitted c).RestsAs b q := h.of_seq rfl
  unfold State.admitBoom
  dsimp only
  by_cases hc : b = c
  · subst hc
    rw [hm.1, if_neg (hm.2.ne rfl), if_neg (by simp [hm.2.2])]
    exact hm
  · split
    · exact hm.enterMixing hc
    · split
      · exact (hm.modSeq hc _).notePhase c
      · exact hm

theorem testList (h : s.RestsAs b q) : s.testList.RestsAs b q := by
  unfold State.testList
  generalize s.arb.waiting.length = n
  induction n generalizing s with
  | zero => exact h
  | succ n ih =>
    unfold State.testWaiting
    split
    · exact ih (h.admitBoom _)
    · exact h

theorem releaseFrom (h : s.RestsAs b q) (c : Boom) (p : Phase) : (s.releaseFrom c p).RestsAs b q := by
  unfold State.releaseFrom
  split
  · exact testList (h.of_seq rfl)
  · exact h

theorem halt (h : s.RestsAs b q) (hc : b ≠ c) (r : HaltReason) (e : MixEnd) : (s.halt c r e).RestsAs b q := by
  unfold State.halt
  dsimp only
  split
  · exact (h.haltCore hc r e).testList
  · exact h.haltCore hc r e

theorem arriveBasic (h : s.RestsAs b q) (hc : b ≠ c) (x : Cause) : (s.arriveBasic c x).RestsAs b q := by
  unfold State.arriveBasic
  dsimp only
  split
  · split
    · exact h
    · exact (h.modSeq hc _).notePhase c
  · split
    · unfold State.pauseBoom
      refine goPhase (h.of_seq ?_) hc _ _
      split <;> rfl
    · exact h

theorem foldl_arriveBasic (h : s.RestsAs b q) (hc : b ≠ c) (l : List Cause) :
    (l.foldl (fun s x => s.arriveBasic c x) s).RestsAs b q :=
  List.foldlRecOn (motive := fun t : State => t.RestsAs b q) l _ h fun _ hs x _ => hs.arriveBasic hc x

theorem closeHole (h : s.RestsAs b q) (hc : b ≠ c) : (s.closeHole c).RestsAs b q :=
  goPhase (h.of_seq (by simp)) hc _ _

theorem testReleasing (h : s.RestsAs b q) (hc : b ≠ c) : (s.testReleasing c).RestsAs b q := by
  unfold State.testReleasing
  dsimp only
  split
  · unfold State.startJackDown
    dsimp only
    split
    · unfold State.jackLowered
      dsimp only
      split
      · exact (h.modSeq hc _).closeHole hc
      · exact h.modSeq hc _
    · exact h.modSeq hc _
  · exact h

theorem toReleasing (h : s.RestsAs b q) (hc : b ≠ c) : (s.toReleasing c).RestsAs b q := by
  unfold State.toReleasing
  split
  · exact h.halt hc _ _
  · dsimp only
    refine testReleasing ?_ hc
    split
    · exact foldl_arriveBasic (releaseFrom (goPhase (h.of_seq (by simp)) hc _ _) c _) hc _
    · exact releaseFrom (goPhase (h.of_seq (by simp)) hc _ _) c _

theorem takeDeferred (h : s.RestsAs b q) (hc : b ≠ c) : (s.takeDeferred c).RestsAs b q := by
  unfold State.takeDeferred
  dsimp only
  refine foldl_arriveBasic (modSeq ?_ hc _) hc _
  split
  · split
    · exact ((h.modSeq hc _).modSeq hc _).toReleasing hc
    · exact ((h.modSeq hc _).modSeq hc _).toReleasing hc
    · exact h.modSeq hc _
  · exact h

theorem enterBoltPush (h : s.RestsAs b q) (hc : b ≠ c) : (s.enterBoltPush c).RestsAs b q := by
  unfold State.enterBoltPush
  split
  · exact h.halt hc _ _
  · exact (h.goPhase hc _ _).of_seq rfl

theorem enterAwaitBolt (h : s.RestsAs b q) (hc : b ≠ c) : (s.enterAwaitBolt c).RestsAs b q := by
  have he : (s.enterPhase c .awaitBolt id).RestsAs b q := h.goPhase hc _ _
  unfold State.enterAwaitBolt
  dsimp only
  split
  · unfold State.boltPresent
    split
    · exact he.enterBoltPush hc
    · exact he
  · exact he

/-! ### Ends of bursts and FAILED functions -/

/-- The end of any burst moves no resting boom, which is not in RESIN_INSERT (R137). -/
theorem seqBurstEnd (h : s.RestsAs b q) (c : Boom) (k : BurstEnd) : (s.seqBurstEnd c k).RestsAs b q := by
  unfold State.seqBurstEnd
  dsimp only
  by_cases hc : b = c
  · subst hc
    rw [if_pos (h.phase_ne rfl)]
    exact h
  · split
    · exact h
    · split
      · exact (h.modSeq hc _).toReleasing hc
      · split
        · split
          · exact (h.modSeq hc _).notePhase c
          · exact h.enterAwaitBolt hc
        · exact h.halt hc _ _
        · exact h.halt hc _ _
        · exact h

theorem notifyEnd (h : s.RestsAs b q) (r : Burst) (k : BurstEnd) : (s.notifyEnd r k).RestsAs b q := by
  unfold State.notifyEnd
  exact (h.seqBurstEnd _ k).report _

theorem idxFault (h : s.RestsAs b q) (x : IdxFault) : (s.idxFault x).RestsAs b q := by
  unfold State.idxFault
  refine report ?_ _
  dsimp only
  split
  · exact (h.modIdx _).notifyEnd _ _
  · exact h.modIdx _

/-- A FAILED function halts no resting boom, whose state uses none (R172). -/
theorem boomFailed (h : s.RestsAs b q) (c : Boom) (k : FnKind) : (s.boomFailed c k).RestsAs b q := by
  unfold State.boomFailed
  dsimp only
  by_cases hc : b = c
  · subst hc
    rw [if_neg (by simp [h.1, h.2.1, h.2.2])]
    exact h
  · split
    · split
      · exact (h.halt hc _ _).takeDeferred hc
      · split
        · exact (h.halt hc _ _).takeDeferred hc
        · exact h.halt hc _ _
    · exact h

theorem takeFailed (h : s.RestsAs b q) (fs : List Fn) : (s.takeFailed fs).RestsAs b q := by
  refine List.foldlRecOn (motive := fun t : State => t.RestsAs b q) fs _ h fun t ht f _ => ?_
  cases f with
  | boom c k => exact ht.boomFailed c k
  | index =>
    show t.indexFailed.RestsAs b q
    unfold State.indexFailed
    split
    · exact ht.idxFault _
    · exact ht
  | tram => exact ht

theorem takeNewlyFailed (h : s.RestsAs b q) (v : Valve) : (s.takeNewlyFailed v).RestsAs b q := by
  unfold State.takeNewlyFailed
  exact h.takeFailed _

/-! ### The end of an event -/

theorem returnTest (h : s.RestsAs b q) (quiet : Bool) : (s.returnTest quiet).RestsAs b q := by
  unfold State.returnTest
  refine List.foldlRecOn (motive := fun t : State => t.RestsAs b q) allFns _ h fun t ht f _ => ?_
  unfold State.returnOne
  dsimp only
  split
  · refine takeNewlyFailed (ht.of_seq ?_) _
    split <;> rfl
  · exact ht

theorem settle (h : s.RestsAs b q) (quiet : Bool) (n : Nat) (force : Bool) (on : List Bool) :
    (State.settle quiet n force on s).RestsAs b q := by
  induction n generalizing s force on with
  | zero => exact h
  | succ n ih =>
    have hflow : (if force || s.testList.flowStale then s.testList.computeFlow else s.testList).RestsAs b q := by
      split
      · exact h.testList.of_seq rfl
      · exact h.testList
    have hround : ∀ (t : State) (stale : Bool), t.RestsAs b q →
        (if stale || t.onStates != on then State.settle quiet n false t.onStates (t.returnTest quiet)
          else t).RestsAs b q := by
      intro t stale ht
      split
      · exact ih (ht.returnTest quiet) _ _
      · exact ht
    unfold State.settle
    exact hround _ _ hflow

/-- The end of an event moves no resting boom. -/
theorem finish (h : s.RestsAs b q) (s0 : State) : (s0.finish s).RestsAs b q := by
  have ht : s.tramCheck.RestsAs b q := h.of_seq s.tramCheck_agree.seq
  exact (ht.settle false settleRounds false s0.onStates).of_seq
    ((State.computeDuties_agree _).seq.trans (State.afterRounds_agree _).seq)

end State.RestsAs

end Sys2Proof.Machine

/-! END_MANUAL (R34): what each state of the boom answers, and the end of its event. -/

namespace Sys2Proof.Machine

/-- A request with a body of the right length, taken by a ready part, is answered by its owner (R205). -/
theorem State.takeRequest_ready {s : State} (h : s.ready = true) {body : List Byte} {len : List Byte → Bool}
    (hl : len body = true) (kind tag : Byte) (f : State → Answer) :
    s.takeRequest kind tag body len f = (f s).1.reply kind tag (f s).2.1 (f s).2.2 := by
  simp only [State.ready, Bool.and_eq_true, decide_eq_true_eq] at h
  simp [State.takeRequest, h.1, h.2, hl]

@[simp] theorem State.reply_seq (s : State) (kind tag : Byte) (r : Result) (content : List Byte) :
    (s.reply kind tag r content).seq = s.seq := rfl

@[simp] theorem State.reply_replies (s : State) (kind tag : Byte) (r : Result) (content : List Byte) :
    (s.reply kind tag r content).link.replies = s.link.replies ++
      [{ kind := kind, tag := tag, result := r, content := content, sent := 0 }] := rfl

/-- A reply queued after the end of an event is one queued before it. -/
theorem State.Ends.reply {x t : State} (h : x.Ends t) (kind tag : Byte) (r : Result) (content : List Byte) :
    (x.reply kind tag r content).Ends (t.reply kind tag r content) := by
  unfold State.reply
  exact h.modLink _

/-- An operation that leaves the outer view as it was leaves the replies queued. -/
theorem replies_of_outer {s t : State} (h : t.outer = s.outer) : t.link.replies = s.link.replies := by
  have hline : t.link.line.replies = s.link.line.replies := congrArg Link.replies (outer_line h)
  exact hline

section
variable {tag : Byte} {body : List Byte} {s : State} {b : Boom}

/-- A ready part queues the answer to an END_MANUAL of the right length. -/
theorem exec_endManual {t : State} {r : Result} {content : List Byte} (hr : s.ready = true) (hl : body.length = 1)
    (ha : s.answerEndManual body = (t, r, content)) :
    exec (.endManual tag body) s = .next (t.reply 0x19 tag r content) := by
  have hlen : fixedLen 1 body = true := by simp [fixedLen, hl]
  have he := State.takeRequest_ready hr hlen 0x19 tag (State.answerEndManual body)
  rw [ha] at he
  exact congrArg Host.Outcome.next he

/-- In MANUAL the boom goes to IDLE with its jog setpoints at 0. -/
theorem State.answerEndManual_manual (hb : s.boomAt body 0 = some b) (hq : (s.seq.get b).state = .manual) :
    s.answerEndManual body = (s.finish (s.goPhase b .idle fun q => { q with jogs := .zero }), .ok, []) := by
  simp only [State.answerEndManual, hb, hq]; rfl

/-- In HALTED the jog setpoints go to 0 and the boom stays. -/
theorem State.answerEndManual_halted (hb : s.boomAt body 0 = some b) (hq : (s.seq.get b).state = .halted) :
    s.answerEndManual body = (s.finish (s.modSeq b fun q => { q with jogs := .zero }), .ok, []) := by
  simp only [State.answerEndManual, hb, hq]; rfl

/-- In every other state END_MANUAL is refused with STATE. -/
theorem State.answerEndManual_refused (hb : s.boomAt body 0 = some b) (hm : (s.seq.get b).state ≠ .manual)
    (hh : (s.seq.get b).state ≠ .halted) : s.answerEndManual body = (s, .state, []) := by
  unfold State.answerEndManual
  rw [hb]
  dsimp only
  split
  · contradiction
  · contradiction
  · rfl

/-- The way from MANUAL to IDLE, written as the record it leaves and its PHASE report (R5, R34). -/
theorem State.goPhase_manual_idle (hq : (s.seq.get b).state = .manual) :
    s.goPhase b .idle (fun q => { q with jogs := .zero }) =
      ({ s with seq := s.seq.set b { s.seq.get b with state := .idle, jogs := .zero } }).report
        (phaseNote b .manual { s.seq.get b with state := .idle, jogs := .zero }) := by
  simp only [State.goPhase, hq, State.modSeq_seq, PerBoom.get_set_same]; rfl

/-- A command that leaves boom `b` off the cycle as `q` and the outer view as it was, and is answered OK at the end
of its event: the boom ends as `q` and the one reply joins the queue, and from a calm state the event ends there. -/
theorem State.finish_reply_resting {x : State} {q : Sequencer} {c : Instr} {kind : Byte}
    (he : exec c s = .next ((s.finish x).reply kind tag .ok [])) (hx : x.RestsAs b q) (ho : x.outer = s.outer)
    (hc : x.calm = s.calm) :
    ∃ t, exec c s = .next t ∧ t.seq.get b = q ∧
      t.link.replies = s.link.replies ++ [{ kind := kind, tag := tag, result := .ok, content := [], sent := 0 }] ∧
      (s.calm = true → (x.reply kind tag .ok []).Ends t) := by
  have hreplies := replies_of_outer ((State.outer_finish s x).trans ho)
  refine ⟨_, he, ?_, ?_, fun h => (State.finish_ends (hc.trans h)).reply ..⟩
  · rw [State.reply_seq]
    exact (hx.finish s).1
  · rw [State.reply_replies, hreplies]

end

/-- Settles O27: a boom that END_MANUAL leaves in IDLE or HALTED is off the cycle, so the end of the event keeps
its Sequencer in every state, calm or not. -/
theorem endManualEndsJogging : Obligations.EndManualEndsJogging := by
  intro tag body s b hr hl hb q ok
  refine ⟨fun hq => ?_, fun hq => ?_, fun hm hh => ?_⟩
  · have hx := State.goPhase_manual_idle hq
    have ho : (s.goPhase b .idle fun q => { q with jogs := .zero }).outer = s.outer :=
      State.outer_goPhase _ _ _ _
    have he := exec_endManual (tag := tag) hr hl (State.answerEndManual_manual hb hq)
    rw [hx] at he ho
    exact State.finish_reply_resting he ⟨PerBoom.get_set_same _ _ _, rfl, by simp⟩ ho rfl
  · have ho : (s.modSeq b fun q => { q with jogs := .zero }).outer = s.outer := State.outer_modSeq s b _
    have hrest : { q with jogs := .zero }.Resting := by simp [Sequencer.Resting, hq, Phase.automatic]
    exact State.finish_reply_resting (exec_endManual hr hl (State.answerEndManual_halted hb hq))
      ⟨PerBoom.get_set_same _ _ _, hrest⟩ ho rfl
  · exact exec_endManual hr hl (State.answerEndManual_refused hb hm hh)

end Sys2Proof.Machine

/-! The Resin Planner's charge (R92 to R95): the slow count is the least that covers the rest, and the limit of
eight cuts it only where eight cartridges do not cover the required volume. -/

namespace Sys2Proof.Machine

namespace HoleRecord

/-- The required volume with the diameters squared, as R92 writes it. -/
theorem volume_eq_sq (r : HoleRecord) (le nv : Nat) : r.volume le nv =
    (r.spec.holeDia ^ 2 - r.spec.boltDia ^ 2) * (100 * le + 20 * r.param P.voidExtra * nv) := by
  simp only [volume, Nat.pow_two]

/-- R93's least count: the slow count is at most `n` exactly when `n` slow cartridges beside the `nf` fast ones
cover the required volume with its waste. -/
theorem slowCount_le_iff {r : HoleRecord} (hs : 0 < r.slowVolume) (vreq nf n : Nat) : r.slowCount vreq nf ≤ n ↔
    vreq * (100 + r.param P.waste) ≤ 100 * (nf * r.fastVolume + n * r.slowVolume) := by
  have hcharge : 100 * (nf * r.fastVolume + n * r.slowVolume) =
      100 * nf * r.fastVolume + 100 * r.slowVolume * n := by
    rw [Nat.mul_add, Nat.mul_comm n, Nat.mul_assoc, Nat.mul_assoc]
  have hpos : 0 < 100 * r.slowVolume := Nat.mul_pos (by decide) hs
  rw [hcharge]
  unfold slowCount
  dsimp only
  split
  · next hcovered => exact iff_of_true n.zero_le (Nat.le_add_right_of_le hcovered)
  · rw [Nat.div_le_iff_le_mul_add_pred hpos]
    omega

section
variable {r : HoleRecord} {p : Plan} {nf le nv : Nat}

/-- A charge within eight is completed as it is, without SHORT_RESIN (R94, R95). -/
theorem complete_of_fits (hle : p.le = some le) (hnv : p.nv = some nv)
    (hfit : nf + r.slowCount (r.volume le nv) nf ≤ 8) : r.complete p nf =
      { p with
        status := .ready, flags := { p.flags with shortResin := false }
        nfEff := some nf, vreq := some (r.volume le nv), ns := some (r.slowCount (r.volume le nv) nf)
        types := some (List.replicate nf .fast ++ List.replicate (r.slowCount (r.volume le nv) nf) .slow) } := by
  simp [complete, hle, hnv, Nat.not_lt.mpr hfit]

/-- A charge above eight is cut to eight at its slow cartridges, with SHORT_RESIN (R94, R95). -/
theorem complete_of_tooMany (hle : p.le = some le) (hnv : p.nv = some nv)
    (hmany : 8 < nf + r.slowCount (r.volume le nv) nf) : r.complete p nf =
      { p with
        status := .ready, flags := { p.flags with shortResin := true }
        nfEff := some nf, vreq := some (r.volume le nv), ns := some (8 - nf)
        types := some (List.replicate nf .fast ++ List.replicate (8 - nf) .slow) } := by
  simp [complete, hle, hnv, hmany]

end

end HoleRecord

/-- Settles O33: where the charge fits, its slow count covers and no smaller one does; where it does not, the
slow cartridges left by the limit are fewer than the least that cover. -/
theorem planSizesTheCharge : Obligations.PlanSizesTheCharge := by
  intro r p nf le nv hle hnv _ hnf hs
  dsimp only
  rw [← r.volume_eq_sq le nv]
  have hcover := HoleRecord.slowCount_le_iff hs (r.volume le nv) nf
  rcases Nat.lt_or_ge 8 (nf + r.slowCount (r.volume le nv) nf) with hmany | hfit
  · rw [HoleRecord.complete_of_tooMany hle hnv hmany]
    have hshort := Nat.lt_of_not_ge (mt (hcover (8 - nf)).mpr (by omega))
    exact ⟨8 - nf, rfl, rfl, rfl, rfl, rfl, by omega, rfl, rfl, nofun, fun _ => ⟨by omega, hshort⟩⟩
  · rw [HoleRecord.complete_of_fits hle hnv hfit]
    exact ⟨_, rfl, rfl, rfl, rfl, rfl, hfit, rfl, rfl,
      fun _ => ⟨(hcover _).mp (Nat.le_refl _), fun hpos => Nat.lt_of_not_ge (mt (hcover _).mpr (by omega))⟩, nofun⟩

end Sys2Proof.Machine

/-! The slot selected for a type (R124): scanned in slot order, the best slot so far is the least of the candidates
passed by load sequence number, then by slot number. -/

namespace Sys2Proof.Machine.Indexer

/-- The order of R124: slot `n` is taken rather than `m` for its number, or the lower slot among equal numbers. -/
def Precedes (x : Indexer) (n m : Nat) : Prop := x.seqOf n < x.seqOf m ∨ (x.seqOf n = x.seqOf m ∧ n ≤ m)

/-- What a selection among the slots below `k` has to be: the candidate that precedes every other, or none. -/
def Selects (x : Indexer) (t : CartType) (k : Nat) : Option Nat → Prop
  | some n => (n < k ∧ x.candidate t n = true) ∧ ∀ m, m < k → x.candidate t m = true → x.Precedes n m
  | none => ∀ m, m < k → x.candidate t m = false

/-- The scan of `select` over the slots below `k`. -/
def selectBelow (x : Indexer) (t : CartType) (k : Nat) : Option Nat :=
  (List.range k).foldl (fun best n =>
    if x.candidate t n then
      match best with
      | none => some n
      | some m => if x.seqOf n < x.seqOf m then some n else best
    else best) none

variable {x : Indexer} {t : CartType} {k n m : Nat}

theorem candidate_iff : x.candidate t n = true ↔ (x.slot n).state = .loaded ∧ (x.slot n).type = some t := by
  simp only [candidate, Bool.and_eq_true, decide_eq_true_eq]

/-! ### The order -/

theorem Precedes.refl (n : Nat) : x.Precedes n n := .inr ⟨rfl, Nat.le_refl n⟩

theorem Precedes.antisymm (hnm : x.Precedes n m) (hmn : x.Precedes m n) : n = m := by
  unfold Precedes at hnm hmn
  omega

/-- A slot with a lower number than the best so far precedes all that the best precedes. -/
theorem Precedes.of_seqOf_lt {l : Nat} (hlt : x.seqOf n < x.seqOf m) (hml : x.Precedes m l) : x.Precedes n l := by
  unfold Precedes at hml ⊢
  omega

/-! ### One slot of the scan -/

theorem selectBelow_succ_of_not_candidate (hk : x.candidate t k = false) :
    x.selectBelow t (k + 1) = x.selectBelow t k := by
  unfold selectBelow
  rw [List.range_succ, List.foldl_append, List.foldl_cons, List.foldl_nil, if_neg (by rw [hk]; exact Bool.noConfusion)]

theorem selectBelow_succ_of_none (hk : x.candidate t k = true) (hb : x.selectBelow t k = none) :
    x.selectBelow t (k + 1) = some k := by
  unfold selectBelow at hb ⊢
  rw [List.range_succ, List.foldl_append, List.foldl_cons, List.foldl_nil, if_pos hk, hb]

theorem selectBelow_succ_of_some (hk : x.candidate t k = true) (hb : x.selectBelow t k = some m) :
    x.selectBelow t (k + 1) = if x.seqOf k < x.seqOf m then some k else some m := by
  unfold selectBelow at hb ⊢
  rw [List.range_succ, List.foldl_append, List.foldl_cons, List.foldl_nil, if_pos hk, hb]

/-! ### The scan selects -/

theorem Selects.succ_of_not_candidate {o : Option Nat} (h : x.Selects t k o) (hk : x.candidate t k = false) :
    x.Selects t (k + 1) o := by
  have hbelow {m : Nat} (hm : m < k + 1) (hc : x.candidate t m = true) : m < k :=
    Nat.lt_of_le_of_ne (Nat.le_of_lt_succ hm) fun heq => Bool.noConfusion ((heq ▸ hc).symm.trans hk)
  cases o with
  | none => exact fun m hm => Bool.eq_false_iff.mpr fun hc => Bool.noConfusion ((h m (hbelow hm hc)).symm.trans hc)
  | some n =>
    obtain ⟨⟨hn, hcand⟩, hleast⟩ := h
    exact ⟨⟨Nat.lt_succ_of_lt hn, hcand⟩, fun m hm hc => hleast m (hbelow hm hc) hc⟩

/-- The best of the slots below `k + 1` is what precedes both the slots below `k` and slot `k`. -/
theorem selects_succ_some (hn : n < k + 1) (hcand : x.candidate t n = true)
    (hleast : ∀ m, m < k → x.candidate t m = true → x.Precedes n m) (hlast : x.Precedes n k) :
    x.Selects t (k + 1) (some n) := by
  refine ⟨⟨hn, hcand⟩, fun m hm hc => ?_⟩
  rcases Nat.lt_succ_iff_lt_or_eq.mp hm with hlt | rfl
  · exact hleast m hlt hc
  · exact hlast

theorem selects_selectBelow (x : Indexer) (t : CartType) (k : Nat) : x.Selects t k (x.selectBelow t k) := by
  induction k with
  | zero => exact fun m hm => absurd hm (Nat.not_lt_zero m)
  | succ k ih =>
    cases hk : x.candidate t k with
    | false =>
      rw [selectBelow_succ_of_not_candidate hk]
      exact ih.succ_of_not_candidate hk
    | true =>
      cases hb : x.selectBelow t k with
      | none =>
        rw [hb] at ih
        rw [selectBelow_succ_of_none hk hb]
        exact selects_succ_some (Nat.lt_succ_self k) hk
          (fun m hm hc => Bool.noConfusion ((ih m hm).symm.trans hc)) (.refl k)
      | some b =>
        rw [hb] at ih
        obtain ⟨⟨hbk, hcand⟩, hleast⟩ := ih
        rw [selectBelow_succ_of_some hk hb]
        rcases Nat.lt_or_ge (x.seqOf k) (x.seqOf b) with hlt | hge
        · rw [if_pos hlt]
          exact selects_succ_some (Nat.lt_succ_self k) hk (fun m hm hc => (hleast m hm hc).of_seqOf_lt hlt) (.refl k)
        · rw [if_neg (Nat.not_lt.mpr hge)]
          have hlast : x.Precedes b k :=
            (Nat.lt_or_eq_of_le hge).imp_right fun heq => ⟨heq, Nat.le_of_lt hbk⟩
          exact selects_succ_some (Nat.lt_succ_of_lt hbk) hcand hleast hlast

/-- Only one answer is a selection, since the order is antisymmetric. -/
theorem Selects.unique {o p : Option Nat} (ho : x.Selects t k o) (hp : x.Selects t k p) : o = p := by
  cases o with
  | none => cases p with
    | none => rfl
    | some m => exact Bool.noConfusion ((ho m hp.1.1).symm.trans hp.1.2)
  | some n => cases p with
    | none => exact Bool.noConfusion ((hp n ho.1.1).symm.trans ho.1.2)
    | some m =>
      obtain ⟨⟨hn, hcn⟩, hleastn⟩ := ho
      obtain ⟨⟨hm, hcm⟩, hleastm⟩ := hp
      exact congrArg some ((hleastn m hm hcm).antisymm (hleastm n hn hcn))

theorem select_eq_iff {o : Option Nat} : x.select t = o ↔ x.Selects t x.slots.length o :=
  have hsel : x.Selects t x.slots.length (x.select t) := selects_selectBelow x t x.slots.length
  ⟨fun h => h ▸ hsel, hsel.unique⟩

end Sys2Proof.Machine.Indexer

namespace Sys2Proof.Machine

/-- Settles O46: the scan's selection is the only candidate that precedes every other. -/
theorem oldestStockSelected : Obligations.OldestStockSelected := by
  intro x t
  dsimp only
  refine ⟨fun n => ?_, ?_⟩
  · rw [Indexer.select_eq_iff]
    simp only [Indexer.Selects, Indexer.Precedes, Indexer.candidate_iff, and_imp]
  · rw [Indexer.select_eq_iff]
    simp only [Indexer.Selects, Bool.eq_false_iff, ne_eq, Indexer.candidate_iff, not_and]

end Sys2Proof.Machine

/-! The division of the pump's flow (R147, R151). The classes are granted in order, and granting one leaves the others
as they were; so in the end the records of a class are those it had, each with its share of what the classes before it
leave. -/

namespace Sys2Proof.Machine

/-! ### The shares of one class -/

/-- Shares rounded down do not add up to more than the whole. -/
theorem sum_map_mul_div_le (m t : Nat) (l : List Nat) : (l.map fun e => e * m / t).sum ≤ l.sum * m / t := by
  induction l with
  | nil => simp
  | cons e l ih =>
    simp only [List.map_cons, List.sum_cons, Nat.add_mul]
    exact Nat.le_trans (Nat.add_le_add_left ih _) Nat.div_add_div_le_add_div

/-- The shares of a class do not exceed what there is to share. -/
theorem sum_grantShare_le (m : Nat) (l : List Nat) : (l.map (grantShare l.sum m)).sum ≤ m := by
  by_cases h : l.sum ≤ m
  · have hs : grantShare l.sum m = id := funext fun _ => if_pos h
    simpa [hs] using h
  · have hs : grantShare l.sum m = fun e => e * m / l.sum := funext fun _ => if_neg h
    rw [hs]
    exact Nat.le_trans (sum_map_mul_div_le m l.sum l) (Nat.le_of_eq (Nat.mul_div_cancel_left m (by omega)))

theorem grantShare_le (t m e : Nat) : grantShare t m e ≤ e := by
  unfold grantShare
  split
  · exact Nat.le_refl e
  next h => exact Nat.div_le_of_le_mul (by rw [Nat.mul_comm t]; exact Nat.mul_le_mul_left e (by omega))

/-- A record with its share out of `m` in a class of total `t`, and its FLOW_LIMITED flag (R147, R151). -/
def FlowRec.granted (t m : Nat) (r : FlowRec) : FlowRec :=
  { r with grant := grantShare t m r.effective, limited := grantShare t m r.effective < r.effective }

/-- What the grant computation keeps of a record: all but its grant and its flag. -/
def FlowRec.kept (r : FlowRec) : Fn × Nat × FlowClass × Nat × Withheld :=
  (r.fn, r.asked, r.cls, r.effective, r.cause)

/-- The records of a class. -/
def ofClass (c : FlowClass) (rs : List FlowRec) : List FlowRec := rs.filter fun r => r.cls = c

theorem mem_ofClass {c : FlowClass} {rs : List FlowRec} {r : FlowRec} : r ∈ ofClass c rs ↔ r ∈ rs ∧ r.cls = c := by
  simp [ofClass]

theorem classTotal_eq (rs : List FlowRec) (c : FlowClass) :
    classTotal rs c = ((ofClass c rs).map FlowRec.effective).sum := rfl

theorem classGranted_eq (rs : List FlowRec) (c : FlowClass) :
    classGranted rs c = ((ofClass c rs).map FlowRec.grant).sum := rfl

/-- A sum over the records is the sum over the three classes. -/
theorem sum_eq_sum_ofClass (f : FlowRec → Nat) (rs : List FlowRec) :
    (rs.map f).sum = ((ofClass .support rs).map f).sum + ((ofClass .setting rs).map f).sum +
      ((ofClass .work rs).map f).sum := by
  induction rs with
  | nil => rfl
  | cons r rs ih => cases h : r.cls <;> simp_all [ofClass] <;> omega

/-! ### The grant of one class -/

section
variable (c d : FlowClass) (m : Nat) (rs : List FlowRec)

theorem grantClass_eq_map :
    grantClass c m rs = rs.map fun r => if r.cls = c then r.granted (classTotal rs c) m else r := rfl

theorem map_kept_grantClass : (grantClass c m rs).map FlowRec.kept = rs.map FlowRec.kept := by
  rw [grantClass_eq_map, List.map_map]
  refine List.map_congr_left fun r _ => ?_
  by_cases h : r.cls = c
  · simp only [Function.comp_apply, if_pos h]; rfl
  · simp only [Function.comp_apply, if_neg h]

/-- No record changes its class, so the records of a class are found before the grant or after it. -/
theorem ofClass_grantClass : ofClass d (grantClass c m rs) =
    (ofClass d rs).map fun r => if r.cls = c then r.granted (classTotal rs c) m else r := by
  have hcls : ∀ r : FlowRec, (if r.cls = c then r.granted (classTotal rs c) m else r).cls = r.cls :=
    fun r => by split <;> rfl
  simp only [ofClass, grantClass_eq_map, List.filter_map, Function.comp_def, hcls]

theorem ofClass_grantClass_same :
    ofClass c (grantClass c m rs) = (ofClass c rs).map (FlowRec.granted (classTotal rs c) m) := by
  rw [ofClass_grantClass]
  exact List.map_congr_left fun r hr => if_pos (mem_ofClass.mp hr).2

variable {c d}

theorem ofClass_grantClass_ne (h : d ≠ c) : ofClass d (grantClass c m rs) = ofClass d rs := by
  rw [ofClass_grantClass]
  exact (List.map_congr_left fun r hr => if_neg ((mem_ofClass.mp hr).2 ▸ h)).trans (List.map_id _)

end

/-! ### The grants of all classes -/

section
variable (pump : Nat) (rs : List FlowRec)

/-- What the classes before a class leave of the pump's flow. -/
def remainingFor : FlowClass → Nat
  | .support => pump
  | .setting => pump - classGranted (grantAll pump rs).1 .support
  | .work => pump - classGranted (grantAll pump rs).1 .support - classGranted (grantAll pump rs).1 .setting

theorem map_kept_grantAll : (grantAll pump rs).1.map FlowRec.kept = rs.map FlowRec.kept := by
  simp only [grantAll, map_kept_grantClass]

/-- The computation gives each record of a class its share of what the classes before it leave. -/
theorem ofClass_grantAll (c : FlowClass) : ofClass c (grantAll pump rs).1 =
    (ofClass c rs).map (FlowRec.granted (classTotal rs c) (remainingFor pump rs c)) := by
  cases c <;>
    simp [grantAll, remainingFor, classTotal_eq, classGranted_eq, ofClass_grantClass_same, ofClass_grantClass_ne]

theorem classGranted_grantAll_le (c : FlowClass) :
    classGranted (grantAll pump rs).1 c ≤ remainingFor pump rs c := by
  have hl := sum_grantShare_le (remainingFor pump rs c) ((ofClass c rs).map FlowRec.effective)
  rw [List.map_map] at hl
  rw [classGranted_eq, ofClass_grantAll, List.map_map]
  exact hl

theorem sum_grant_grantAll_le : ((grantAll pump rs).1.map FlowRec.grant).sum ≤ pump := by
  have h1 : classGranted (grantAll pump rs).1 .support ≤ pump := classGranted_grantAll_le pump rs .support
  have h2 : classGranted (grantAll pump rs).1 .setting ≤ pump - classGranted (grantAll pump rs).1 .support :=
    classGranted_grantAll_le pump rs .setting
  have h3 : classGranted (grantAll pump rs).1 .work ≤
      pump - classGranted (grantAll pump rs).1 .support - classGranted (grantAll pump rs).1 .setting :=
    classGranted_grantAll_le pump rs .work
  rw [sum_eq_sum_ofClass, ← classGranted_eq, ← classGranted_eq, ← classGranted_eq]
  omega

theorem unused_grantAll : (grantAll pump rs).2 = pump - ((grantAll pump rs).1.map FlowRec.grant).sum := by
  rw [sum_eq_sum_ofClass, Nat.sub_add_eq, Nat.sub_add_eq]
  simp [grantAll, classGranted_eq, ofClass_grantClass_ne]

variable {pump rs} {r : FlowRec}

/-- A record of the result is one of its class with its share of what the classes before leave. -/
theorem exists_granted_of_mem_grantAll (hr : r ∈ (grantAll pump rs).1) :
    ∃ x : FlowRec, x.granted (classTotal rs r.cls) (remainingFor pump rs r.cls) = r := by
  have hm : r ∈ ofClass r.cls (grantAll pump rs).1 := mem_ofClass.mpr ⟨hr, rfl⟩
  rw [ofClass_grantAll, List.mem_map] at hm
  obtain ⟨x, _, hx⟩ := hm
  exact ⟨x, hx⟩

theorem grant_of_mem_grantAll (hr : r ∈ (grantAll pump rs).1) {c : FlowClass} (hc : r.cls = c) :
    r.grant = grantShare (classTotal rs c) (remainingFor pump rs c) r.effective := by
  obtain ⟨x, hx⟩ := exists_granted_of_mem_grantAll hr
  rw [hc] at hx
  rw [← hx]
  rfl

theorem grant_le_of_mem_grantAll (hr : r ∈ (grantAll pump rs).1) : r.grant ≤ r.effective :=
  Nat.le_trans (Nat.le_of_eq (grant_of_mem_grantAll hr rfl)) (grantShare_le _ _ _)

theorem limited_iff_of_mem_grantAll (hr : r ∈ (grantAll pump rs).1) :
    r.limited = true ↔ r.grant < r.effective := by
  obtain ⟨x, hx⟩ := exists_granted_of_mem_grantAll hr
  rw [← hx]
  exact decide_eq_true_iff (p := grantShare _ _ x.effective < x.effective)

end

/-! ### The grants of the state -/

/-- What the computation reads of a function (R143 to R146). -/
theorem State.mem_flowInputs {s : State} {r : FlowRec} (hr : r ∈ s.flowInputs) :
    r.asked = s.asked r.fn ∧ r.cls = s.flowClass r.fn ∧ r.cause = s.withheld r.fn ∧
      r.effective = if r.cause = .none then r.asked else 0 := by
  obtain ⟨f, _, rfl⟩ := List.mem_map.mp hr
  exact ⟨rfl, rfl, rfl, rfl⟩

/-- In a still state no waiting reservation fits (R154). -/
theorem State.firstFit_of_still {s : State} (h : s.still = true) : s.firstFit = none := by
  simp only [State.still, Bool.and_eq_true, List.all_eq_true, Bool.not_eq_true'] at h
  exact List.find?_eq_none.mpr fun b hb => by simp [h.1 b hb]

/-- In a still state no function may return (R171). -/
theorem State.valve_still_of_still {s : State} (h : s.still = true) : s.valve.Still := by
  simp only [State.still, Bool.and_eq_true, List.all_eq_true, decide_eq_true_eq] at h
  exact Valve.still_of_faulted fun f hk => absurd hk (Valve.route_calm h.2 f)

/-- Settles O41: the grants of a class are its shares of what the classes before it leave, and the end of an event
that moves nothing is rounds of that computation. -/
theorem grantsWithinThePump : Obligations.GrantsWithinThePump := by
  unfold Obligations.GrantsWithinThePump
  refine ⟨fun s => ?_, fun s0 s hs => ?_, fun pump rs => ?_⟩
  · exact ⟨rfl, (State.FlowOnly.refl s).compute.core, s.computeFlow_computed, s.computeFlow_stale, rfl,
      fun r hr => State.mem_flowInputs hr⟩
  · obtain ⟨-, ⟨hfresh, hfollows⟩, -⟩ := State.finish_ends_of_still (s0 := s0) hs
    exact ⟨hfresh, hfollows,
      State.finishComputed_computed (State.firstFit_of_still hs) (State.valve_still_of_still hs)⟩
  · exact ⟨sum_grant_grantAll_le pump rs, unused_grantAll pump rs, map_kept_grantAll pump rs,
      fun r hr => ⟨grant_le_of_mem_grantAll hr, limited_iff_of_mem_grantAll hr⟩,
      fun r hr hc => grant_of_mem_grantAll hr hc, fun r hr hc => grant_of_mem_grantAll hr hc,
      fun r hr hc => grant_of_mem_grantAll hr hc⟩

end Sys2Proof.Machine

/-! The measured rpm (R189) is read off NO_ROTATION and the last interval alone, so what keeps these two keeps it. -/

namespace Sys2Proof.Machine.Rotation

variable {r q : Rotation}

/-! ### What the measured rpm is -/

theorem rpm_of_noRotation (h : r.noRotation = true) : r.rpm = 0 := if_pos h

theorem rpm_of_last_none (h : r.last = none) : r.rpm = 0 := by simp [rpm, h]

/-- The quotient of R189, with the interval of 0 ticks spelled by a case. -/
theorem rpm_of_last_some {i k : Nat} (hn : r.noRotation = false) (hl : r.last = some (i, k)) :
    r.rpm = 1000000 / ((if i = 0 then 1 else i) * 25 * 2 ^ k) := by
  have hi : max 1 i = if i = 0 then 1 else i := by split <;> omega
  simp [rpm, hn, hl, hi]

/-- The time from one pulse to the next is never 0 µs, so the quotient is the floor of a proper division. -/
theorem intervalTime_pos (i k : Nat) : 0 < (if i = 0 then 1 else i) * 25 * 2 ^ k := by
  have hi : 0 < if i = 0 then 1 else i := by split <;> omega
  exact Nat.mul_pos (Nat.mul_pos hi (by decide)) (Nat.two_pow_pos k)

theorem rpm_congr (hn : r.noRotation = q.noRotation) (hl : r.last = q.last) : r.rpm = q.rpm := by
  simp only [rpm, hn, hl]

/-! ### What a tick and an overflow do to it -/

@[simp] theorem tick_noRotation (k : Nat) (r : Rotation) : (r.tick k).noRotation = r.noRotation := by
  unfold tick; split <;> rfl

@[simp] theorem tick_last (k : Nat) (r : Rotation) : (r.tick k).last = r.last := by
  unfold tick; split <;> rfl

theorem rpm_tick (k : Nat) (r : Rotation) : (r.tick k).rpm = r.rpm :=
  rpm_congr (tick_noRotation k r) (tick_last k r)

theorem rpm_overflow (r : Rotation) : r.overflow.rpm = 0 := rpm_of_noRotation rfl

end Sys2Proof.Machine.Rotation

namespace Sys2Proof.Machine

/-- Settles O36: the measured rpm is the floor of a division by a positive time, and a tick moves neither
NO_ROTATION nor the last interval. -/
theorem measuredRpmFollowsTheInterval : Obligations.MeasuredRpmFollowsTheInterval := by
  unfold Obligations.MeasuredRpmFollowsTheInterval
  refine fun r => ⟨?zero, fun i k hn hl => ?floor, fun k => ⟨r.tick_noRotation k, r.rpm_tick k⟩, r.rpm_overflow⟩
  case zero => exact fun h => h.elim Rotation.rpm_of_noRotation Rotation.rpm_of_last_none
  case floor =>
    rw [Rotation.rpm_of_last_some hn hl]
    refine ⟨Nat.div_mul_le_self _ _, ?_⟩
    rw [Nat.succ_mul]
    exact Nat.lt_div_mul_add (Rotation.intervalTime_pos i k)

end Sys2Proof.Machine

/-! REPLACE_BIT (R201): what each state of the named position answers. No answer asks about a boom. -/

namespace Sys2Proof.Machine

section
variable {tag : Byte} {body : List Byte} {s : State}

/-- A ready part queues the answer to a REPLACE_BIT of the right length. -/
theorem exec_replaceBit {t : State} {r : Result} {content : List Byte} (hr : s.ready = true) (hl : body.length = 1)
    (ha : s.answerReplaceBit body = (t, r, content)) :
    exec (.replaceBit tag body) s = .next (t.reply 0x3C tag r content) := by
  have hlen : fixedLen 1 body = true := by simp [fixedLen, hl]
  have he := State.takeRequest_ready hr hlen 0x3C tag (State.answerReplaceBit body)
  rw [ha] at he
  exact congrArg Host.Outcome.next he

theorem BitState.isFitted_iff {x : BitState} : x.isFitted = true ↔ ∃ b, x = .fitted b := by
  cases x <;> simp [BitState.isFitted]

/-- The states that REPLACE_BIT renews are all but FITTED. -/
theorem BitState.isFitted_eq_false_iff {x : BitState} :
    x.isFitted = false ↔ x = .empty ∨ x = .serviceable ∨ x = .retired := by
  cases x <;> simp [BitState.isFitted]

/-- Giving a position a value that does not depend on its old one is setting it. -/
theorem State.modBit_const (s : State) (p : Nat) (x : BitPos) :
    (s.modBit p fun _ => x) = { s with bits := s.bits.set p x } := by
  have hset : (s.bits.modify p fun _ => x) = s.bits.set p x := by
    refine List.ext_getElem? fun k => ?_
    rw [List.getElem?_modify, List.getElem?_set']
    split
    · rfl
    · exact Option.map_id_apply
  exact congrArg (fun l => { s with bits := l }) hset

theorem State.answerReplaceBit_range (hp : 7 < byteAt body 0) : s.answerReplaceBit body = (s, .range, []) :=
  if_pos hp

theorem State.answerReplaceBit_fitted (hp : byteAt body 0 ≤ 7)
    (hf : (s.bitAt (byteAt body 0)).state.isFitted = true) : s.answerReplaceBit body = (s, .state, []) :=
  (if_neg (Nat.not_lt.mpr hp)).trans (if_pos hf)

theorem State.answerReplaceBit_renewed (hp : byteAt body 0 ≤ 7)
    (hf : (s.bitAt (byteAt body 0)).state.isFitted = false) :
    s.answerReplaceBit body =
      ({ s with
         bits := s.bits.set (byteAt body 0) { state := .serviceable, wear := 0, holes := 0, worn := false } },
        .ok, []) := by
  rw [← State.modBit_const]
  exact (if_neg (Nat.not_lt.mpr hp)).trans (if_neg (by simp [hf]))

end

/-- Settles O54: the position's number and its state alone decide the answer, and every state is FITTED or one of
the three that are renewed. -/
theorem replaceBitRenewsThePosition : Obligations.ReplaceBitRenewsThePosition := by
  intro tag body s hr hl _ p
  refine ⟨fun hp => ?range, fun hp hf => ?fitted, fun hp hf => ?renewed⟩
  case range => exact exec_replaceBit hr hl (State.answerReplaceBit_range hp)
  case fitted => exact exec_replaceBit hr hl (State.answerReplaceBit_fitted hp (BitState.isFitted_iff.mpr hf))
  case renewed =>
    exact exec_replaceBit hr hl (State.answerReplaceBit_renewed hp (BitState.isFitted_eq_false_iff.mpr hf))

end Sys2Proof.Machine

/-! What the part's operations keep of the records, the Bit Table, the Routing Table and the Sequencers, beside the
outer view: the hole numbers but for their order (R191), the eight positions (R197), the sixteen routes (R167) and
the return phase exactly at the PAUSED booms (R1). -/

namespace Sys2Proof.Machine

/-! The proofs are elaborated one after another: side by side, so many ask for more threads than the memory holds. -/
set_option Elab.async false

/-! ### What is kept -/

/-- `s` keeps of `s0` the hole numbers held, the positions of the Bit Table, the sixteen routes and the return phase
exactly at the PAUSED Sequencers. -/
structure State.Inner (s0 s : State) : Prop where
  numbers : s.store.numbers.Perm s0.store.numbers
  bits    : s.bits.length = s0.bits.length
  routes  : s0.valve.routes.length = 16 → s.valve.routes.length = 16
  pauses  : s0.PausesMarked → s.PausesMarked

theorem Sequencer.pauseMarked_of_ne {q : Sequencer} (hs : q.state ≠ .paused) (hr : q.returnPhase = none) :
    q.pauseMarked := ⟨fun h => absurd h hs, fun _ => hr⟩

theorem Sequencer.pauseMarked_of_some {q : Sequencer} {p : Phase} (hs : q.state = .paused)
    (hr : q.returnPhase = some p) (hp : p.automatic = true) : q.pauseMarked :=
  ⟨fun _ => ⟨p, hr, hp⟩, fun h => absurd hs h⟩

/-- What keeps a Sequencer's state and return phase keeps its return phase marked. -/
theorem Sequencer.pauseMarked.congr {q r : Sequencer} (h : q.pauseMarked) (hs : r.state = q.state)
    (hr : r.returnPhase = q.returnPhase) : r.pauseMarked := by
  simpa [Sequencer.pauseMarked, hs, hr] using h

/-- A marked Sequencer with a return phase is PAUSED, and its return phase is automatic (R1). -/
theorem Sequencer.pauseMarked.of_returnPhase {q : Sequencer} {p : Phase} (h : q.pauseMarked)
    (hr : q.returnPhase = some p) : q.state = .paused ∧ p.automatic = true := by
  have hs : q.state = .paused := by
    refine Classical.byContradiction fun hne => ?_
    simp [h.2 hne] at hr
  obtain ⟨p', hp', ha⟩ := h.1 hs
  rw [hr] at hp'
  cases hp'
  exact ⟨hs, ha⟩

theorem State.pausesMarked_iff (s : State) : s.PausesMarked ↔ ∀ b, (s.seq.get b).pauseMarked :=
  ⟨fun ⟨hA, hB⟩ b => match b with
    | .A => hA
    | .B => hB, fun h => ⟨h .A, h .B⟩⟩

/-- A record that keeps its number keeps the numbers held. -/
theorem Store.numbers_map (st : Store) (b : Boom) {f : HoleRecord → HoleRecord} (hf : ∀ r, (f r).number = r.number) :
    Store.numbers { st with opened := st.opened.set b ((st.opened.get b).map f) } = st.numbers := by
  obtain ⟨⟨x, y⟩, q, n⟩ := st
  cases b <;> cases x <;> cases y <;> simp [Store.numbers, PerBoom.set, PerBoom.get, hf]

/-- A record that moves from its open slot to the queue's tail keeps the numbers held, but for their order. -/
theorem Store.numbers_close (st : Store) (b : Boom) {r r' : HoleRecord} (h : st.opened.get b = some r)
    (hr : r'.number = r.number) :
    (Store.numbers { st with opened := st.opened.set b none, queue := st.queue ++ [r'] }).Perm st.numbers := by
  obtain ⟨⟨x, y⟩, q, n⟩ := st
  cases b with
  | A =>
    obtain rfl : x = some r := h
    simp [Store.numbers, PerBoom.set, hr]
  | B =>
    obtain rfl : y = some r := h
    cases x <;> simp [Store.numbers, PerBoom.set, hr]
    exact List.Perm.append_left _ (List.Perm.swap ..)

namespace State.Inner
variable {s0 s t : State}

theorem refl (s : State) : s.Inner s := ⟨List.Perm.refl _, rfl, id, id⟩

theorem trans (h : s0.Inner s) (k : s.Inner t) : s0.Inner t :=
  ⟨k.numbers.trans h.numbers, k.bits.trans h.bits, k.routes ∘ h.routes, k.pauses ∘ h.pauses⟩

/-- What leaves the Store, the Bit Table, the Driver and the Sequencers keeps all. -/
theorem same (h : s0.Inner s) (hst : t.store = s.store) (hb : t.bits = s.bits) (hv : t.valve = s.valve)
    (hq : t.seq = s.seq) : s0.Inner t :=
  ⟨hst ▸ h.numbers, hb ▸ h.bits, hv ▸ h.routes, by
    have hp : t.PausesMarked = s.PausesMarked := by simp [State.PausesMarked, hq]
    exact hp ▸ h.pauses⟩

theorem report (h : s0.Inner s) (r : Report) : s0.Inner (s.report r) := h.same rfl rfl rfl rfl
theorem modProf (h : s0.Inner s) (b : Boom) (f : Profiler → Profiler) : s0.Inner (s.modProf b f) :=
  h.same rfl rfl rfl rfl
theorem modGov (h : s0.Inner s) (b : Boom) (f : Governor → Governor) : s0.Inner (s.modGov b f) :=
  h.same rfl rfl rfl rfl
theorem modSett (h : s0.Inner s) (b : Boom) (f : Setting → Setting) : s0.Inner (s.modSett b f) :=
  h.same rfl rfl rfl rfl
theorem modIdx (h : s0.Inner s) (f : Indexer → Indexer) : s0.Inner (s.modIdx f) := h.same rfl rfl rfl rfl
theorem modArb (h : s0.Inner s) (f : Arbiter → Arbiter) : s0.Inner (s.modArb f) := h.same rfl rfl rfl rfl
theorem modRot (h : s0.Inner s) (b : Boom) (f : Rotation → Rotation) : s0.Inner (s.modRot b f) :=
  h.same rfl rfl rfl rfl

theorem modBit (h : s0.Inner s) (p : Nat) (f : BitPos → BitPos) : s0.Inner (s.modBit p f) :=
  ⟨h.numbers, (List.length_modify ..).trans h.bits, h.routes, h.pauses⟩

theorem modRec (h : s0.Inner s) (b : Boom) {f : HoleRecord → HoleRecord}
    (hf : ∀ r, (f r).number = r.number := by exact fun _ => rfl) : s0.Inner (s.modRec b f) :=
  ⟨(s.store.numbers_map b hf).symm ▸ h.numbers, h.bits, h.routes, h.pauses⟩

/-- A change of a Sequencer that leaves its return phase marked. -/
theorem modSeq (h : s0.Inner s) {b : Boom} {f : Sequencer → Sequencer}
    (hf : (s.seq.get b).pauseMarked → (f (s.seq.get b)).pauseMarked) : s0.Inner (s.modSeq b f) := by
  refine ⟨h.numbers, h.bits, h.routes, fun hp => (State.pausesMarked_iff _).mpr fun c => ?_⟩
  have hc := (State.pausesMarked_iff s).mp (h.pauses hp)
  by_cases hbc : c = b
  · subst hbc
    simpa using hf (hc c)
  · simpa [PerBoom.get_set_ne _ hbc] using hc c

/-- A change of a Sequencer that keeps its state and its return phase. -/
theorem touchSeq (h : s0.Inner s) (b : Boom) {f : Sequencer → Sequencer}
    (hf : ∀ q, (f q).state = q.state ∧ (f q).returnPhase = q.returnPhase := by exact fun _ => ⟨rfl, rfl⟩) :
    s0.Inner (s.modSeq b f) :=
  h.modSeq fun hq => hq.congr (hf _).1 (hf _).2

theorem goPhase (h : s0.Inner s) {b : Boom} {p : Phase} {f : Sequencer → Sequencer}
    (hf : (s.seq.get b).pauseMarked → { f (s.seq.get b) with state := p }.pauseMarked) :
    s0.Inner (s.goPhase b p f) :=
  (h.modSeq (f := fun q => { f q with state := p }) hf).report _

/-- An entry into a state other than PAUSED (R1). -/
theorem enterPhase (h : s0.Inner s) (b : Boom) {p : Phase} {f : Sequencer → Sequencer}
    (hp : p ≠ .paused := by decide) (hf : ∀ q, (f q).returnPhase = q.returnPhase := by exact fun _ => rfl) :
    s0.Inner (s.enterPhase b p f) :=
  h.goPhase fun _ => Sequencer.pauseMarked_of_ne hp (hf _)

theorem notePhase (h : s0.Inner s) (b : Boom) : s0.Inner (s.notePhase b) := h.report _

/-- A Driver whose routes are listed afresh has its sixteen. -/
theorem modValve (h : s0.Inner s) {f : Valve → Valve}
    (hf : s.valve.routes.length = 16 → (f s.valve).routes.length = 16) : s0.Inner (s.modValve f) :=
  ⟨h.numbers, h.bits, fun h16 => hf (h.routes h16), h.pauses⟩

theorem foldl {α : Type} (h : s0.Inner s) (l : List α) {f : State → α → State}
    (hf : ∀ t, s0.Inner t → ∀ x, s0.Inner (f t x)) : s0.Inner (l.foldl f s) :=
  List.foldlRecOn (motive := fun t : State => s0.Inner t) l _ h fun t ht x _ => hf t ht x

/-! ### The Store, the bits and the drilling workers -/

theorem markBitWorn (h : s0.Inner s) (p : BitPos) : s0.Inner (s.markBitWorn p) := by
  unfold State.markBitWorn
  split
  · exact h.modRec _
  · exact h

theorem evalWorn (h : s0.Inner s) (p : Nat) : s0.Inner (s.evalWorn p) := by
  unfold State.evalWorn
  dsimp only
  split
  · exact ((h.modBit _ _).markBitWorn _).report _
  · exact h.modBit _ _

theorem addWear (h : s0.Inner s) (b : Boom) (w : Nat) : s0.Inner (s.addWear b w) := by
  unfold State.addWear
  split
  · exact h
  · exact (h.modBit _ _).evalWorn _

theorem bitClose (h : s0.Inner s) (b : Boom) (p : Nat) : s0.Inner (s.bitClose b p) := by
  unfold State.bitClose
  dsimp only
  split
  · exact ((h.modBit _ _).modBit _ _).report _
  · exact h.modBit _ _

theorem closeRecord (h : s0.Inner s) (b : Boom) (c : Option Closing) (why : Option HaltReason) :
    s0.Inner (s.closeRecord b c why) := by
  unfold State.closeRecord
  split
  · exact h
  · next r hr =>
    refine bitClose (report ?_ _) _ _
    have hn := (s.store.numbers_close b hr (r' := { r with
      outcome := some (r.derive c), haltReason := if r.derive c = .faulted then why else none }) rfl).trans h.numbers
    exact ⟨hn, h.bits, h.routes, h.pauses⟩

theorem handWork (h : s0.Inner s) (b : Boom) (g : OpenSeg) : s0.Inner (s.handWork b g) := by
  unfold State.handWork
  split
  · exact h
  · exact h.addWear _ _

theorem closeSegment (h : s0.Inner s) (b : Boom) (c p : Bool) : s0.Inner (s.closeSegment b c p) := by
  unfold State.closeSegment
  split
  · dsimp only
    refine modProf (handWork (modGov ?_ _ _) _ _) _ _
    split
    · exact (h.modRec b).report _
    · exact h.modRec b
  · exact h

theorem profSample (h : s0.Inner s) (b : Boom) (n : Nat) : s0.Inner (s.profSample b n) := by
  unfold State.profSample
  split
  · exact h
  · dsimp only
    split
    · exact ((h.modProf _ _).closeSegment _ _ _).modProf _ _
    · exact h.modProf _ _

theorem takeRemnant (h : s0.Inner s) (b : Boom) : s0.Inner (s.takeRemnant b) := by
  unfold State.takeRemnant
  split
  · split
    · exact h.closeSegment _ _ _
    · exact h.handWork _ _
  · exact h

theorem leaveDrilling (h : s0.Inner s) (b : Boom) : s0.Inner (s.leaveDrilling b) :=
  ((((h.takeRemnant b).modRec b).modProf _ _).modGov _ _).modRec b

theorem clearRotation (h : s0.Inner s) (b : Boom) : s0.Inner (s.clearRotation b) := h.modRot b _
theorem startApproach (h : s0.Inner s) (b : Boom) : s0.Inner (s.startApproach b) := h.same rfl rfl rfl rfl
theorem startClimb (h : s0.Inner s) (b : Boom) : s0.Inner (s.startClimb b) := h.same rfl rfl rfl rfl
theorem computeFlow (h : s0.Inner s) : s0.Inner s.computeFlow := h.same rfl rfl rfl rfl

theorem endBackoff (h : s0.Inner s) (b : Boom) : s0.Inner (s.endBackoff b) := by
  unfold State.endBackoff
  dsimp only
  split
  · exact (h.modGov _ _).modRot _ _
  · exact h

theorem stageDemands (h : s0.Inner s) (b : Boom) : s0.Inner (s.stageDemands b) := h.same rfl rfl rfl rfl

theorem govSample (h : s0.Inner s) (b : Boom) (adv : Nat) (d : Bool) : s0.Inner (s.govSample b adv d).1 := by
  have hd : ∀ {t : State}, s0.Inner t → s0.Inner ((t.endBackoff b).stageDemands b) :=
    fun ht => (ht.endBackoff b).stageDemands b
  have hg := h.modGov b fun g => { g with lastFeed := (s.head.get b).feed }
  unfold State.govSample
  dsimp only
  split
  · exact hg
  · split
    · exact hd ((hg.modProf _ _).modGov _ _)
    · exact hd hg
  · split
    · exact hd (hg.modGov _ _)
    · exact hd hg
  · split
    · exact hg
    · refine hd ?_
      split
      · exact hg.modGov _ _
      · exact hg
  · split
    · exact hg
    · exact hd hg

theorem startBackoff (h : s0.Inner s) (b : Boom) : s0.Inner (s.startBackoff b) := by
  unfold State.startBackoff
  refine modGov ?_ _ _
  dsimp only
  split
  · exact h.modGov _ _
  · exact h.modProf _ _

/-! ### The Setting Controller -/

theorem startPush (h : s0.Inner s) (b : Boom) : s0.Inner (s.startPush b) := h.same rfl rfl rfl rfl
theorem startMix (h : s0.Inner s) (b : Boom) : s0.Inner (s.startMix b) := h.same rfl rfl rfl rfl
theorem startTorque (h : s0.Inner s) (b : Boom) : s0.Inner (s.startTorque b) := h.same rfl rfl rfl rfl

theorem startHold (h : s0.Inner s) (b : Boom) : s0.Inner (s.startHold b) :=
  (h.modSett b _).modRec b

theorem writeMix (h : s0.Inner s) (b : Boom) (e : MixEnd) : s0.Inner (s.writeMix b e) := h.modRec b

theorem writeElapsed (h : s0.Inner s) (b : Boom) (n : Nat) : s0.Inner (s.writeElapsed b n) :=
  h.modRec b

theorem cutHold (h : s0.Inner s) (b : Boom) : s0.Inner (s.cutHold b) := by
  unfold State.cutHold
  dsimp only
  split
  · exact (h.writeElapsed b _).modSett _ _
  · exact h

theorem writeTorque (h : s0.Inner s) (b : Boom) : s0.Inner (s.writeTorque b) := h.modRec b

theorem leaveSetting (h : s0.Inner s) (b : Boom) (p : Phase) (e : MixEnd) : s0.Inner (s.leaveSetting b p e) := by
  unfold State.leaveSetting
  split
  · exact h.modSett _ _
  · exact h.modSett _ _
  · split
    · exact (h.writeMix b e).modSett _ _
    · exact h.modSett _ _
  · exact (h.cutHold b).modSett _ _
  · exact (h.writeTorque b).modSett _ _
  · exact h

/-! ### Halting, admission and pausing -/

theorem leavePhase (h : s0.Inner s) (b : Boom) (e : MixEnd) : s0.Inner (s.leavePhase b e) := by
  unfold State.leavePhase
  dsimp only
  split
  · exact h.leaveDrilling b
  · exact h.leaveSetting _ _ _

theorem goHalted (h : s0.Inner s) (b : Boom) (r : HaltReason) : s0.Inner (s.goHalted b r) := by
  unfold State.goHalted
  split
  · next hs => exact h.modSeq fun _ => Sequencer.pauseMarked_of_ne (by simp [Sequencer.halted, Sequencer.enter,
      Sequencer.noDemands, hs]) rfl
  · exact h.goPhase fun _ => Sequencer.pauseMarked_of_ne (by simp) rfl

theorem haltCore (h : s0.Inner s) (b : Boom) (r : HaltReason) (e : MixEnd) : s0.Inner (s.haltCore b r e) := by
  unfold State.haltCore
  dsimp only
  split
  · exact ((h.leavePhase b e).goHalted b r).modArb _
  · exact (h.leavePhase b e).goHalted b r

theorem enterMixing (h : s0.Inner s) (b : Boom) : s0.Inner (s.enterMixing b) := by
  unfold State.enterMixing
  split
  · exact h.haltCore _ _ _
  · exact (h.enterPhase (p := .mixing) (f := id) b).startMix b

theorem admitBoom (h : s0.Inner s) (b : Boom) : s0.Inner (s.admitBoom b) := by
  have hm : s0.Inner (s.markAdmitted b) := h.modArb _
  unfold State.admitBoom
  dsimp only
  split
  · exact hm.enterMixing b
  · split
    · next hp =>
      simp only [Bool.and_eq_true, decide_eq_true_eq] at hp
      exact (hm.modSeq fun _ => Sequencer.pauseMarked_of_some hp.1 rfl rfl).notePhase b
    · exact hm

theorem testList (h : s0.Inner s) : s0.Inner s.testList := by
  unfold State.testList
  generalize s.arb.waiting.length = n
  induction n generalizing s with
  | zero => exact h
  | succ n ih =>
    unfold State.testWaiting
    split
    · exact ih (h.admitBoom _)
    · exact h

theorem releaseFrom (h : s0.Inner s) (b : Boom) (p : Phase) : s0.Inner (s.releaseFrom b p) := by
  unfold State.releaseFrom
  split
  · exact testList (h.modArb _)
  · exact h

theorem halt (h : s0.Inner s) (b : Boom) (r : HaltReason) (e : MixEnd) : s0.Inner (s.halt b r e) := by
  unfold State.halt
  dsimp only
  split
  · exact (h.haltCore b r e).testList
  · exact h.haltCore b r e

/-- The phase a boom is PAUSED from is automatic (R17). -/
theorem pauseBoom (h : s0.Inner s) {b : Boom} (ha : (s.seq.get b).state.automatic = true) (c : Cause) :
    s0.Inner (s.pauseBoom b c) := by
  unfold State.pauseBoom
  dsimp only
  refine goPhase (modSett ?_ _ _) fun _ => Sequencer.pauseMarked_of_some rfl rfl ha
  split
  · exact h.modGov _ _
  · exact h

theorem arriveBasic (h : s0.Inner s) (b : Boom) (c : Cause) : s0.Inner (s.arriveBasic b c) := by
  unfold State.arriveBasic
  dsimp only
  split
  · split
    · exact h
    · exact (h.touchSeq b).notePhase b
  · split
    · next ha =>
      simp only [Bool.and_eq_true] at ha
      exact h.pauseBoom ha.1 c
    · exact h

theorem takeStanding (h : s0.Inner s) (b : Boom) : s0.Inner (s.takeStanding b) :=
  h.foldl _ fun _ ht c => ht.arriveBasic b c

/-! ### Releasing, closing and the end of MIXING -/

theorem closeHole (h : s0.Inner s) (b : Boom) : s0.Inner (s.closeHole b) := by
  unfold State.closeHole
  exact ((((h.closeRecord b _ _).modProf _ _).modGov _ _).modSett _ _).enterPhase b

theorem jackLowered (h : s0.Inner s) (b : Boom) : s0.Inner (s.jackLowered b) := by
  unfold State.jackLowered
  dsimp only
  split
  · exact h.closeHole b
  · exact h

theorem startJackDown (h : s0.Inner s) (b : Boom) : s0.Inner (s.startJackDown b) := by
  unfold State.startJackDown
  dsimp only
  split
  · exact (h.touchSeq b).jackLowered b
  · exact h.touchSeq b

theorem testReleasing (h : s0.Inner s) (b : Boom) : s0.Inner (s.testReleasing b) := by
  unfold State.testReleasing
  dsimp only
  split
  · exact h.startJackDown b
  · exact h

theorem toReleasing (h : s0.Inner s) (b : Boom) : s0.Inner (s.toReleasing b) := by
  unfold State.toReleasing
  split
  · exact h.halt _ _ _
  · dsimp only
    refine testReleasing ?_ b
    have hr := ((h.leavePhase b .interrupted).enterPhase (p := .releasing) b
      (f := fun q => { q.noDemands with feedDown := (s.leavePhase b .interrupted).approachFlow b })
     ).releaseFrom b (s.phase b)
    split
    · exact hr.takeStanding b
    · exact hr

theorem abortFrom (h : s0.Inner s) (b : Boom) : s0.Inner (s.abortFrom b) :=
  (h.touchSeq b).toReleasing b

theorem abortHalted (h : s0.Inner s) (b : Boom) : s0.Inner (s.abortHalted b) :=
  (h.touchSeq b).toReleasing b

theorem takeDeferred (h : s0.Inner s) (b : Boom) : s0.Inner (s.takeDeferred b) := by
  have hd : s0.Inner (s.modSeq b fun q => { q with deferredAbort := false }) := h.touchSeq b
  unfold State.takeDeferred
  refine foldl (touchSeq ?_ b) _ fun _ ht c => ht.arriveBasic b c
  dsimp only
  split
  · split
    · exact hd.abortFrom b
    · exact hd.abortHalted b
    · exact hd
  · exact h

theorem mixInterrupted (h : s0.Inner s) (b : Boom) : s0.Inner (s.mixInterrupted b) :=
  (h.halt b _ _).takeDeferred b

theorem arrive (h : s0.Inner s) (b : Boom) (c : Cause) : s0.Inner (s.arrive b c) := by
  unfold State.arrive
  dsimp only
  split
  · split
    · exact h.mixInterrupted b
    · split
      · exact h
      · exact (h.touchSeq b).notePhase b
  · exact h.arriveBasic b c

/-! ### The setting phases and the emergency stop -/

theorem enterBoltPush (h : s0.Inner s) (b : Boom) : s0.Inner (s.enterBoltPush b) := by
  unfold State.enterBoltPush
  split
  · exact h.halt _ _ _
  · exact (h.enterPhase (p := .boltPush) (f := id) b).startPush b

theorem boltPresent (h : s0.Inner s) (b : Boom) : s0.Inner (s.boltPresent b) := by
  unfold State.boltPresent
  split
  · exact h.enterBoltPush b
  · exact h

theorem enterAwaitBolt (h : s0.Inner s) (b : Boom) : s0.Inner (s.enterAwaitBolt b) := by
  have he : s0.Inner (s.enterPhase b .awaitBolt id) := h.enterPhase b
  unfold State.enterAwaitBolt
  dsimp only
  split
  · exact he.boltPresent b
  · exact he

theorem enterMixWait (h : s0.Inner s) (b : Boom) : s0.Inner (s.enterMixWait b) :=
  testList (((h.enterPhase b).modSett _ _).modArb _)

theorem enterGelHold (h : s0.Inner s) (b : Boom) : s0.Inner (s.enterGelHold b) := by
  unfold State.enterGelHold
  split
  · exact h.halt _ _ _
  · exact (h.enterPhase b).startHold b

theorem enterTorquing (h : s0.Inner s) (b : Boom) : s0.Inner (s.enterTorquing b) := by
  unfold State.enterTorquing
  split
  · exact h.halt _ _ _
  · exact (h.enterPhase (p := .torquing) (f := id) b).startTorque b

theorem mixComplete (h : s0.Inner s) (b : Boom) : s0.Inner (s.mixComplete b) :=
  (((h.writeMix b .complete).modSett _ _).enterGelHold b).takeDeferred b

theorem mixPulse (h : s0.Inner s) (b : Boom) : s0.Inner (s.mixPulse b) := by
  unfold State.mixPulse
  split
  · dsimp only
    split
    · exact (h.modSett _ _).mixComplete b
    · exact h.modSett _ _
  · exact h

theorem giveVerdict (h : s0.Inner s) (b : Boom) (v : Verdict) : s0.Inner (s.giveVerdict b v) :=
  ((h.modSett _ _).touchSeq b).toReleasing b

theorem stopBoom (h : s0.Inner s) (b : Boom) : s0.Inner (s.stopBoom b) := by
  unfold State.stopBoom
  split
  · exact h
  · exact ((h.leavePhase b .stopped).goPhase fun _ => Sequencer.pauseMarked_of_ne (by simp) rfl).releaseFrom b _

/-! ### The Cartridge Indexer -/

theorem seqBurstEnd (h : s0.Inner s) (b : Boom) (k : BurstEnd) : s0.Inner (s.seqBurstEnd b k) := by
  unfold State.seqBurstEnd
  dsimp only
  split
  · exact h
  · split
    · exact (h.touchSeq b).toReleasing b
    · split
      · split
        · next hs => exact (h.modSeq fun _ => Sequencer.pauseMarked_of_some hs rfl rfl).notePhase b
        · exact h.enterAwaitBolt b
      · exact h.halt _ _ _
      · exact h.halt _ _ _
      · exact h

theorem notifyEnd (h : s0.Inner s) (r : Burst) (k : BurstEnd) : s0.Inner (s.notifyEnd r k) :=
  (h.seqBurstEnd _ _).report _

theorem idxFault (h : s0.Inner s) (c : IdxFault) : s0.Inner (s.idxFault c) := by
  unfold State.idxFault
  refine report ?_ _
  dsimp only
  split
  · exact (h.modIdx _).notifyEnd _ _
  · exact h.modIdx _

theorem readySync (h : s0.Inner s) : s0.Inner s.readySync := by
  unfold State.readySync
  split
  · split
    · split
      · exact h.modIdx _
      · split
        · exact h.modIdx _
        · exact h.modIdx _
    · exact h
  · exact h

theorem enterAwaitReady (h : s0.Inner s) : s0.Inner s.enterAwaitReady := (h.modIdx _).readySync

theorem startStep (h : s0.Inner s) : s0.Inner s.startStep := by
  unfold State.startStep
  split
  · exact h.idxFault _
  · exact h.modIdx _

theorem startMove (h : s0.Inner s) : s0.Inner s.startMove := by
  unfold State.startMove
  split
  · dsimp only
    split
    · exact (h.modIdx _).enterAwaitReady
    · exact (h.modIdx _).startStep
  · exact h

theorem homeFound (h : s0.Inner s) : s0.Inner s.homeFound := (h.modIdx _).startMove

theorem startPositioning (h : s0.Inner s) : s0.Inner s.startPositioning := by
  unfold State.startPositioning
  dsimp only
  split
  · exact (h.modIdx _).startMove
  · split
    · exact ((h.modIdx _).modIdx _).homeFound
    · exact ((h.modIdx _).modIdx _).startStep

theorem takeSlot (h : s0.Inner s) (n : Nat) (f : Bool) : s0.Inner (s.takeSlot n f) := (h.modIdx _).startPositioning

theorem trySetAside (h : s0.Inner s) : s0.Inner s.trySetAside := by
  unfold State.trySetAside
  split
  · split
    · exact (h.modIdx _).takeSlot _ _
    · exact h
  · exact h

theorem starve (h : s0.Inner s) (r : Burst) : s0.Inner (s.starve r) := ((h.modIdx _).report _).trySetAside

theorem takeHead (h : s0.Inner s) (f : Bool) : s0.Inner (s.takeHead f) := by
  unfold State.takeHead
  split
  · split
    · exact h.takeSlot _ _
    · exact h.starve _
  · exact h

theorem endBurst (h : s0.Inner s) (k : BurstEnd) : s0.Inner (s.endBurst k) := by
  unfold State.endBurst
  split
  · exact ((h.modIdx _).notifyEnd _ _).takeHead _
  · exact h

theorem endWaiting (h : s0.Inner s) (b : Boom) (k : BurstEnd) : s0.Inner (s.endWaiting b k) := by
  unfold State.endWaiting
  split
  · exact (h.modIdx _).notifyEnd _ _
  · exact h

theorem retestStarved (h : s0.Inner s) : s0.Inner s.retestStarved := by
  unfold State.retestStarved
  split
  · split
    · split
      · exact h.takeSlot _ _
      · exact h.trySetAside
    · exact h
  · exact h

theorem postBurst (h : s0.Inner s) (b : Boom) : s0.Inner (s.postBurst b) := by
  have hj : s0.Inner (s.setIndexJog 0) := h.same rfl rfl rfl rfl
  unfold State.postBurst
  split
  · exact h
  · dsimp only
    split
    · exact hj.notifyEnd _ _
    · split
      · exact (hj.modIdx _).takeHead _
      · exact (hj.modIdx _).trySetAside
      · exact hj.modIdx _

theorem stopBurst (h : s0.Inner s) (b : Boom) : s0.Inner (s.stopBurst b) := by
  unfold State.stopBurst
  split
  · split
    · exact h.endBurst _
    · exact h.endBurst _
    · exact h.modIdx _
  · exact h.endWaiting _ _

theorem homingStep (h : s0.Inner s) : s0.Inner s.homingStep := by
  have hc : s0.Inner (s.modIdx fun x => { x with homeCount := x.homeCount + 1 }) := h.modIdx _
  unfold State.homingStep
  dsimp only
  split
  · split
    · exact (hc.modIdx _).endBurst _
    · exact hc.homeFound
  · split
    · exact hc.idxFault _
    · split
      · exact hc.endBurst _
      · exact hc.modIdx _

theorem moveStep (h : s0.Inner s) : s0.Inner s.moveStep := by
  unfold State.moveStep
  dsimp only
  split
  · exact (h.modIdx _).idxFault _
  · split
    · exact (h.modIdx _).endBurst _
    · split
      · exact (h.modIdx _).enterAwaitReady
      · exact (h.modIdx _).modIdx _

theorem strayStep (h : s0.Inner s) : s0.Inner s.strayStep := by
  unfold State.strayStep
  dsimp only
  split
  · exact ((h.modIdx _).modIdx _).startPositioning
  · exact h.modIdx _

theorem idxStep (h : s0.Inner s) : s0.Inner s.idxStep := by
  unfold State.idxStep
  split
  · split
    · exact h.homingStep
    · exact h.moveStep
  · exact h.strayStep

theorem indexFailed (h : s0.Inner s) : s0.Inner s.indexFailed := by
  unfold State.indexFailed
  split
  · exact h.idxFault _
  · exact h

theorem cartridgePassed (h : s0.Inner s) (b : Boom) : s0.Inner (s.cartridgePassed b) := by
  unfold State.cartridgePassed
  split
  · split
    · dsimp only
      split
      · exact ((h.modIdx _).modRec b).endBurst _
      · split
        · exact ((h.modIdx _).modRec b).endBurst _
        · exact ((h.modIdx _).modRec b).takeHead _
    · exact h.modIdx _
  · exact h.modIdx _

theorem passFailed (h : s0.Inner s) : s0.Inner s.passFailed := by
  unfold State.passFailed
  split
  · have hend : ∀ t : State, s0.Inner t →
        s0.Inner (if t.idx.stopMark then t.endBurst .stopped else t.takeHead false) := by
      intro t ht
      split
      · exact ht.endBurst _
      · exact ht.takeHead _
    refine hend _ ?_
    split
    · exact (h.modIdx _).report _
    · exact h.modIdx _
  · exact h

theorem stopIndexer (h : s0.Inner s) : s0.Inner s.stopIndexer :=
  foldl (h.modIdx _) _ fun _ ht r => ht.notifyEnd r _

theorem clearMagazine (h : s0.Inner s) : s0.Inner s.clearMagazine := (h.modIdx _).takeHead _

/-! ### The cycle -/

theorem enterResinInsert (h : s0.Inner s) (b : Boom) : s0.Inner (s.enterResinInsert b) :=
  (h.enterPhase b).postBurst b

theorem enterAwaitDecision (h : s0.Inner s) (b : Boom) (c : ChoiceSet) : s0.Inner (s.enterAwaitDecision b c) :=
  (h.enterPhase b).report _

theorem planHole (h : s0.Inner s) (b : Boom) : s0.Inner (s.planHole b) := by
  have hf : s0.Inner (s.modSeq b fun q => { q with feedDown := 0 }) := h.touchSeq b
  unfold State.planHole
  dsimp only
  split
  · exact hf
  · split
    · exact (hf.modRec b).enterResinInsert b
    · exact (hf.modRec b).enterAwaitDecision b _
    · exact (hf.modRec b).enterAwaitDecision b _

theorem enterRedrill (h : s0.Inner s) (b : Boom) : s0.Inner (s.enterRedrill b) := by
  have hr : s0.Inner (s.modRec b fun r => { r with spec := { r.spec with planned := r.spec.boltLen } }) :=
    h.modRec b
  unfold State.enterRedrill
  dsimp only
  split
  · exact hr.halt _ _ _
  · exact (((hr.enterPhase (p := .drilling) (f := id) b).modProf b _).startClimb b).clearRotation b

theorem decideTaken (h : s0.Inner s) (b : Boom) (c : Choice) : s0.Inner (s.decideTaken b c) := by
  have hd : s0.Inner ((s.modRec b fun r => { r with decision := some c }).modSeq b fun q =>
      { q with choices := .empty }) := (h.modRec b).touchSeq b
  cases c with
  | proceed => exact (hd.modRec b).enterResinInsert b
  | extraFast => exact (hd.modRec b).enterResinInsert b
  | redrill => exact hd.enterRedrill b
  | abandon => exact (hd.touchSeq b).toReleasing b

theorem enterCollaring (h : s0.Inner s) (b : Boom) : s0.Inner (s.enterCollaring b) := by
  unfold State.enterCollaring
  split
  · exact h.halt _ _ _
  · exact (((h.enterPhase (p := .collaring) (f := fun q => { q with jackUp := 0 }) b).modProf b _).startApproach b).clearRotation b

theorem jackAtRoof (h : s0.Inner s) (b : Boom) : s0.Inner (s.jackAtRoof b) := by
  unfold State.jackAtRoof
  split
  · exact h.enterCollaring b
  · exact h

theorem testJackSet (h : s0.Inner s) (b : Boom) : s0.Inner (s.testJackSet b) := by
  unfold State.testJackSet
  split
  · exact h.jackAtRoof b
  · exact h

theorem enterJackSet (h : s0.Inner s) (b : Boom) : s0.Inner (s.enterJackSet b) := by
  have he : s0.Inner (s.enterPhase b .jackSet fun q =>
      { q with jackUp := s.valve.qmaxOf (.boom b .jackUp) }) := h.enterPhase b
  unfold State.enterJackSet
  dsimp only
  split
  · exact he.halt _ _ _
  · exact (he.takeStanding b).testJackSet b

theorem contactMade (h : s0.Inner s) (b : Boom) : s0.Inner (s.contactMade b) :=
  h.touchSeq b

theorem haltAtSample (h : s0.Inner s) (b : Boom) (r : HaltReason) : s0.Inner (s.haltAtSample b r) := by
  unfold State.haltAtSample
  refine halt ?_ _ _ _
  split
  · exact h.modProf _ _
  · exact h

theorem enterDrilling (h : s0.Inner s) (b : Boom) : s0.Inner (s.enterDrilling b) := by
  unfold State.enterDrilling
  split
  · exact h.haltAtSample _ _
  · exact h.enterPhase b

theorem feedRetracted (h : s0.Inner s) (b : Boom) : s0.Inner (s.feedRetracted b) := by
  unfold State.feedRetracted
  dsimp only
  split
  · exact h.planHole b
  · split
    · exact h.startJackDown b
    · exact h

theorem endDrilling (h : s0.Inner s) (b : Boom) : s0.Inner (s.endDrilling b) := by
  unfold State.endDrilling
  split
  · exact h.halt _ _ _
  · have he := (h.leaveDrilling b).enterPhase (p := .retracting) b
      (f := fun q => { q with feedDown := (s.leaveDrilling b).approachFlow b })
    dsimp only
    split
    · exact he.feedRetracted b
    · exact he

theorem resumeGovernor (h : s0.Inner s) (b : Boom) : s0.Inner (s.resumeGovernor b) := h.same rfl rfl rfl rfl

theorem reenter (h : s0.Inner s) (b : Boom) (p : Phase) : s0.Inner (s.reenter b p) := by
  unfold State.reenter
  split
  · exact (h.touchSeq b).testJackSet b
  · exact h.resumeGovernor b
  · exact h.resumeGovernor b
  · dsimp only
    split
    · exact (h.touchSeq b).feedRetracted b
    · exact h.touchSeq b
  · exact h.report _
  · split
    · exact h.boltPresent b
    · exact h
  · exact h.modSett _ _
  · split
    · exact h.enterTorquing b
    · exact h
  · exact (h.modSett _ _).modRot _ _
  · split
    · dsimp only
      split
      · exact (h.touchSeq b).jackLowered b
      · exact h.touchSeq b
    · exact (h.touchSeq b).testReleasing b
  · exact h

/-- A return phase is automatic, so the boom that returns to it is PAUSED no longer (R1, R19). -/
theorem resumeBoom (h : s0.Inner s) (b : Boom) : s0.Inner (s.resumeBoom b) := by
  unfold State.resumeBoom
  split
  · exact h
  · next p hp =>
    split
    · dsimp only
      split
      · exact (h.enterMixing b).testList.takeDeferred b
      · exact (h.enterMixing b).testList
    · split
      · exact h.halt _ _ _
      · dsimp only
        refine reenter (h.goPhase fun hq => Sequencer.pauseMarked_of_ne ?_ rfl) b p
        rintro rfl
        exact absurd (hq.of_returnPhase hp).2 (by simp [Phase.automatic])

theorem abortBurst (h : s0.Inner s) (b : Boom) : s0.Inner (s.abortBurst b) := by
  unfold State.abortBurst
  split
  · exact h
  · exact (h.touchSeq b).stopBurst b

theorem deferAbort (h : s0.Inner s) (b : Boom) : s0.Inner (s.deferAbort b) := by
  unfold State.deferAbort
  split
  · exact h
  · exact (h.touchSeq b).notePhase b

theorem abortPaused (h : s0.Inner s) (b : Boom) (p : Phase) : s0.Inner (s.abortPaused b p) := by
  have hc : s0.Inner (s.modSeq b fun q => { q with causes := .empty }) := h.touchSeq b
  unfold State.abortPaused
  dsimp only
  split
  · exact hc.abortBurst b
  · exact hc.deferAbort b
  · exact hc.abortFrom b

theorem abortHole (h : s0.Inner s) (b : Boom) : s0.Inner (s.abortHole b).1 := by
  unfold State.abortHole
  dsimp only
  split
  case h_5 => exact h.deferAbort b
  case h_6 => exact h.abortHalted b
  case h_7 => exact h.abortBurst b
  case h_8 =>
    split
    · exact h
    · split
      · exact h
      · split
        · exact h
        · exact h.abortPaused b _
  case h_9 => exact h.abortFrom b
  all_goals exact h

theorem clearStopBoom (h : s0.Inner s) (b : Boom) : s0.Inner (s.clearStopBoom b) := by
  unfold State.clearStopBoom
  split
  · split
    · exact h.goPhase fun _ => Sequencer.pauseMarked_of_ne (by simp) rfl
    · exact h.goPhase fun _ => Sequencer.pauseMarked_of_ne (by simp) rfl
  · exact h

theorem boomFailed (h : s0.Inner s) (b : Boom) (k : FnKind) : s0.Inner (s.boomFailed b k) := by
  unfold State.boomFailed
  dsimp only
  split
  · split
    · exact h.mixInterrupted b
    · split
      · exact (h.halt _ _ _).takeDeferred b
      · exact h.halt _ _ _
  · exact h

theorem takeFailed (h : s0.Inner s) (fs : List Fn) : s0.Inner (s.takeFailed fs) :=
  h.foldl _ fun _ ht f => by
    cases f with
    | boom b k => exact ht.boomFailed b k
    | index => exact ht.indexFailed
    | tram => exact ht

theorem takeNewlyFailed (h : s0.Inner s) (v : Valve) : s0.Inner (s.takeNewlyFailed v) := h.takeFailed _

theorem zeroJogs (h : s0.Inner s) : s0.Inner s.zeroJogs := by
  have hj : s0.Inner ((s.modSeq .A fun q => { q with jogs := .zero }).modSeq .B fun q => { q with jogs := .zero }) :=
    (h.touchSeq .A).touchSeq .B
  exact hj.same rfl rfl rfl rfl

/-! ### The end of an event -/

theorem tramCheck (h : s0.Inner s) : s0.Inner s.tramCheck := by
  unfold State.tramCheck
  split
  · exact h.same rfl rfl rfl rfl
  · exact h

theorem returnOne (h : s0.Inner s) (q : Bool) (f : Fn) : s0.Inner (State.returnOne q s f) := by
  unfold State.returnOne
  dsimp only
  split
  · refine takeNewlyFailed ?_ _
    split
    · exact h.modValve fun _ => rfl
    · exact (h.modValve fun _ => rfl).report _
  · exact h

theorem returnTest (h : s0.Inner s) (q : Bool) : s0.Inner (s.returnTest q) :=
  h.foldl _ fun _ ht f => ht.returnOne q f

theorem settle (h : s0.Inner s) (q : Bool) (n : Nat) (force : Bool) (on : List Bool) :
    s0.Inner (State.settle q n force on s) := by
  induction n generalizing s force on with
  | zero => exact h
  | succ n ih =>
    have hflow : s0.Inner (if force || s.testList.flowStale then s.testList.computeFlow else s.testList) := by
      split
      · exact h.testList.computeFlow
      · exact h.testList
    have hround : ∀ (t : State) (stale : Bool), s0.Inner t →
        s0.Inner (if stale || t.onStates != on then State.settle q n false t.onStates (t.returnTest q) else t) := by
      intro t stale ht
      split
      · exact ih (ht.returnTest q) _ _
      · exact ht
    unfold State.settle
    exact hround _ _ hflow

theorem flushSync (h : s0.Inner s) (b : Boom) : s0.Inner (s.flushSync b) := h.same rfl rfl rfl rfl

theorem computeDuties (h : s0.Inner s) : s0.Inner s.computeDuties := h.modValve id

theorem finishFrom (h : s0.Inner s) (on : List Bool) (force q : Bool) : s0.Inner (s.finishFrom on force q) :=
  ((((h.tramCheck.settle q settleRounds force on).flushSync .A).flushSync .B).readySync).computeDuties

theorem inOrder {α : Type} (h : s0.Inner s) (free : Bool) (l : List α) {f : State → α → State}
    (hf : ∀ t, s0.Inner t → ∀ x, s0.Inner (f t x)) : s0.Inner (s.inOrder free l f) := by
  unfold State.inOrder
  split
  · have hn : s0.Inner { s with freeCount := s.freeCount + l.length } := h.same rfl rfl rfl rfl
    exact hn.foldl _ hf
  · exact h.foldl _ hf

theorem takeStop (h : s0.Inner s) (x : StopBlock) : s0.Inner (s.takeStop x) := by
  cases x with
  | arbiter => exact testList (h.modArb _)
  | seq b => exact (h.stopBoom b).testList
  | indexer => exact h.stopIndexer.testList

theorem assertStop (h : s0.Inner s) : s0.Inner s.assertStop := by
  have hd : s0.Inner (((s.modDiu fun d => { d with estop := true }).setTram false).setIndexJog 0) :=
    h.same rfl rfl rfl rfl
  exact hd.inOrder _ _ fun _ ht x => ht.takeStop x

theorem arriveTested (h : s0.Inner s) (c : Cause) (b : Boom) : s0.Inner (s.arriveTested c b) :=
  (h.arrive b c).testList

theorem arriveAll (h : s0.Inner s) (c : Cause) : s0.Inner (s.arriveAll c) :=
  h.inOrder _ _ fun _ ht b => ht.arriveTested c b

theorem takeSilence (h : s0.Inner s) (x : SilencePlace) : s0.Inner (s.takeSilence x) := by
  cases x with
  | boom b => exact h.arriveTested _ b
  | jogs => exact h.zeroJogs.testList
  | tram => exact h.same rfl rfl rfl rfl

/-! ### Inputs, samples and timers -/

theorem flushReturned (h : s0.Inner s) (b : Boom) : s0.Inner (s.flushReturned b) := by
  unfold State.flushReturned
  dsimp only
  split
  · exact (h.touchSeq b).notePhase b
  · exact h

theorem takeInput (h : s0.Inner s) (b : Boom) (k : Nat) : s0.Inner (State.takeInput b s k) := by
  unfold State.takeInput
  split
  · exact h.feedRetracted b
  · exact h.jackAtRoof b
  · exact h.jackLowered b
  · exact h.boltPresent b
  · exact h.readySync
  · exact h.cartridgePassed b
  · exact h.flushReturned b
  · exact h

theorem takeInputs (h : s0.Inner s) (b : Boom) (ks : List Nat) : s0.Inner (s.takeInputs b ks) :=
  h.inOrder _ _ fun _ ht k => ht.takeInput b k

theorem takeGovReport (h : s0.Inner s) (b : Boom) (r : GovReport) : s0.Inner (s.takeGovReport b r) := by
  cases r with
  | none => exact h
  | contact => exact h.contactMade b
  | collarDrilled => exact h.enterDrilling b
  | endOfDrilling => exact h.endDrilling b

theorem drillSample (h : s0.Inner s) (b : Boom) (n : Nat) : s0.Inner (s.drillSample b n) := by
  unfold State.drillSample
  dsimp only
  split
  · exact (h.profSample b n).haltAtSample _ _
  · exact ((h.profSample b n).govSample b _ _).takeGovReport b _

theorem takeSetReport (h : s0.Inner s) (b : Boom) (r : SetReport) : s0.Inner (s.takeSetReport b r) := by
  cases r with
  | none => exact h
  | seated => exact h.enterMixWait b
  | blocked => exact h.halt _ _ _
  | verdict v => exact h.giveVerdict b v

theorem pushSample (h : s0.Inner s) (b : Boom) : s0.Inner (s.pushSample b).1 := by
  unfold State.pushSample
  dsimp only
  split <;> exact h.same rfl rfl rfl rfl

theorem torqueSample (h : s0.Inner s) (b : Boom) (n : Nat) : s0.Inner (s.torqueSample b n).1 := by
  unfold State.torqueSample
  dsimp only
  split <;> exact h.same rfl rfl rfl rfl

theorem workSample (h : s0.Inner s) (b : Boom) (n : Nat) : s0.Inner (s.workSample b n) := by
  unfold State.workSample
  split
  · exact h.drillSample b n
  · exact h.drillSample b n
  · exact (h.pushSample b).takeSetReport b _
  · exact (h.torqueSample b n).takeSetReport b _
  · exact h

theorem takeFrame (h : s0.Inner s) (b : Boom) (f : BitVec 80) : s0.Inner (s.takeFrame b f) := by
  have hr : ∀ t : State, s0.Inner t →
      s0.Inner (if (s.head.get b).losesScan f then t.report (.interlock (.scanLost b true))
        else if (s.head.get b).scanLost && !(t.head.get b).scanLost then t.report (.interlock (.scanLost b false))
        else t) := by
    intro t ht
    split
    · exact ht.report _
    · split
      · exact ht.report _
      · exact ht
  refine hr _ ?_
  split <;> exact h.same rfl rfl rfl rfl

theorem scanArrival (h : s0.Inner s) (b : Boom) (f : BitVec 80) : s0.Inner (s.scanArrival b f) := by
  have hi : ∀ (n : Nat) (ks : List Nat), s0.Inner ((((s.takeFrame b f).modRot b fun r =>
      { r with samplePulses := 0 }).workSample b n).takeInputs b ks) :=
    fun n ks => (((h.takeFrame b f).modRot b _).workSample b n).takeInputs b ks
  have hg : ∀ t : State, s0.Inner t →
      s0.Inner (if t.active b Input.guardClosed then t else t.arrive b .operator) := by
    intro t ht
    split
    · exact ht
    · exact ht.arrive _ _
  unfold State.scanArrival
  dsimp only
  split
  · exact (hg _ (hi _ _)).arrive _ _
  · exact hg _ (hi _ _)

theorem takeOverflow (h : s0.Inner s) (b : Boom) : s0.Inner (s.takeOverflow b) := by
  unfold State.takeOverflow
  dsimp only
  split
  · split
    · exact h.modSett _ _
    · exact h
  · split
    · exact h.giveVerdict _ _
    · exact h
  · split
    · split
      · exact h.halt _ _ _
      · exact h.startBackoff b
    · exact h

theorem tickOverflow (h : s0.Inner s) (b : Boom) : s0.Inner (s.tickOverflow b) := by
  unfold State.tickOverflow
  split
  · exact ((h.modRot b _).takeOverflow b).finishFrom _ _ _
  · exact h

theorem timerOut (h : s0.Inner s) (b : Boom) (i : Nat) : s0.Inner (s.timerOut b i) := by
  unfold State.timerOut
  exact h.touchSeq b

theorem gelExpired (h : s0.Inner s) (b : Boom) : s0.Inner (s.gelExpired b) := by
  unfold State.gelExpired
  dsimp only
  split
  · exact ((h.modSett _ _).writeElapsed b _).enterTorquing b
  · exact ((h.modSett _ _).writeElapsed b _).touchSeq b

theorem readyExpired (h : s0.Inner s) : s0.Inner s.readyExpired := (h.modIdx _).endBurst _
theorem passExpired (h : s0.Inner s) : s0.Inner s.passExpired := (h.modIdx _).passFailed
theorem stepExpired (h : s0.Inner s) : s0.Inner s.stepExpired := (h.modIdx _).idxFault _

end State.Inner

end Sys2Proof.Machine

/-! What every step keeps: the bounds of the Link Port's queues (R204, R206), the settings and the duties of the
channels (R160, R162), the order of the parameters (R210, R211), the records and their numbers (R191) and the return
phases (R1). One relation says it of each operation, command and step. -/

namespace Sys2Proof.Machine

/-! The proofs are elaborated one after another: side by side, so many ask for more threads than the memory holds. -/
set_option Elab.async false

/-! ### The relation -/

/-- The Driver has its twenty channels and sixteen routes, and every channel has settings in their ranges. -/
def Valve.SettingsGood (v : Valve) : Prop :=
  v.channels.length = 20 ∧ v.routes.length = 16 ∧ ∀ c ∈ v.channels, c.settingsGood

/-- `t` meets the invariants that `s` meets, but for what the duties' computation at an event's end gives. -/
structure State.Prep (s t : State) : Prop where
  queues   : s.QueuesBounded → t.QueuesBounded
  settings : s.valve.SettingsGood → t.valve.SettingsGood
  params   : ParamsOrdered s.params → ParamsOrdered t.params
  records  : s.RecordsBounded ∧ s.NumbersDistinct → t.RecordsBounded ∧ t.NumbersDistinct
  pauses   : s.PausesMarked → t.PausesMarked

/-- `t` meets the invariants of every step that `s` meets. -/
structure State.Safe (s t : State) : Prop extends s.Prep t where
  stop   : s.StopHeld → t.StopHeld
  duties : s.DutiesGood → t.DutiesGood

theorem State.DutiesGood.settings {s : State} (h : s.DutiesGood) : s.valve.SettingsGood :=
  ⟨h.1, h.2.1, fun c hc => (h.2.2 c hc).1⟩

/-- The settings of a channel are among what its duty and its driving function leave. -/
theorem Channel.settingsGood_fixed (c : Channel) : c.fixed.settingsGood ↔ c.settingsGood := Iff.rfl

theorem forall_settingsGood_fixed (l : List Channel) :
    (∀ c ∈ l, c.settingsGood) ↔ ∀ c ∈ l.map Channel.fixed, c.settingsGood := by
  simp [Channel.settingsGood_fixed]

theorem Store.held_eq_length (st : Store) : st.held = st.numbers.length := by
  obtain ⟨⟨x, y⟩, q, n⟩ := st
  cases x <;> cases y <;> simp [Store.held, Store.numbers]

namespace State.Prep
variable {s t u : State}

theorem refl (s : State) : s.Prep s := ⟨id, id, id, id, id⟩

theorem trans (h : s.Prep t) (k : t.Prep u) : s.Prep u :=
  ⟨k.queues ∘ h.queues, k.settings ∘ h.settings, k.params ∘ h.params, k.records ∘ h.records, k.pauses ∘ h.pauses⟩

/-- What leaves the line, the Driver, the parameters, the Store, the Bit Table and the Sequencers keeps all. -/
theorem same (hl : t.link = s.link) (hv : t.valve = s.valve) (hp : t.params = s.params) (hst : t.store = s.store)
    (hb : t.bits = s.bits) (hq : t.seq = s.seq) : s.Prep t := by
  refine ⟨?_, ?_, ?_, ?_, ?_⟩ <;>
    simp [State.QueuesBounded, State.RecordsBounded, State.NumbersDistinct, State.PausesMarked, hl, hv, hp, hst, hb,
      hq]

/-- An operation that keeps the outer view and the inner one keeps all. -/
theorem of_views (ho : t.outer = s.outer) (hi : s.Inner t) : s.Prep t where
  queues h := by
    have hin : t.link.line.inbound = s.link.line.inbound := congrArg Link.inbound (outer_line ho)
    have hin : t.link.inbound = s.link.inbound := hin
    exact ⟨hin ▸ h.1, replies_of_outer ho ▸ h.2.1, (outer_room ho).mpr h.2.2⟩
  settings h := by
    have hc := outer_channels ho
    refine ⟨?_, hi.routes h.2.1, ?_⟩
    · have hlen := congrArg List.length hc
      simp only [List.length_map] at hlen
      exact hlen.trans h.1
    · rw [forall_settingsGood_fixed, hc, ← forall_settingsGood_fixed]
      exact h.2.2
  params h := outer_params ho ▸ h
  records := by
    rintro ⟨⟨hheld, hbits⟩, hnodup, hrange, hcounter⟩
    refine ⟨⟨outer_held ho ▸ hheld, hi.bits.trans hbits⟩, hi.numbers.nodup_iff.mpr hnodup, fun n hn => ?_, ?_⟩
    · exact hrange n (hi.numbers.mem_iff.mp hn)
    · exact outer_counter ho ▸ hcounter
  pauses := hi.pauses

/-- A change of the line alone that keeps the queues within their places. -/
theorem modLink (s : State) {f : Link → Link}
    (hf : s.QueuesBounded → (s.modLink f).QueuesBounded) : s.Prep (s.modLink f) := ⟨hf, id, id, id, id⟩

/-- A change of the Driver alone that keeps the channels' settings in their ranges. -/
theorem modValve (s : State) {f : Valve → Valve}
    (hf : s.valve.SettingsGood → (f s.valve).SettingsGood) : s.Prep (s.modValve f) := ⟨id, hf, id, id, id⟩

theorem foldl {α : Type} (h : s.Prep t) (l : List α) {f : State → α → State}
    (hf : ∀ v, ∀ x ∈ l, State.Prep v (f v x)) : s.Prep (l.foldl f t) :=
  List.foldlRecOn (motive := fun v : State => s.Prep v) l _ h fun v hv x hx => hv.trans (hf v x hx)

end State.Prep

namespace State.Safe
variable {s t u : State}

theorem refl (s : State) : s.Safe s := ⟨State.Prep.refl s, id, id⟩

theorem trans (h : s.Safe t) (k : t.Safe u) : s.Safe u :=
  ⟨h.toPrep.trans k.toPrep, k.stop ∘ h.stop, k.duties ∘ h.duties⟩

/-- What leaves the Driver and the E-stop state keeps the duties. -/
theorem of_prep (h : s.Prep t) (hv : t.valve = s.valve) (he : t.diu.estop = s.diu.estop) : s.Safe t :=
  ⟨h, by simp [State.StopHeld, hv, he], by simp [State.DutiesGood, hv]⟩

theorem foldl {α : Type} (h : s.Safe t) (l : List α) {f : State → α → State}
    (hf : ∀ v, ∀ x ∈ l, State.Safe v (f v x)) : s.Safe (l.foldl f t) :=
  List.foldlRecOn (motive := fun v : State => s.Safe v) l _ h fun v hv x hx => hv.trans (hf v x hx)

end State.Safe

/-! ### The duties at the end of an event (R162) -/

/-- The duty of a grant lies between dmin and dmax (R162). -/
theorem dutyOf_good {c : Channel} (h : c.settingsGood) (g : Nat) :
    dutyOf c g = 0 ∨ (c.dmin ≤ dutyOf c g ∧ dutyOf c g ≤ c.dmax) := by
  obtain ⟨-, hdmax, -, -⟩ := h
  unfold dutyOf
  split
  · exact .inl rfl
  · right
    have hq : (c.dmax - c.dmin) * min g c.qmax / c.qmax ≤ c.dmax - c.dmin :=
      Nat.div_le_of_le_mul (Nat.mul_comm c.qmax _ ▸ Nat.mul_le_mul_left _ (Nat.min_le_right ..))
    generalize (c.dmax - c.dmin) * min g c.qmax / c.qmax = n at hq
    omega

theorem State.channelDuty_good (s : State) {c : Channel} (h : c.settingsGood) :
    s.channelDuty c = 0 ∨ (c.dmin ≤ s.channelDuty c ∧ s.channelDuty c ≤ c.dmax) := by
  have hon : c.dmin ≤ c.dmax := Nat.le_of_succ_le h.2.1
  unfold State.channelDuty
  repeat' split
  all_goals first | exact .inl rfl | exact .inr ⟨hon, Nat.le_refl _⟩ | exact dutyOf_good h _

/-- Duties that are computed are 0 while E_STOP is asserted (R162). -/
theorem State.computeDuties_stopHeld (s : State) : s.computeDuties.StopHeld := by
  intro he c hc
  simp only [State.computeDuties, State.modValve, List.mem_map] at hc he
  obtain ⟨x, -, rfl⟩ := hc
  simp [State.channelDuty, he]

theorem State.computeDuties_good {s : State} (h : s.valve.SettingsGood) : s.computeDuties.DutiesGood := by
  obtain ⟨h20, h16, hset⟩ := h
  refine ⟨(List.length_map _).trans h20, h16, fun c hc => ?_⟩
  obtain ⟨x, hx, rfl⟩ := List.mem_map.mp hc
  exact ⟨hset x hx, s.channelDuty_good (hset x hx)⟩

/-- The end of an event keeps every invariant, whatever the event left of the duties. -/
theorem State.Prep.finishFrom {s x : State} (h : s.Prep x) (on : List Bool) (force q : Bool) :
    s.Safe (x.finishFrom on force q) := by
  have hx : x.Prep (x.finishFrom on force q) :=
    .of_views (State.outer_finishFrom on force q x) ((State.Inner.refl x).finishFrom on force q)
  refine ⟨h.trans hx, fun _ => State.computeDuties_stopHeld _, fun hd => ?_⟩
  have hset := (h.trans hx).settings hd.settings
  obtain ⟨y, hy⟩ : ∃ y : State, x.finishFrom on force q = y.computeDuties := ⟨_, rfl⟩
  rw [hy] at hset ⊢
  refine State.computeDuties_good ⟨(List.length_map _).symm.trans hset.1, hset.2.1, fun c hc => ?_⟩
  exact hset.2.2 { c with duty := y.channelDuty c } (List.mem_map.mpr ⟨c, hc, rfl⟩)

theorem State.Prep.finish {s x : State} (h : s.Prep x) (s0 : State) : s.Safe (s0.finish x) := h.finishFrom _ _ _

theorem State.Prep.finishComputed {s x : State} (h : s.Prep x) (s0 : State) : s.Safe (s0.finishComputed x) :=
  h.finishFrom _ _ _

/-- An event of operations that keep both views, with its end. -/
theorem State.Safe.event {s x : State} (ho : x.outer = s.outer) (hi : s.Inner x) (s0 : State) : s.Safe (s0.finish x) :=
  (State.Prep.of_views ho hi).finish s0

/-! ### The line -/

theorem State.Prep.report (s : State) (r : Report) : s.Prep (s.report r) :=
  .of_views (State.outer_report s r) ((State.Inner.refl s).report r)

theorem State.Safe.modLink (s : State) {f : Link → Link}
    (hf : s.QueuesBounded → (s.modLink f).QueuesBounded) : s.Safe (s.modLink f) :=
  .of_prep (.modLink s hf) rfl rfl

theorem State.Safe.report (s : State) (r : Report) : s.Safe (s.report r) := .of_prep (.report s r) rfl rfl

/-- A frame that joins the inbound queue finds a place, or is dropped (R204). -/
theorem State.Safe.join (s : State) (f : Frame) : s.Safe (s.modLink fun l => l.join f) := by
  refine .modLink s fun ⟨hin, hre, hrp⟩ => ?_
  by_cases hroom : s.link.inbound.length < inboundPlaces
  · have hlen : (s.link.inbound ++ [f]).length ≤ 4 := by
      rw [List.length_append]
      exact Nat.succ_le_of_lt hroom
    simp only [State.QueuesBounded, State.modLink, Link.join, if_pos hroom]
    exact ⟨hlen, hre, hrp⟩
  · simp only [State.QueuesBounded, State.modLink, Link.join, if_neg hroom]
    exact ⟨hin, hre, hrp⟩

theorem State.Safe.inbound_tail {s : State} {f : Frame} {rest : List Frame} (h : s.link.inbound = f :: rest) :
    s.Safe (s.modLink fun l => { l with inbound := rest }) := by
  refine .modLink s fun ⟨hin, hre, hrp⟩ => ⟨?_, hre, hrp⟩
  rw [h] at hin
  exact Nat.le_of_succ_le hin

/-- The transmitter frees places and takes none (R206). -/
theorem State.Safe.transmit (s : State) : s.Safe (s.modLink Link.transmit) := by
  refine .modLink s fun ⟨hin, hre, hrp⟩ => ?_
  simp only [State.QueuesBounded, State.modLink, Link.transmit]
  split
  · next r rest hr =>
    rw [hr] at hre
    refine ⟨hin, ?_, hrp⟩
    dsimp only
    split
    · exact Nat.le_of_succ_le hre
    · exact hre
  · split
    · next hs =>
      rw [hs] at hrp
      exact ⟨hin, hre, Nat.le_of_succ_le hrp⟩
    · exact ⟨hin, hre, hrp⟩

/-! ### Answers and the taking of a request (R205) -/

/-- The replies that wait and the bytes the receiver holds, which no owner of a request moves. -/
def State.exchange (s : State) : List Reply × List Byte := (s.link.replies, s.link.rx)

theorem exchange_of_outer {s t : State} (h : t.outer = s.outer) : t.exchange = s.exchange := by
  have hline : (t.link.line.replies, t.link.line.rx) = (s.link.line.replies, s.link.line.rx) := by rw [outer_line h]
  exact hline

/-- An answer that keeps every invariant, queues no reply of its own and leaves the receiver. -/
def State.AnswersSafely (s : State) (a : Answer) : Prop := s.Safe a.1 ∧ a.1.exchange = s.exchange

theorem State.AnswersSafely.unchanged (s : State) (r : Result) (c : List Byte) : s.AnswersSafely (s, r, c) :=
  ⟨.refl s, rfl⟩

/-- An answer at the end of an event of operations that keep the outer view. -/
theorem State.AnswersSafely.event {s x : State} (ho : x.outer = s.outer) (hi : s.Inner x) (r : Result)
    (c : List Byte) : s.AnswersSafely (s.done x r c) :=
  ⟨.event ho hi s, exchange_of_outer ((State.outer_finish s x).trans ho)⟩

/-- A request that is taken finds a reply place free, and one that is not joins the inbound queue (R205, R206). -/
theorem State.Safe.takeRequest (s : State) (kind tag : Byte) (body : List Byte) (len : List Byte → Bool)
    {f : State → Answer} (hf : s.AnswersSafely (f s)) : s.Safe (s.takeRequest kind tag body len f) := by
  have hreply : s.takes = true → ∀ (a : Answer), s.AnswersSafely a → s.Safe (a.1.reply kind tag a.2.1 a.2.2) := by
    intro ht a ha
    obtain ⟨hsafe, hexch⟩ := ha
    have hre : a.1.link.replies = s.link.replies := congrArg Prod.fst hexch
    have hroom : s.link.replies.length < 4 := by
      simp only [State.takes, Bool.and_eq_true, decide_eq_true_eq] at ht
      exact ht.1
    refine hsafe.trans (.modLink _ fun ⟨hin, _, hrp⟩ => ⟨hin, ?_, hrp⟩)
    simp only [State.modLink, List.length_append, List.length_singleton, hre]
    omega
  unfold State.takeRequest
  split
  · exact .refl s
  · split
    · exact .join s _
    · next ht =>
      have ht : s.takes = true := by simpa using ht
      split
      · exact hreply ht _ (.unchanged s .badLength [])
      · exact hreply ht _ hf

end Sys2Proof.Machine

/-! Hole numbers (R191) and the order of the parameters (R210, R211). -/

namespace Sys2Proof.Machine

/-! The proofs are elaborated one after another: side by side, so many ask for more threads than the memory holds. -/
set_option Elab.async false

/-! ### The number of a new hole (R191) -/

/-- The `j`-th number from `c` on: after 65,535 comes 1. -/
def numberFrom (c j : Nat) : Nat := (c - 1 + j) % 65535 + 1

theorem nextNumber_numberFrom (c j : Nat) : nextNumber (numberFrom c j) = numberFrom c (j + 1) := by
  unfold nextNumber numberFrom
  split <;> omega

theorem numberFrom_zero {c : Nat} (h1 : 1 ≤ c) (h2 : c ≤ 65535) : numberFrom c 0 = c := by
  unfold numberFrom
  omega

theorem numberFrom_range (c j : Nat) : 1 ≤ numberFrom c j ∧ numberFrom c j ≤ 65535 := by
  unfold numberFrom
  omega

/-- The scan stops at the first number that is not held, and passes over held numbers alone. -/
theorem freeNumber_numberFrom (used : List Nat) (c fuel j : Nat) :
    ∃ k ≤ fuel, freeNumber used fuel (numberFrom c j) = numberFrom c (j + k) ∧
      (∀ i < k, numberFrom c (j + i) ∈ used) ∧ (k < fuel → numberFrom c (j + k) ∉ used) := by
  induction fuel generalizing j with
  | zero => exact ⟨0, Nat.le_refl 0, rfl, by simp, by simp⟩
  | succ n ih =>
    by_cases hu : numberFrom c j ∈ used
    · obtain ⟨k, hk, hf, hin, hout⟩ := ih (j + 1)
      refine ⟨k + 1, by omega, ?_, fun i hi => ?_, fun hlt => ?_⟩
      · simp only [freeNumber, List.contains_iff_mem.mpr hu, if_true, nextNumber_numberFrom, hf]
        congr 1
        omega
      · cases i with
        | zero => exact hu
        | succ i =>
          have := hin i (by omega)
          rwa [show j + 1 + i = j + (i + 1) by omega] at this
      · have := hout (by omega)
        rwa [show j + 1 + k = j + (k + 1) by omega] at this
    · exact ⟨0, by omega, by simp [freeNumber, hu], by simp, fun _ => hu⟩

/-- A list that holds the first `n` values of a sequence without repetition has `n` places at least. -/
theorem length_of_distinct_mem (f : Nat → Nat) (n : Nat) (used : List Nat) (hin : ∀ i < n, f i ∈ used)
    (hinj : ∀ i < n, ∀ j < n, f i = f j → i = j) : n ≤ used.length := by
  induction n generalizing used with
  | zero => exact Nat.zero_le _
  | succ n ih =>
    have hlast : f n ∈ used := hin n (Nat.lt_succ_self n)
    have hrest := ih (used.erase (f n))
      (fun i hi => (List.mem_erase_of_ne fun he => by
        have := hinj i (by omega) n (by omega) he
        omega).2 (hin i (by omega)))
      (fun i hi j hj => hinj i (by omega) j (by omega))
    rw [List.length_erase_of_mem hlast] at hrest
    have hpos := List.length_pos_of_mem hlast
    omega

/-- Eight numbers in a row are distinct, so at most seven held ones cannot be all of them. -/
theorem numberFrom_not_all_held {used : List Nat} (h : used.length ≤ 7) (c : Nat) :
    ¬ ∀ i < 8, numberFrom c i ∈ used := by
  intro hall
  have hlen : 8 ≤ used.length := length_of_distinct_mem (numberFrom c) 8 used hall fun i hi j hj he => by
    unfold numberFrom at he
    omega
  omega

theorem State.nextHole_spec {s : State} (hlen : s.store.numbers.length ≤ 7) (h1 : 1 ≤ s.store.counter)
    (h2 : s.store.counter ≤ 65535) :
    ∃ k ≤ 7, s.nextHole = numberFrom s.store.counter k ∧ s.nextHole ∉ s.store.numbers ∧
      ∀ j < k, numberFrom s.store.counter j ∈ s.store.numbers := by
  obtain ⟨k, hk, hf, hin, hout⟩ := freeNumber_numberFrom s.store.numbers s.store.counter 8 0
  simp only [Nat.zero_add, numberFrom_zero h1 h2] at hf hin hout
  have hk8 : k < 8 := by
    refine Nat.lt_of_le_of_ne hk fun he => ?_
    exact numberFrom_not_all_held hlen s.store.counter (he ▸ hin)
  have hn : s.nextHole = numberFrom s.store.counter k := hf
  exact ⟨k, by omega, hn, hn ▸ hout hk8, hin⟩

/-- Settles O50: the scan of eight numbers ends at a free one, since at most seven are held. -/
theorem holeNumberIsFree : Obligations.HoleNumberIsFree := by
  intro s hlen h1 h2
  obtain ⟨k, hk, hn, hfree, hheld⟩ := State.nextHole_spec hlen h1 h2
  have hr := numberFrom_range s.store.counter k
  exact ⟨hfree, hn ▸ hr.1, hn ▸ hr.2, k, hk, hn, hheld⟩

/-! ### The window of a parameter (R211) -/

theorem paramRow?_mem {i : Nat} {r : ParamRow} (h : paramRow? i = some r) : r ∈ paramRows ∧ r.index = i := by
  refine ⟨List.mem_of_find?_eq_some h, ?_⟩
  simpa using List.find?_some h

/-- A row is the one its index finds. -/
theorem paramRow?_index {r : ParamRow} (h : r ∈ paramRows) : paramRow? r.index = some r := by
  have hall : ∀ r ∈ paramRows, paramRow? r.index = some r := by decide
  exact hall r h

theorem paramRows_index_lt {r : ParamRow} (h : r ∈ paramRows) : r.index < 73 := by
  have hall : ∀ r ∈ paramRows, r.index < 73 := by decide
  exact hall r h

theorem paramRows_lo_le_hi {r : ParamRow} (h : r ∈ paramRows) : r.lo ≤ r.hi := by
  have hall : ∀ r ∈ paramRows, r.lo ≤ r.hi := by decide
  exact hall r h

/-- The range of a row, of any row with an index that the table has. -/
theorem paramRow?_eq {i : Nat} {r x : ParamRow} (h : paramRow? i = some r) (hx : paramRow? i = some x) : r = x :=
  Option.some.inj (h.symm.trans hx)

/-- Ordered parameters leave every parameter a window that begins within its range (R211). -/
theorem State.window_within {s : State} (h : ParamsOrdered s.params) {i : Nat} {r : ParamRow}
    (hr : paramRow? i = some r) :
    r.lo ≤ (s.window r).1 ∧ (s.window r).1 ≤ (s.window r).2 ∧ (s.window r).1 ≤ r.hi := by
  obtain ⟨hlen, hrange, h12, h23, h34, hst, hang⟩ := h
  obtain ⟨hmem, hi⟩ := paramRow?_mem hr
  have hlive : ∀ x ∈ paramRows, x.lo ≤ s.live x.index ∧ s.live x.index ≤ x.hi := hrange
  have hrow : ∀ x ∈ paramRows, r.index = x.index → r = x := fun x hx he =>
    paramRow?_eq (paramRow?_index hmem) (he ▸ paramRow?_index hx)
  have ht1 : 1 ≤ s.params.getD P.t1 0 := (hlive ⟨2, 1, 65000, 40, true⟩ (by decide)).1
  have ht4 : s.params.getD P.t4 0 ≤ 65000 := (hlive ⟨5, 1, 65000, 900, true⟩ (by decide)).2
  have hsnug : 10 ≤ s.params.getD P.snugTorque 0 := (hlive ⟨59, 10, 400, 60, true⟩ (by decide)).1
  have hsnug' : s.params.getD P.snugTorque 0 ≤ 400 := (hlive ⟨59, 10, 400, 60, true⟩ (by decide)).2
  have htgt : 50 ≤ s.params.getD P.torqueTarget 0 := (hlive ⟨58, 50, 800, 270, true⟩ (by decide)).1
  have htgt' : s.params.getD P.torqueTarget 0 ≤ 800 := (hlive ⟨58, 50, 800, 270, true⟩ (by decide)).2
  have hmax : s.params.getD P.angleMax 0 ≤ 600 := (hlive ⟨61, 1, 600, 120, true⟩ (by decide)).2
  unfold State.window
  simp only [State.live]
  split
  · next he => obtain rfl := hrow ⟨2, 1, 65000, 40, true⟩ (by decide) he; dsimp only; omega
  split
  · next he => obtain rfl := hrow ⟨3, 1, 65000, 150, true⟩ (by decide) he; dsimp only; omega
  split
  · next he => obtain rfl := hrow ⟨4, 1, 65000, 400, true⟩ (by decide) he; dsimp only; omega
  split
  · next he => obtain rfl := hrow ⟨5, 1, 65000, 900, true⟩ (by decide) he; dsimp only; omega
  split
  · next he => obtain rfl := hrow ⟨59, 10, 400, 60, true⟩ (by decide) he; dsimp only; omega
  split
  · next he => obtain rfl := hrow ⟨58, 50, 800, 270, true⟩ (by decide) he; dsimp only; omega
  split
  · next he => obtain rfl := hrow ⟨60, 0, 600, 5, true⟩ (by decide) he; dsimp only; omega
  split
  · next he => obtain rfl := hrow ⟨61, 1, 600, 120, true⟩ (by decide) he; dsimp only; omega
  exact ⟨Nat.le_refl _, paramRows_lo_le_hi hmem, paramRows_lo_le_hi hmem⟩

theorem clampTo_mem {lo hi : Nat} (h : lo ≤ hi) (v : Nat) : lo ≤ clampTo lo hi v ∧ clampTo lo hi v ≤ hi := by
  unfold clampTo
  omega

/-- The stored value lies in the parameter's range and in its window (R210, R211). -/
theorem State.storedValue_mem {s : State} (h : ParamsOrdered s.params) {i : Nat} {r : ParamRow}
    (hr : paramRow? i = some r) (v : Nat) :
    (r.lo ≤ s.storedValue r v ∧ s.storedValue r v ≤ r.hi) ∧
      (s.window r).1 ≤ s.storedValue r v ∧ s.storedValue r v ≤ (s.window r).2 := by
  obtain ⟨hlo, hle, hhi⟩ := State.window_within h hr
  have hrange := clampTo_mem (paramRows_lo_le_hi (paramRow?_mem hr).1) v
  have hmem := clampTo_mem hle (clampTo r.lo r.hi v)
  refine ⟨⟨Nat.le_trans hlo hmem.1, ?_⟩, hmem⟩
  simp only [State.storedValue, clampTo] at hrange ⊢
  omega

theorem getD_set (l : List Nat) {i : Nat} (h : i < l.length) (w k : Nat) :
    (l.set i w).getD k 0 = if k = i then w else l.getD k 0 := by
  rw [List.getD_eq_getElem?_getD, List.getElem?_set, List.getD_eq_getElem?_getD]
  by_cases hk : i = k
  · subst hk; simp [h]
  · simp [hk, Ne.symm hk]

/-- The windows keep the three groups in their order (R211). -/
theorem State.storeParam_ordered {s : State} (h : ParamsOrdered s.params) {i : Nat} {r : ParamRow}
    (hr : paramRow? i = some r) (v : Nat) : ParamsOrdered (s.storeParam i (s.storedValue r v)).params := by
  obtain ⟨hin, hw1, hw2⟩ := State.storedValue_mem h hr v
  obtain ⟨hmem, rfl⟩ := paramRow?_mem hr
  generalize s.storedValue r v = w at hin hw1 hw2
  obtain ⟨hlen, hrange, h12, h23, h34, hst, hang⟩ := h
  have hget := getD_set s.params (i := r.index) (by rw [hlen]; exact paramRows_index_lt hmem) w
  simp only [State.storeParam, ParamsOrdered, hget]
  refine ⟨by simpa using hlen, fun x hx => ?_, ?_⟩
  · split
    · next he =>
      obtain rfl := paramRow?_eq (paramRow?_index hx) (he ▸ hr)
      exact hin
    · exact hrange x hx
  · unfold State.window at hw1 hw2
    simp only [State.live] at hw1 hw2
    clear hget hr hrange hin hlen hmem
    generalize r.index = j at *
    generalize s.params.getD P.t1 0 = t1 at *
    generalize s.params.getD P.t2 0 = t2 at *
    generalize s.params.getD P.t3 0 = t3 at *
    generalize s.params.getD P.t4 0 = t4 at *
    generalize s.params.getD P.snugTorque 0 = snug at *
    generalize s.params.getD P.torqueTarget 0 = target at *
    generalize s.params.getD P.angleMin 0 = least at *
    generalize s.params.getD P.angleMax 0 = most at *
    by_cases hgroup : j ∈ [P.t1, P.t2, P.t3, P.t4, P.snugTorque, P.torqueTarget, P.angleMin, P.angleMax]
    · simp only [List.mem_cons, List.not_mem_nil, or_false] at hgroup
      rcases hgroup with rfl | rfl | rfl | rfl | rfl | rfl | rfl | rfl <;>
        simp [P.t1, P.t2, P.t3, P.t4, P.snugTorque, P.torqueTarget, P.angleMin, P.angleMax] at hw1 hw2 ⊢ <;> omega
    · simp only [List.mem_cons, List.not_mem_nil, or_false, not_or] at hgroup
      obtain ⟨e1, e2, e3, e4, e5, e6, e7, e8⟩ := hgroup
      simp only [Ne.symm e1, Ne.symm e2, Ne.symm e3, Ne.symm e4, Ne.symm e5, Ne.symm e6, Ne.symm e7, Ne.symm e8,
        if_false]
      exact ⟨h12, h23, h34, hst, hang⟩

end Sys2Proof.Machine

/-! Every step keeps the invariants: the answers of the requests, the commands, and the passing of time. -/

namespace Sys2Proof.Machine

/-! The proofs are elaborated one after another: side by side, so many ask for more threads than the memory holds. -/
set_option Elab.async false

/-- A change of the line that leaves its queues. -/
theorem State.Safe.line (s : State) {f : Link → Link} (hf : ∀ l, (f l).inbound = l.inbound ∧
    (f l).replies = l.replies ∧ (f l).reports = l.reports := by exact fun _ => ⟨rfl, rfl, rfl⟩) :
    s.Safe (s.modLink f) := by
  obtain ⟨hin, hre, hrp⟩ := hf s.link
  refine .modLink s fun h => ?_
  simpa [State.QueuesBounded, hin, hre, hrp] using h

/-! ### SET_PARAM (R210, R211) -/

theorem State.Prep.storeParam (s : State) {i : Nat} {r : ParamRow} (hr : paramRow? i = some r) (v : Nat) :
    s.Prep (s.storeParam i (s.storedValue r v)) := ⟨id, id, fun h => State.storeParam_ordered h hr v, id, id⟩

/-- The expiry of the presence timer leaves the queues of the line but for the report of SILENCE (R209). -/
theorem State.Prep.presenceExpired (s : State) : s.Prep s.presenceExpired := by
  have hset : s.Prep (s.modLink fun l =>
      { l with presence := l.presence.expire (s.live P.presenceTimeout), silence := true }) := .modLink s fun h => h
  have hplaces : ∀ t : State, t.Prep (t.inOrder (!t.arb.waiting.isEmpty)
      (t.booms.map SilencePlace.boom ++ [.jogs, .tram]) State.takeSilence) := fun t =>
    .of_views (State.outer_inOrder _ _ _ _ State.outer_takeSilence)
      ((State.Inner.refl t).inOrder _ _ fun _ ht x => ht.takeSilence x)
  exact (hset.trans (.report _ _)).trans (hplaces _)

theorem State.presenceExpired_exchange (s : State) : s.presenceExpired.exchange = s.exchange := by
  have hp : ∀ t : State, (t.inOrder (!t.arb.waiting.isEmpty)
      (t.booms.map SilencePlace.boom ++ [.jogs, .tram]) State.takeSilence).exchange = t.exchange :=
    fun t => exchange_of_outer (State.outer_inOrder t _ _ _ State.outer_takeSilence)
  unfold State.presenceExpired
  dsimp only
  rw [hp, exchange_of_outer (State.outer_report _ _)]
  rfl

theorem State.outer_maskEvents (s0 s : State) (b : Boom) : (s0.maskEvents s b).outer = s.outer := by
  unfold State.maskEvents
  split <;> simp

theorem State.Inner.maskEvents {s0 s : State} (h : s0.Inner s) (u : State) (b : Boom) :
    s0.Inner (u.maskEvents s b) := by
  unfold State.maskEvents
  split
  · exact h.takeInputs b _
  · exact h

/-- What the owner of a parameter does at its write keeps both views, but for the presence timer's expiry. -/
theorem State.paramWritten_cases (s0 s : State) (i : Nat) :
    s0.paramWritten s i = s.presenceExpired ∨
      (s0.paramWritten s i).outer = s.outer ∧ s.Inner (s0.paramWritten s i) := by
  have h := State.Inner.refl s
  have hworn : ((List.range 8).foldl State.evalWorn s).outer = s.outer :=
    foldl_keeps State.outer _ State.outer_evalWorn _ _
  unfold State.paramWritten
  split
  · split
    · exact .inl rfl
    · exact .inr ⟨rfl, h⟩
  split
  · exact .inr ⟨hworn, h.foldl _ fun _ ht p => ht.evalWorn p⟩
  split
  · exact .inr ⟨State.outer_maskEvents .., h.maskEvents ..⟩
  split
  · exact .inr ⟨State.outer_maskEvents .., h.maskEvents ..⟩
  split
  · exact .inr ⟨rfl, h.modIdx _⟩
  split
  · split
    · exact .inr ⟨State.outer_readyExpired s, h.readyExpired⟩
    · exact .inr ⟨rfl, h⟩
  split
  · split
    · exact .inr ⟨State.outer_passExpired s, h.passExpired⟩
    · exact .inr ⟨rfl, h⟩
  split
  · split
    · exact .inr ⟨State.outer_stepExpired s, h.stepExpired⟩
    · exact .inr ⟨rfl, h⟩
  exact .inr ⟨rfl, h⟩

theorem State.answerSetParam_safe (s : State) (body : List Byte) : s.AnswersSafely (s.answerSetParam body) := by
  unfold State.answerSetParam
  dsimp only
  split
  · exact .unchanged s _ _
  · next r hr =>
    have hst := State.Prep.storeParam s hr (numAt body 1 4)
    have hw := State.paramWritten_cases s (s.storeParam (byteAt body 0) (s.storedValue r (numAt body 1 4)))
      (byteAt body 0)
    refine ⟨?_, (exchange_of_outer (State.outer_finishFrom ..)).trans ?_⟩
    · rcases hw with hw | ⟨ho, hi⟩
      · rw [hw]
        exact (hst.trans (.presenceExpired _)).finishFrom _ _ _
      · exact (hst.trans (.of_views ho hi)).finishFrom _ _ _
    · rcases hw with hw | ⟨ho, -⟩
      · rw [hw]
        exact State.presenceExpired_exchange _
      · exact (exchange_of_outer ho).trans rfl

/-! ### START_HOLE (R4, R191) -/

theorem nextNumber_range {n : Nat} (h : n ≤ 65535) : 1 ≤ nextNumber n ∧ nextNumber n ≤ 65535 := by
  unfold nextNumber
  split <;> omega

/-- The numbers held with an open slot replaced are the new number and some of those held before. -/
theorem Store.numbers_open (st : Store) (b : Boom) (r : HoleRecord) :
    ∃ l : List Nat, l.Sublist st.numbers ∧
      (Store.numbers { st with opened := st.opened.set b (some r) }).Perm (r.number :: l) := by
  obtain ⟨⟨x, y⟩, q, n⟩ := st
  cases b with
  | A =>
    refine ⟨q.map HoleRecord.number ++ y.toList.map HoleRecord.number, ?_, ?_⟩
    · simp [Store.numbers]
    · simp only [Store.numbers, PerBoom.set, Option.toList_some, List.map_cons, List.map_nil, List.append_assoc,
        List.singleton_append]
      exact List.perm_middle
  | B =>
    refine ⟨q.map HoleRecord.number ++ x.toList.map HoleRecord.number, ?_, ?_⟩
    · simp [Store.numbers]
    · simp only [Store.numbers, PerBoom.set, Option.toList_some, List.map_cons, List.map_nil]
      exact List.perm_append_comm

/-- A hole that is opened with at most seven held has a number none of them has (R191). -/
theorem State.Prep.openHole {s : State} (h : s.store.held < recordPlaces) (b : Boom) (spec : Spec) :
    s.Prep (s.openHole b spec) := by
  have hi : s.Inner (s.modSeq b fun q =>
      { q with hole := some s.nextHole, haltReason := none, closing := none, choices := .empty
               deferred := .empty, deferredAbort := false, abortPending := false, holdComplete := false }) :=
    (State.Inner.refl s).touchSeq b
  refine ⟨id, id, id, ?_, hi.pauses⟩
  rintro ⟨⟨-, hbits⟩, hnodup, hrange, hc1, hc2⟩
  rw [Store.held_eq_length] at h
  have h7 : s.store.numbers.length ≤ 7 := Nat.le_of_lt_succ h
  obtain ⟨k, -, hn, hfree, -⟩ := State.nextHole_spec h7 hc1 hc2
  have hnr : 1 ≤ s.nextHole ∧ s.nextHole ≤ 65535 := hn ▸ numberFrom_range _ _
  obtain ⟨l, hsub, hperm⟩ := s.store.numbers_open b
    (HoleRecord.fresh s.nextHole b ((s.fittedPos b).getD 0) spec (s.bands.get b) (holeCopy s.params))
  have hperm : (s.openHole b spec).store.numbers.Perm (s.nextHole :: l) := hperm
  refine ⟨⟨?_, hbits⟩, ?_, fun n hmem => ?_, nextNumber_range hnr.2⟩
  · rw [Store.held_eq_length, hperm.length_eq, List.length_cons]
    exact Nat.succ_le_of_lt (Nat.lt_of_le_of_lt (Nat.le_trans hsub.length_le h7) (by decide))
  · rw [hperm.nodup_iff, List.nodup_cons]
    exact ⟨fun hin => hfree (hsub.subset hin), hnodup.sublist hsub⟩
  · rcases List.mem_cons.mp (hperm.mem_iff.mp hmem) with rfl | hin
    · exact hnr
    · exact hrange n (hsub.subset hin)

theorem State.answerStartHole_safe (s : State) (body : List Byte) : s.AnswersSafely (s.answerStartHole body) := by
  unfold State.answerStartHole
  split
  · exact .unchanged s _ _
  · next b _ =>
    dsimp only
    split
    · exact .unchanged s _ _
    · next href =>
      have hheld : s.store.held < recordPlaces := by
        unfold State.startRefusal at href
        refine Classical.byContradiction fun hfull => ?_
        rw [if_pos (Nat.not_lt.mp hfull)] at href
        revert href
        repeat' split
        all_goals exact nofun
      have ho : ((s.openHole b (specAt body 1)).enterJackSet b).outer = (s.openHole b (specAt body 1)).outer := by
        simp
      refine ⟨?_, ?_⟩
      · exact ((State.Prep.openHole hheld b _).trans
          (.of_views ho ((State.Inner.refl _).enterJackSet b))).finish s
      · exact (exchange_of_outer ((State.outer_finish s _).trans ho)).trans rfl

/-! ### The other requests of the cycle -/

theorem State.answerDecide_safe (s : State) (body : List Byte) : s.AnswersSafely (s.answerDecide body) := by
  unfold State.answerDecide
  split
  · exact .unchanged s _ _
  · split
    · exact .unchanged s _ _
    · split
      · exact .unchanged s _ _
      · split
        · exact .unchanged s _ _
        · exact .event (by simp) ((State.Inner.refl s).decideTaken _ _) _ _

theorem State.answerPause_safe (s : State) (body : List Byte) : s.AnswersSafely (s.answerPause body) := by
  unfold State.answerPause
  split
  · exact .unchanged s _ _
  · dsimp only
    split
    · exact .event (by simp) ((State.Inner.refl s).arrive _ _) _ _
    · exact .unchanged s _ _

theorem State.answerResume_safe (s : State) (body : List Byte) : s.AnswersSafely (s.answerResume body) := by
  unfold State.answerResume
  split
  · exact .unchanged s _ _
  · split
    · exact .unchanged s _ _
    · split
      · exact .unchanged s _ _
      · exact .event (by simp) ((State.Inner.refl s).resumeBoom _) _ _

theorem State.outer_abortHole (s : State) (b : Boom) : (s.abortHole b).1.outer = s.outer := by
  unfold State.abortHole
  dsimp only
  repeat' split
  all_goals simp

theorem State.answerAbort_safe (s : State) (body : List Byte) : s.AnswersSafely (s.answerAbort body) := by
  unfold State.answerAbort
  split
  · exact .unchanged s _ _
  · dsimp only
    split
    · exact .event (State.outer_abortHole s _) ((State.Inner.refl s).abortHole _) _ _
    · exact .unchanged s _ _

theorem State.answerClearStop_safe (s : State) : s.AnswersSafely s.answerClearStop := by
  unfold State.answerClearStop
  split
  · exact .unchanged s _ _
  · split
    · exact .unchanged s _ _
    · exact .event (foldl_keeps State.outer _ State.outer_clearStopBoom _ _)
        ((State.Inner.refl s).foldl _ fun _ ht b => ht.clearStopBoom b) _ _

/-- A boom in IDLE, MANUAL or HALTED has no return phase, and a JOG gives it none. -/
theorem State.jogBoom_safe (s : State) (b : Boom) (k : FnKind) (v : Nat) : s.AnswersSafely (s.jogBoom b k v) := by
  have h := State.Inner.refl s
  unfold State.jogBoom
  dsimp only
  split
  · next hs =>
    refine .event (by simp) (h.goPhase fun hq => Sequencer.pauseMarked_of_ne (by simp) (hq.2 ?_)) _ _
    rw [hs]
    simp
  · exact .event (by simp) (h.touchSeq b) _ _
  · exact .event (by simp) (h.touchSeq b) _ _
  · exact .unchanged s _ _

theorem State.answerJog_safe (s : State) (body : List Byte) : s.AnswersSafely (s.answerJog body) := by
  unfold State.answerJog
  dsimp only
  split
  · exact .unchanged s _ _
  · exact .unchanged s _ _
  · split
    · exact .unchanged s _ _
    · have hj : s.Inner (s.setIndexJog (min jogMax (numAt body 1 2))) := (State.Inner.refl s).same rfl rfl rfl rfl
      exact .event (State.outer_setIndexJog s _) hj _ _
  · split
    · exact s.jogBoom_safe _ _ _
    · exact .unchanged s _ _

theorem State.answerEndManual_safe (s : State) (body : List Byte) : s.AnswersSafely (s.answerEndManual body) := by
  have h := State.Inner.refl s
  unfold State.answerEndManual
  split
  · exact .unchanged s _ _
  · split
    · next b _ hs =>
      refine .event (by simp) (h.goPhase fun hq => Sequencer.pauseMarked_of_ne (by simp) (hq.2 ?_)) _ _
      rw [hs]
      simp
    · exact .event (by simp) (h.touchSeq _) _ _
    · exact .unchanged s _ _

theorem State.answerTram_safe (s : State) (body : List Byte) : s.AnswersSafely (s.answerTram body) := by
  have hset : ∀ v, s.Inner (s.setTram v) := fun v => (State.Inner.refl s).same rfl rfl rfl rfl
  unfold State.answerTram
  split
  · exact .event (by simp) (hset _) _ _
  · split
    · exact .event (by simp) (hset _) _ _
    · exact .unchanged s _ _

/-! ### The magazine, the valves and the records -/

/-- An answer that leaves the line, the Driver, the parameters, the records and the Sequencers. -/
theorem State.AnswersSafely.of_prep {s t : State} (h : s.Prep t) (hl : t.link = s.link) (hv : t.valve = s.valve)
    (hd : t.diu = s.diu) (r : Result) (c : List Byte) : s.AnswersSafely (t, r, c) :=
  ⟨.of_prep h hv (congrArg Direct.estop hd), congrArg (fun l => (l.replies, l.rx)) hl⟩

theorem State.answerSetBands_safe (s : State) (body : List Byte) : s.AnswersSafely (s.answerSetBands body) := by
  unfold State.answerSetBands
  split
  · exact .unchanged s _ _
  · split
    · exact .unchanged s _ _
    · split
      · exact .unchanged s _ _
      · next b _ _ _ =>
        have hb : ∀ l, s.Prep { s with bands := s.bands.set b l } := fun l => .same rfl rfl rfl rfl rfl rfl
        exact .of_prep (hb _) rfl rfl rfl _ _

theorem State.answerLoadSlots_safe (s : State) (body : List Byte) : s.AnswersSafely (s.answerLoadSlots body) := by
  unfold State.answerLoadSlots
  dsimp only
  split
  · exact .unchanged s _ _
  · exact .event (by simp) ((State.Inner.refl s).modIdx _).retestStarved _ _

theorem State.answerClearMagazine_safe (s : State) : s.AnswersSafely s.answerClearMagazine := by
  unfold State.answerClearMagazine
  split
  · exact .event (by simp) (State.Inner.refl s).clearMagazine _ _
  · exact .unchanged s _ _

/-- The clamps of R161 leave settings in the ranges of R160. -/
theorem Channel.settingsGood_stored (c : Channel) (x : Settings) : (c.withSettings x.stored).settingsGood := by
  simp only [Channel.settingsGood, Channel.withSettings, Settings.stored, clampTo]
  omega

theorem mem_modify {α : Type} {l : List α} {n : Nat} {f : α → α} {x : α} (h : x ∈ l.modify n f) :
    x ∈ l ∨ ∃ y ∈ l, x = f y := by
  obtain ⟨k, hk⟩ := List.mem_iff_getElem?.mp h
  rw [List.getElem?_modify] at hk
  obtain ⟨y, hy, hxy⟩ := Option.map_eq_some_iff.mp hk
  have hmem := List.mem_of_getElem? hy
  split at hxy
  · exact .inr ⟨y, hmem, hxy.symm⟩
  · exact .inl (hxy ▸ hmem)

theorem Valve.SettingsGood.modChannel {v : Valve} (h : v.SettingsGood) (n : Nat) {f : Channel → Channel}
    (hf : ∀ c, c.settingsGood → (f c).settingsGood) : (v.modChannel n f).SettingsGood := by
  refine ⟨(List.length_modify ..).trans h.1, h.2.1, fun c hc => ?_⟩
  rcases mem_modify hc with hc | ⟨y, hy, rfl⟩
  · exact h.2.2 c hc
  · exact hf y (h.2.2 y hy)

/-- A resolution sets the functions the channels are driven by, and lists sixteen routes. -/
theorem Valve.SettingsGood.resolve {v : Valve} (h : v.channels.length = 20) (hc : ∀ c ∈ v.channels, c.settingsGood) :
    v.resolve.SettingsGood := by
  refine ⟨v.resolve_channels_length.trans h, rfl, ?_⟩
  rw [forall_settingsGood_fixed, v.resolve_fixed, ← forall_settingsGood_fixed]
  exact hc

theorem State.answerSetChannel_safe (s : State) (body : List Byte) :
    s.AnswersSafely (s.answerSetChannel body) := by
  unfold State.answerSetChannel
  dsimp only
  split
  · exact .unchanged s _ _
  · refine ⟨(State.Prep.modValve s fun h => ?_).finish s, (exchange_of_outer (State.outer_finish s _)).trans rfl⟩
    exact h.modChannel _ fun c _ => c.settingsGood_stored _

theorem State.Prep.doneQuiet {s x : State} (h : s.Prep x) (s0 : State) : s.Safe (s0.doneQuiet x) := by
  unfold State.doneQuiet
  exact (h.trans (.of_views (by simp) (((State.Inner.refl x).takeNewlyFailed _).returnTest true))).finishFrom _ _ _

theorem State.answerSetRoute_safe (s : State) (body : List Byte) : s.AnswersSafely (s.answerSetRoute body) := by
  unfold State.answerSetRoute
  dsimp only
  split
  · exact .unchanged s _ _
  · split
    · exact .unchanged s _ _
    · split
      · exact .unchanged s _ _
      · split
        · exact .unchanged s _ _
        · refine ⟨(State.Prep.modValve s fun h => ?_).doneQuiet s, (exchange_of_outer (State.outer_doneQuiet s _)).trans rfl⟩
          exact .resolve h.1 h.2.2

theorem State.answerClearChannel_safe (s : State) (body : List Byte) :
    s.AnswersSafely (s.answerClearChannel body) := by
  unfold State.answerClearChannel
  dsimp only
  split
  · exact .unchanged s _ _
  · split
    · exact .unchanged s _ _
    · refine ⟨(State.Prep.modValve s fun h => ?_).doneQuiet s, (exchange_of_outer (State.outer_doneQuiet s _)).trans rfl⟩
      have hm := h.modChannel (byteAt body 0) (f := fun ch => { ch with state := .ok, lowCount := 0 }) fun _ hc => hc
      exact .resolve hm.1 hm.2.2

/-- A record that is released leaves the others' numbers (R196). -/
theorem State.Prep.release (s : State) (n : Nat) : s.Prep (s.modStore fun st => st.release n) := by
  refine ⟨id, id, id, ?_, id⟩
  have hsub : (s.store.release n).numbers.Sublist s.store.numbers :=
    ((List.filter_sublist.map _).append (.refl _)).append (.refl _)
  rintro ⟨⟨hheld, hbits⟩, hnodup, hrange, hcounter⟩
  refine ⟨⟨?_, hbits⟩, hnodup.sublist hsub, fun m hm => hrange m (hsub.subset hm), hcounter⟩
  rw [Store.held_eq_length] at hheld ⊢
  exact Nat.le_trans hsub.length_le hheld

theorem State.answerReleaseHole_safe (s : State) (body : List Byte) :
    s.AnswersSafely (s.answerReleaseHole body) := by
  unfold State.answerReleaseHole
  dsimp only
  split
  · exact .of_prep (.release s _) rfl rfl rfl _ _
  · exact .unchanged s _ _

/-- A change of positions of the Bit Table. -/
theorem State.Prep.modBits (s : State) {f : List BitPos → List BitPos} (hf : (f s.bits).length = s.bits.length) :
    s.Prep (s.modBits f) :=
  ⟨id, id, id, fun h => ⟨⟨h.1.1, hf.trans h.1.2⟩, h.2⟩, id⟩

theorem State.Prep.modBit (s : State) (p : Nat) (f : BitPos → BitPos) : s.Prep (s.modBit p f) :=
  .modBits s (List.length_modify ..)

theorem State.answerBitFitted_safe (s : State) (body : List Byte) : s.AnswersSafely (s.answerBitFitted body) := by
  have hoff : ∀ b, s.Prep (s.takeOffBit b) ∧ (s.takeOffBit b).link = s.link ∧ (s.takeOffBit b).valve = s.valve ∧
      (s.takeOffBit b).diu = s.diu := by
    intro b
    unfold State.takeOffBit
    split
    · exact ⟨.modBit s _ _, rfl, rfl, rfl⟩
    · exact ⟨.refl s, rfl, rfl, rfl⟩
  unfold State.answerBitFitted
  dsimp only
  split
  · exact .unchanged s _ _
  · next b _ =>
    obtain ⟨hp, hl, hv, hd⟩ := hoff b
    split
    · exact .unchanged s _ _
    · split
      · exact .unchanged s _ _
      · split
        · exact .unchanged s _ _
        · exact .of_prep (hp.trans (.modBit _ _ _)) hl hv hd _ _

theorem State.answerReplaceBit_safe (s : State) (body : List Byte) :
    s.AnswersSafely (s.answerReplaceBit body) := by
  unfold State.answerReplaceBit
  dsimp only
  split
  · exact .unchanged s _ _
  · split
    · exact .unchanged s _ _
    · exact .of_prep (.modBit s _ _) rfl rfl rfl _ _

/-! ### The requests that read -/

theorem State.answerStatus_safe (s : State) (body : List Byte) : s.AnswersSafely (s.answerStatus body) := by
  unfold State.answerStatus
  dsimp only
  repeat' split
  all_goals exact .unchanged s _ _

theorem State.answerGetParam_safe (s : State) (body : List Byte) : s.AnswersSafely (s.answerGetParam body) := by
  unfold State.answerGetParam
  split <;> exact .unchanged s _ _

theorem State.answerGetBands_safe (s : State) (body : List Byte) : s.AnswersSafely (s.answerGetBands body) := by
  unfold State.answerGetBands
  repeat' split
  all_goals exact .unchanged s _ _

theorem State.answerFetchHole_safe (s : State) (body : List Byte) : s.AnswersSafely (s.answerFetchHole body) := by
  unfold State.answerFetchHole
  dsimp only
  split <;> exact .unchanged s _ _

theorem State.answerRestart_safe (s : State) : s.AnswersSafely s.answerRestart := by
  have hl : s.Safe (s.modLink fun l => { l with restarting := true }) := .line s
  exact ⟨hl, rfl⟩

/-! ### Every request, and the taking of the inbound queue -/

/-- A request is taken by its length rule and answered by its owner, which keeps every invariant; another command is
no request. -/
theorem runRequest_cases (c : Instr) :
    (∃ (kind tag : Byte) (body : List Byte) (len : List Byte → Bool) (f : State → Answer),
      (∀ s : State, runRequest c s = .next (s.takeRequest kind tag body len f)) ∧
        ∀ s : State, s.AnswersSafely (f s)) ∨ ∀ s : State, runRequest c s = .next s := by
  cases c
  case ping => exact .inl ⟨_, _, _, _, _, fun _ => rfl, fun s => .unchanged s _ _⟩
  case getStatus => exact .inl ⟨_, _, _, _, _, fun _ => rfl, fun s => s.answerStatus_safe _⟩
  case setParam => exact .inl ⟨_, _, _, _, _, fun _ => rfl, fun s => s.answerSetParam_safe _⟩
  case getParam => exact .inl ⟨_, _, _, _, _, fun _ => rfl, fun s => s.answerGetParam_safe _⟩
  case restart => exact .inl ⟨_, _, _, _, _, fun _ => rfl, fun s => s.answerRestart_safe⟩
  case startHole => exact .inl ⟨_, _, _, _, _, fun _ => rfl, fun s => s.answerStartHole_safe _⟩
  case decide => exact .inl ⟨_, _, _, _, _, fun _ => rfl, fun s => s.answerDecide_safe _⟩
  case pause => exact .inl ⟨_, _, _, _, _, fun _ => rfl, fun s => s.answerPause_safe _⟩
  case resume => exact .inl ⟨_, _, _, _, _, fun _ => rfl, fun s => s.answerResume_safe _⟩
  case abortHole => exact .inl ⟨_, _, _, _, _, fun _ => rfl, fun s => s.answerAbort_safe _⟩
  case clearStop => exact .inl ⟨_, _, _, _, _, fun _ => rfl, fun s => s.answerClearStop_safe⟩
  case jog => exact .inl ⟨_, _, _, _, _, fun _ => rfl, fun s => s.answerJog_safe _⟩
  case endManual => exact .inl ⟨_, _, _, _, _, fun _ => rfl, fun s => s.answerEndManual_safe _⟩
  case tram => exact .inl ⟨_, _, _, _, _, fun _ => rfl, fun s => s.answerTram_safe _⟩
  case setBands => exact .inl ⟨_, _, _, _, _, fun _ => rfl, fun s => s.answerSetBands_safe _⟩
  case getBands => exact .inl ⟨_, _, _, _, _, fun _ => rfl, fun s => s.answerGetBands_safe _⟩
  case loadSlots => exact .inl ⟨_, _, _, _, _, fun _ => rfl, fun s => s.answerLoadSlots_safe _⟩
  case getMagazine => exact .inl ⟨_, _, _, _, _, fun _ => rfl, fun s => .unchanged s _ _⟩
  case clearMagazine => exact .inl ⟨_, _, _, _, _, fun _ => rfl, fun s => s.answerClearMagazine_safe⟩
  case setChannel => exact .inl ⟨_, _, _, _, _, fun _ => rfl, fun s => s.answerSetChannel_safe _⟩
  case setRoute => exact .inl ⟨_, _, _, _, _, fun _ => rfl, fun s => s.answerSetRoute_safe _⟩
  case clearChannel => exact .inl ⟨_, _, _, _, _, fun _ => rfl, fun s => s.answerClearChannel_safe _⟩
  case getChannels => exact .inl ⟨_, _, _, _, _, fun _ => rfl, fun s => .unchanged s _ _⟩
  case getFlow => exact .inl ⟨_, _, _, _, _, fun _ => rfl, fun s => .unchanged s _ _⟩
  case fetchHole => exact .inl ⟨_, _, _, _, _, fun _ => rfl, fun s => s.answerFetchHole_safe _⟩
  case releaseHole => exact .inl ⟨_, _, _, _, _, fun _ => rfl, fun s => s.answerReleaseHole_safe _⟩
  case listHoles => exact .inl ⟨_, _, _, _, _, fun _ => rfl, fun s => .unchanged s _ _⟩
  case bitFitted => exact .inl ⟨_, _, _, _, _, fun _ => rfl, fun s => s.answerBitFitted_safe _⟩
  case replaceBit => exact .inl ⟨_, _, _, _, _, fun _ => rfl, fun s => s.answerReplaceBit_safe _⟩
  case getBits => exact .inl ⟨_, _, _, _, _, fun _ => rfl, fun s => .unchanged s _ _⟩
  case unknownKindRequest => exact .inl ⟨_, _, _, _, _, fun _ => rfl, fun s => .unchanged s _ _⟩
  all_goals exact .inr fun _ => rfl

theorem runRequest_safe {c : Instr} {s t : State} (h : runRequest c s = .next t) : s.Safe t := by
  rcases runRequest_cases c with ⟨kind, tag, body, len, f, he, hf⟩ | he
  · rw [he] at h
    obtain rfl := Host.Outcome.next.inj h
    exact .takeRequest s _ _ _ _ (hf s)
  · rw [he] at h
    obtain rfl := Host.Outcome.next.inj h
    exact .refl s

theorem State.Safe.takeHeadFrame (s : State) : s.Safe s.takeHeadFrame := by
  unfold State.takeHeadFrame
  split
  · next hin =>
    split
    · split
      · next ht => exact (State.Safe.inbound_tail hin).trans (runRequest_safe ht)
      · exact .refl s
    · exact .refl s
  · exact .refl s

theorem State.Safe.drainInbound (s : State) : s.Safe s.drainInbound := by
  unfold State.drainInbound
  generalize s.link.inbound.length = n
  induction n generalizing s with
  | zero => exact .refl s
  | succ n ih => exact (State.Safe.takeHeadFrame s).trans (ih _)

/-! ### The line's events -/

theorem State.Safe.frameGood (s : State) (f : Frame) : s.Safe (s.frameGood f) := by
  have hp : s.Safe (s.modLink fun l => { l with presence := .start, silence := false }) := .line s
  unfold State.frameGood
  dsimp only
  refine State.Safe.trans ?_ ((State.Safe.join _ f).trans (.drainInbound _))
  split
  · exact hp.trans (.report _ _)
  · exact hp

theorem State.Safe.receive (s : State) (cut : Bool) (bytes : List Byte) : s.Safe (s.receive cut bytes) := by
  unfold State.receive
  exact State.Safe.foldl (.line s) _ fun v f _ => .frameGood v f

/-! ### Resets (R212) -/

/-- A state with empty queues, default settings, parameters and records, all channels off and both booms off the
cycle meets every invariant. -/
theorem State.Safe.fresh {t : State} (s : State)
    (hq : t.link.inbound = [] ∧ t.link.replies = [] ∧ t.link.reports.length ≤ 12) (hv : t.valve = .reset)
    (hp : t.params = defaultParams) (hst : t.store = .reset) (hb : t.bits = List.replicate 8 .reset)
    (hs : ∃ x y, t.seq = { a := .reset x, b := .reset y }) : s.Safe t := by
  have hduty : ∀ c ∈ t.valve.channels, c.settingsGood ∧ c.duty = 0 := by
    rw [hv]
    intro c hc
    obtain ⟨n, -, rfl⟩ := List.mem_map.mp hc
    simp [Channel.settingsGood, Channel.reset]
  have hlen : t.valve.channels.length = 20 ∧ t.valve.routes.length = 16 := by rw [hv]; exact ⟨rfl, rfl⟩
  obtain ⟨hin, hre, hrp⟩ := hq
  obtain ⟨x, y, hseq⟩ := hs
  refine ⟨⟨fun _ => ⟨by simp [hin], by simp [hre], hrp⟩, fun _ => ⟨hlen.1, hlen.2, fun c hc => (hduty c hc).1⟩,
    fun _ => ?_, fun _ => ?_, fun _ => ?_⟩, fun _ _ c hc => (hduty c hc).2,
    fun _ => ⟨hlen.1, hlen.2, fun c hc => ⟨(hduty c hc).1, .inl (hduty c hc).2⟩⟩⟩
  · rw [hp]
    unfold ParamsOrdered
    decide
  · simp [State.RecordsBounded, State.NumbersDistinct, hst, hb, Store.reset, Store.held, Store.numbers, recordPlaces]
  · have hmark : ∀ z, (Sequencer.reset z).pauseMarked := by
      intro z
      cases z <;> exact Sequencer.pauseMarked_of_ne (by simp [Sequencer.reset]) rfl
    simp only [State.PausesMarked, hseq]
    exact ⟨hmark x, hmark y⟩

theorem State.Safe.beginReset (s : State) (c : ResetCause) (st : Straps) (p : Pins) : s.Safe (s.beginReset c st p) :=
  .fresh s ⟨rfl, rfl, Nat.zero_le _⟩ rfl rfl rfl rfl ⟨_, _, rfl⟩

theorem State.Safe.startUpEnd (s : State) (c : ResetCause) (st : Straps) (p : Pins) (x : Bool) :
    s.Safe { State.afterReset c st p x with pending := s.pending, freeCount := s.freeCount } := by
  refine .fresh s ⟨rfl, rfl, ?_⟩ rfl rfl rfl rfl ⟨_, _, rfl⟩
  simp only [State.afterReset, Link.started, startReports]
  cases p.eStop <;> cases p.methane <;> simp

theorem State.Safe.unpowered (s : State) :
    s.Safe { State.unpowered with pending := s.pending, freeCount := s.freeCount } :=
  .fresh s ⟨rfl, rfl, Nat.zero_le _⟩ rfl rfl rfl rfl ⟨_, _, rfl⟩

/-! ### The rig -/

/-- A change of the direct inputs that leaves the E-stop state. -/
theorem State.Safe.modDiu (s : State) {f : Direct → Direct} (hf : (f s.diu).estop = s.diu.estop) :
    s.Safe (s.modDiu f) := .of_prep (.same rfl rfl rfl rfl rfl rfl) rfl hf

theorem State.Prep.takeFrame (s : State) (b : Boom) (f : BitVec 80) : s.Prep (s.takeFrame b f) := by
  have hr : ∀ t : State, s.Prep t →
      s.Prep (if (s.head.get b).losesScan f then t.report (.interlock (.scanLost b true))
        else if (s.head.get b).scanLost && !(t.head.get b).scanLost then t.report (.interlock (.scanLost b false))
        else t) := by
    intro t ht
    split
    · exact ht.trans (.report _ _)
    · split
      · exact ht.trans (.report _ _)
      · exact ht
  refine hr _ ?_
  split <;> exact .same rfl rfl rfl rfl rfl rfl

/-- What follows the taking of a head frame keeps both views. -/
theorem State.Prep.scanArrival (s : State) (b : Boom) (f : BitVec 80) : s.Prep (s.scanArrival b f) := by
  have hrest : ∀ (t : State) (n : Nat) (ks : List Nat) (lost : Bool),
      t.Prep (let u := ((t.modRot b fun r => { r with samplePulses := 0 }).workSample b n).takeInputs b ks
        let u := if u.active b Input.guardClosed then u else u.arrive b .operator
        if lost then u.arrive b .scan else u) := by
    intro t n ks lost
    have hi := (((State.Inner.refl t).modRot b fun r => { r with samplePulses := 0 }).workSample b n).takeInputs b ks
    refine .of_views ?_ ?_
    · dsimp only
      repeat' split
      all_goals simp
    · dsimp only
      repeat' split
      · exact hi.arrive _ _
      · exact (hi.arrive _ _).arrive _ _
      · exact hi
      · exact hi.arrive _ _
  exact (State.Prep.takeFrame s b f).trans (hrest _ _ _ _)

theorem Channel.read_settings (c : Channel) (n : Nat) : (c.read n).settingsGood ↔ c.settingsGood := Iff.rfl

/-- A reading keeps the settings of every channel (R164). -/
theorem Valve.SettingsGood.readAll {v : Valve} (h : v.SettingsGood) (l : List Nat) : (v.readAll l).SettingsGood := by
  refine ⟨by simpa [Valve.readAll] using h.1, h.2.1, fun c hc => ?_⟩
  obtain ⟨i, hi, rfl⟩ := List.mem_map.mp hc
  have hi : i < v.channels.length := List.mem_range.mp hi
  rw [Channel.read_settings, Valve.channel, ← List.getElem_eq_getD (h := hi)]
  exact h.2.2 _ (List.getElem_mem hi)

/-- A channel fault and its end keep the settings (R164, R169). -/
theorem State.Safe.channelFault (s : State) (x : Nat × ChState) : s.Safe (s.channelFault x) := by
  have hm : s.Prep (s.modValve fun v =>
      (v.modChannel x.1 fun c => { c with state := x.2, duty := 0, lowCount := 0 }).moveOff x.1) :=
    .modValve s fun h => by
      have hc := h.modChannel x.1 (f := fun c => { c with state := x.2, duty := 0, lowCount := 0 }) fun _ hc => hc
      exact .resolve hc.1 hc.2.2
  unfold State.channelFault
  exact ((hm.trans (.report _ _)).trans (.of_views (by simp) ((State.Inner.refl _).takeNewlyFailed _))).finish s

theorem State.Prep.currentReading (s : State) (l : List Nat) : s.Prep (s.currentReading l) := by
  have hr : s.Prep (s.modValve fun v => v.readAll l) := .modValve s fun h => h.readAll l
  have hf : ∀ v : State, ∀ x ∈ (s.modValve fun v => v.readAll l).valve.faults, State.Prep v (v.channelFault x) :=
    fun v x _ => (State.Safe.channelFault v x).toPrep
  unfold State.currentReading State.inOrder
  dsimp only
  split
  · have hn : s.Prep { s.modValve fun v => v.readAll l with
        freeCount := s.freeCount + (s.modValve fun v => v.readAll l).valve.faults.length } :=
      hr.trans (.same rfl rfl rfl rfl rfl rfl)
    exact hn.foldl _ fun v x _ => (State.Safe.channelFault v x).toPrep
  · exact hr.foldl _ hf

theorem State.Safe.tickOverflow (s : State) (b : Boom) : s.Safe (s.tickOverflow b) := by
  unfold State.tickOverflow
  split
  · unfold State.rotationOverflow
    exact .event (by simp) (((State.Inner.refl s).modRot b _).takeOverflow b) s
  · exact .refl s

theorem State.Safe.eStopRelease (s : State) :
    s.Safe (s.finishComputed (((s.modDiu fun d => { d with estop := false, releaseTimer := .zero }).modArb fun a =>
      { a with estop := false }).report (.interlock (.eStop false)))) := by
  have h1 : s.Prep ((s.modDiu fun d => { d with estop := false, releaseTimer := .zero }).modArb fun a =>
      { a with estop := false }) := .same rfl rfl rfl rfl rfl rfl
  exact (h1.trans (.report _ _)).finishComputed s

theorem State.Safe.methaneClear (s : State) :
    s.Safe (s.finishComputed (((s.modDiu fun d => { d with methane := false, clearTimer := .zero }).modArb fun a =>
      { a with methane := false }).report (.interlock (.methane false)))) := by
  have h1 : s.Prep ((s.modDiu fun d => { d with methane := false, clearTimer := .zero }).modArb fun a =>
      { a with methane := false }) := .same rfl rfl rfl rfl rfl rfl
  exact (h1.trans (.report _ _)).finishComputed s

theorem State.Safe.eStopAssert (s : State) :
    s.Safe (s.finishComputed (((s.modDiu fun d => { d with rawEstop := true, releaseTimer := .zero }).assertStop).report
      (.interlock (.eStop true)))) := by
  have h1 : s.Prep ((((s.modDiu fun d => { d with rawEstop := true, releaseTimer := .zero }).modDiu fun d =>
      { d with estop := true }).setTram false).setIndexJog 0) := .same rfl rfl rfl rfl rfl rfl
  unfold State.assertStop
  refine ((h1.trans (.of_views ?_ ?_)).trans (.report _ _)).finishComputed s
  · exact State.outer_inOrder _ _ _ _ State.outer_takeStop
  · exact (State.Inner.refl _).inOrder _ _ fun _ ht x => ht.takeStop x

theorem State.Safe.methaneActive (s : State) :
    s.Safe (s.finishComputed (((((s.modDiu fun d => { d with rawMethane := true, clearTimer := .zero }).modDiu fun d =>
      { d with methane := true }).modArb fun a => { a with methane := true }).arriveAll .gas).report
        (.interlock (.methane true)))) := by
  have h1 : s.Prep (((s.modDiu fun d => { d with rawMethane := true, clearTimer := .zero }).modDiu fun d =>
      { d with methane := true }).modArb fun a => { a with methane := true }) := .same rfl rfl rfl rfl rfl rfl
  exact ((h1.trans (.of_views (State.outer_arriveAll _ _) ((State.Inner.refl _).arriveAll _))).trans
    (.report _ _)).finishComputed s

/-! ### Every command -/

/-- A command that acts under a condition. -/
theorem State.Safe.when {s t u : State} {c : Prop} [Decidable c] (h : s.Safe t) (k : s.Safe u) :
    s.Safe (if c then t else u) := by
  split
  · exact h
  · exact k

/-- A command that is an event of operations that keep both views, or nothing. -/
theorem State.Safe.whenEvent {s x : State} {c : Prop} [Decidable c] (ho : x.outer = s.outer) (hi : s.Inner x) :
    s.Safe (if c then s.finish x else s) := .when (.event ho hi s) (.refl s)

theorem exec_safe {i : Instr} {s t : State} (h : exec i s = .next t) : s.Safe t := by
  have hs := State.Inner.refl s
  have hrequest : runRequest i s = .next t → s.Safe t := runRequest_safe
  cases i
  case frameArrival => obtain rfl := Host.Outcome.next.inj h; exact .when (.receive s _ _) (.refl s)
  case frameByteTimeout =>
    obtain rfl := Host.Outcome.next.inj h
    have hd : s.Safe (s.modLink fun l => { l with rx := l.rx.drop 1 }) := .line s
    exact .when (hd.trans (.receive _ _ _)) (.refl s)
  case frameTransmitStart =>
    obtain rfl := Host.Outcome.next.inj h
    exact .when ((State.Safe.transmit s).trans (.drainInbound _)) (.refl s)
  case presenceTimeout =>
    obtain rfl := Host.Outcome.next.inj h
    exact .when ((State.Prep.presenceExpired s).finish s) (.refl s)
  case powerOn => obtain rfl := Host.Outcome.next.inj h; exact .beginReset s _ _ _
  case resetReleased => obtain rfl := Host.Outcome.next.inj h; exact .when (.refl s) (.modDiu s rfl)
  case resetAsserted =>
    obtain rfl := Host.Outcome.next.inj h
    exact .when (.refl s) (.when (.beginReset s _ _ _) (.modDiu s rfl))
  case restartReplySent => obtain rfl := Host.Outcome.next.inj h; exact .when (.beginReset s _ _ _) (.refl s)
  case startUpEnd => obtain rfl := Host.Outcome.next.inj h; exact .when (.startUpEnd s _ _ _ _) (.refl s)
  case scanFrameArrival =>
    obtain rfl := Host.Outcome.next.inj h
    exact .when ((State.Prep.scanArrival s _ _).finish s) (.refl s)
  case indexStep v =>
    obtain rfl := Host.Outcome.next.inj h
    have hd : s.Safe (s.modDiu fun d => { d with rawIndexStep := v, indexStep := v }) := .modDiu s rfl
    exact .when (.refl s) (.when ((hd.toPrep.trans (.of_views (by simp) (State.Inner.refl _).idxStep)).finish s) hd)
  case stepTimeout => obtain rfl := Host.Outcome.next.inj h; exact .whenEvent (by simp) hs.stepExpired
  case readyWaitTimeout => obtain rfl := Host.Outcome.next.inj h; exact .whenEvent (by simp) hs.readyExpired
  case passTimeout => obtain rfl := Host.Outcome.next.inj h; exact .whenEvent (by simp) hs.passExpired
  case rotationPulse b =>
    obtain rfl := Host.Outcome.next.inj h
    exact .whenEvent (by simp) ((hs.modRot b _).mixPulse b)
  case rotationOverflow => obtain rfl := Host.Outcome.next.inj h; exact .when (.tickOverflow s _) (.refl s)
  case eStopAssert =>
    obtain rfl := Host.Outcome.next.inj h
    exact .when (.refl s) (.when (.eStopAssert s) (.modDiu s rfl))
  case eStopInputMade => obtain rfl := Host.Outcome.next.inj h; exact .when (.refl s) (.modDiu s rfl)
  case eStopRelease =>
    obtain rfl := Host.Outcome.next.inj h
    exact .when (.eStopRelease s) (.refl s)
  case methaneActive =>
    obtain rfl := Host.Outcome.next.inj h
    exact .when (.refl s) (.when (.methaneActive s) (.modDiu s rfl))
  case methaneInputInactive => obtain rfl := Host.Outcome.next.inj h; exact .when (.refl s) (.modDiu s rfl)
  case methaneClear =>
    obtain rfl := Host.Outcome.next.inj h
    exact .when (.methaneClear s) (.refl s)
  case jackTimeout b =>
    obtain rfl := Host.Outcome.next.inj h
    exact .whenEvent (by simp) ((hs.timerOut b _).halt b _ _)
  case contactTimeout b =>
    obtain rfl := Host.Outcome.next.inj h
    exact .whenEvent (by simp) ((hs.timerOut b _).halt b _ _)
  case retractTimeout b =>
    obtain rfl := Host.Outcome.next.inj h
    exact .whenEvent (by simp) ((hs.timerOut b _).halt b _ _)
  case pushTimeout b =>
    obtain rfl := Host.Outcome.next.inj h
    exact .whenEvent (by simp) ((hs.timerOut b _).halt b _ _)
  case mixMaxTime b =>
    obtain rfl := Host.Outcome.next.inj h
    exact .whenEvent (by simp) (((hs.timerOut b _).halt b _ _).takeDeferred b)
  case torqueTimeout b =>
    obtain rfl := Host.Outcome.next.inj h
    exact .whenEvent (by simp) ((hs.timerOut b _).giveVerdict b _)
  case releaseTimeout b =>
    obtain rfl := Host.Outcome.next.inj h
    exact .whenEvent (by simp) ((hs.timerOut b _).halt b _ _)
  case gelHoldExpiry b => obtain rfl := Host.Outcome.next.inj h; exact .whenEvent (by simp) (hs.gelExpired b)
  case flushLossTimeout b =>
    obtain rfl := Host.Outcome.next.inj h
    exact .whenEvent (by simp) ((hs.modGov b _).arrive b _)
  case valveCurrentReading =>
    obtain rfl := Host.Outcome.next.inj h
    exact .when ((State.Prep.currentReading s _).finish s) (.refl s)
  case indexHomeChange => obtain rfl := Host.Outcome.next.inj h; exact .when (.refl s) (.modDiu s rfl)
  case lenAbove240Discard => obtain rfl := Host.Outcome.next.inj h; exact .when (.receive s _ _) (.refl s)
  case powerLoss => obtain rfl := Host.Outcome.next.inj h; exact .unpowered s
  all_goals exact hrequest h

/-! ### Time, and the step -/

theorem Sequencer.tick_marked {q : Sequencer} (h : q.pauseMarked) : q.tick.pauseMarked := h

theorem State.Safe.tickAll (s : State) : s.Safe s.tickAll :=
  ⟨⟨id, id, id, id, fun h => ⟨Sequencer.tick_marked h.1, Sequencer.tick_marked h.2⟩⟩, id, id⟩

/-- The queue of commands is no part of an invariant. -/
theorem State.Safe.pending (s : State) (l : List Instr) : s.Safe { s with pending := l } :=
  .of_prep (.same rfl rfl rfl rfl rfl rfl) rfl rfl

theorem State.Safe.idle (s : State) : s.Safe s.idle := by
  unfold State.idle
  split
  · exact .refl s
  · have ht : s.Safe { s with startTimer := s.startTimer.tick } := .of_prep (.same rfl rfl rfl rfl rfl rfl) rfl rfl
    exact ht.trans (.pending _ _)
  · split
    · next t ht =>
      unfold State.takeInbound at ht
      split at ht
      · next hin =>
        split at ht
        · obtain rfl := Option.some.inj ht
          exact (State.Safe.inbound_tail hin).trans (.pending _ _)
        · cases ht
      · cases ht
    · exact ((State.Safe.tickAll s).foldl _ fun v b _ => .tickOverflow v b).trans (.pending _ _)

/-- A step keeps every invariant that its state meets. -/
theorem step_safe {s t : State} (h : step s = .next t) : s.Safe t := by
  unfold step at h
  split at h
  · exact (State.Safe.pending s _).trans (exec_safe h)
  · obtain rfl := Host.Outcome.next.inj h
    exact .idle s

/-- Settles O55: a frame, a reply or a report joins its queue only where a place is free. -/
theorem queuesStayBounded : Obligations.QueuesStayBounded := fun _ _ hs h => (step_safe h).queues hs

/-- Settles O56: every change of the duties or of the E-stop state is followed by a computation of the duties. -/
theorem stopHoldsEveryDuty : Obligations.StopHoldsEveryDuty := fun _ _ hs h => (step_safe h).stop hs

/-- Settles O57: SET_CHANNEL clamps the settings, and a computed duty lies between those it is computed from. -/
theorem dutiesStayInRange : Obligations.DutiesStayInRange := fun _ _ hs h => (step_safe h).duties hs

/-- Settles O58: SET_PARAM alone writes a parameter, within its range and its window. -/
theorem parametersStayOrdered : Obligations.ParametersStayOrdered := fun _ _ hs h => (step_safe h).params hs

/-- Settles O59: START_HOLE alone brings a number, which is free, and only with a place left. -/
theorem holeNumbersStayDistinct : Obligations.HoleNumbersStayDistinct := fun _ _ hs h => (step_safe h).records hs

/-- Settles O60: a boom is PAUSED from an automatic phase alone, and every other entry clears the return phase. -/
theorem returnPhaseExactlyWhilePaused : Obligations.ReturnPhaseExactlyWhilePaused :=
  fun _ _ hs h => (step_safe h).pauses hs

end Sys2Proof.Machine

/-! The step, the resets and the Link Port's line (chapter 11). -/

namespace Sys2Proof.Machine

/-! The proofs are elaborated one after another: side by side, so many ask for more threads than the memory holds. -/
set_option Elab.async false

/-! ### The step and the reset -/

/-- Settles O1. -/
theorem stepRunsFrontCommand : Obligations.StepRunsFrontCommand := fun _ _ => rfl

/-- Settles O3: a closed state, read block by block. -/
theorem resetLeavesTheTable : Obligations.ResetLeavesTheTable := by
  refine ⟨?seq, ?workers, rfl, rfl, rfl, rfl, rfl, by decide, by decide, rfl, by decide, rfl, ?heads, rfl, rfl, rfl, rfl,
    rfl, by decide, rfl, rfl, rfl, rfl, rfl, rfl, rfl, rfl, by decide, rfl, rfl⟩
  case seq => intro b; cases b <;> exact ⟨rfl, rfl, rfl⟩
  case workers => intro b; cases b <;> exact ⟨rfl, rfl, rfl, rfl, rfl⟩
  case heads => intro b; cases b <;> exact ⟨rfl, rfl, rfl, rfl, rfl, rfl⟩

/-- A state right after a reset is one that a fresh start keeps safe, from any state that meets the invariants. -/
theorem resetMeetsTheInvariants : Obligations.ResetMeetsTheInvariants := by
  refine ⟨by unfold State.QueuesBounded; decide, fun h => absurd h (by decide), ⟨rfl, rfl, ?channels⟩,
    by unfold ParamsOrdered; decide, by unfold State.RecordsBounded; decide, by unfold State.NumbersDistinct; decide,
    ?pauses⟩
  case channels =>
    intro c hc
    obtain ⟨n, -, rfl⟩ := List.mem_map.mp hc
    simp [Channel.settingsGood, Channel.dutyGood, Channel.reset]
  case pauses => exact ⟨Sequencer.pauseMarked_of_ne (by decide) rfl, Sequencer.pauseMarked_of_ne (by decide) rfl⟩

/-! ### Power and resets (R212 to R214) -/

/-- The channels after a reset drive nothing. -/
theorem Valve.reset_duty : ∀ c ∈ Valve.reset.channels, c.duty = 0 := by decide

/-- A part without supply answers every command but POWER_ON and POWER_LOSS with its state as it was. -/
theorem exec_unpowered {s : State} (h : s.power = .off) {c : Instr} (hon : ∀ st p, c ≠ .powerOn st p)
    (hloss : c ≠ .powerLoss) : exec c s = .next s := by
  have hrequest : ∀ kind tag body len f, s.takeRequest kind tag body len f = s := by
    intro kind tag body len f
    simp [State.takeRequest, h]
  have hsees : ∀ b, s.sees b = false := by simp [State.sees, h]
  have htiming : ∀ b p, s.timing b p = false := by simp [State.timing, hsees]
  cases c
  case powerOn st p => exact absurd rfl (hon st p)
  case powerLoss => exact absurd rfl hloss
  all_goals
    first
    | exact congrArg Host.Outcome.next (hrequest _ _ _ _ _)
    | simp [exec, execFrameArrival, execFrameByteTimeout, execFrameTransmitStart, execPresenceTimeout,
        execResetReleased, execResetAsserted, execRestartReplySent, execStartUpEnd, execScanFrameArrival,
        execIndexStep, execStepTimeout, execReadyWaitTimeout, execPassTimeout, execRotationPulse,
        execRotationOverflow, execEStopAssert, execEStopInputMade, execEStopRelease, execMethaneActive,
        execMethaneInputInactive, execMethaneClear, execJackTimeout, execContactTimeout, execRetractTimeout,
        execPushTimeout, execMixMaxTime, execTorqueTimeout, execReleaseTimeout, execGelHoldExpiry,
        execFlushLossTimeout, execValveCurrentReading, execIndexHomeChange, execLenAbove240Discard, h, hsees, htiming]

/-- Settles O5. -/
theorem powerOnBeginsStartUp : Obligations.PowerOnBeginsStartUp := by
  intro st p s
  refine ⟨⟨_, rfl, rfl, rfl, rfl, rfl, rfl, rfl, rfl, rfl, rfl, Valve.reset_duty, rfl, rfl, rfl⟩,
    ⟨_, rfl, rfl, rfl, rfl, Valve.reset_duty⟩, fun h c hon hloss => exec_unpowered h hon hloss⟩

/-- Settles O6. -/
theorem startUpEndLeavesReset : Obligations.StartUpEndLeavesReset := by
  intro s h
  exact ⟨_, congrArg Host.Outcome.next (if_pos h), rfl, rfl, rfl, rfl, rfl, rfl, rfl, rfl, rfl, rfl, rfl, rfl, rfl, rfl⟩

/-- Settles O7. -/
theorem resetLineNeedsItsMark : Obligations.ResetLineNeedsItsMark := by
  intro s h
  refine ⟨congrArg Host.Outcome.next (if_neg h), fun ha => ?_, fun ha => ?_⟩
  · exact congrArg Host.Outcome.next ((if_neg h).trans (if_neg (by simp [ha])))
  · exact ⟨_, congrArg Host.Outcome.next ((if_neg h).trans (if_pos ha)), rfl, rfl, rfl, rfl, rfl, rfl, rfl, rfl,
      Valve.reset_duty⟩

/-! ### Requests that are not taken -/

theorem Link.join_room {l : Link} (h : l.inbound.length < 4) (f : Frame) :
    l.join f = { l with inbound := l.inbound ++ [f] } := if_pos h

theorem Link.join_full {l : Link} (h : 4 ≤ l.inbound.length) (f : Frame) :
    l.join f = { l with overrun := true } := if_neg (Nat.not_lt.mpr h)

/-- A running part that takes no request holds a frame as its line does (R204, R206). -/
theorem exec_requestOf_held {s : State} (hp : s.power = .running) (ht : s.takes = false) (k tag : Byte)
    (body : List Byte) : exec (requestOf k tag body) s =
      .next { s with link := s.link.join { kind := k, tag := tag, body := body } } := by
  have hrequest : ∀ (kind : Byte) len f, s.takeRequest kind tag body len f =
      { s with link := s.link.join { kind := kind, tag := tag, body := body } } := by
    intro kind len f
    simp [State.takeRequest, hp, ht, State.modLink]
  have hpick : ∀ (x : Byte) (c d : Instr),
      (exec c s = .next { s with link := s.link.join { kind := x, tag := tag, body := body } }) →
      (k ≠ x → exec d s = .next { s with link := s.link.join { kind := k, tag := tag, body := body } }) →
      exec (if k = x then c else d) s =
        .next { s with link := s.link.join { kind := k, tag := tag, body := body } } := by
    intro x c d hc hd
    split
    · next he => exact he ▸ hc
    · next hne => exact hd hne
  unfold requestOf
  iterate 30 refine hpick _ _ _ (congrArg Host.Outcome.next (hrequest _ _ _)) fun _ => ?_
  exact congrArg Host.Outcome.next (hrequest _ _ _)

theorem State.takes_restarting {s : State} (h : s.link.restarting = true) : s.takes = false := by
  simp [State.takes, h]

/-- Settles O8. -/
theorem restartIsTheLastRequest : Obligations.RestartIsTheLastRequest := by
  intro tag s
  refine ⟨fun hr => ?_, fun hp hre k body => ?_, fun hp hre hq => ?_⟩
  · exact congrArg Host.Outcome.next (State.takeRequest_ready hr rfl 0x05 tag State.answerRestart)
  · exact exec_requestOf_held hp (State.takes_restarting hre) k tag body
  · refine ⟨_, congrArg Host.Outcome.next (if_pos ?_), rfl, rfl, rfl, rfl, rfl, rfl, Valve.reset_duty⟩
    simp [hp, hre, hq]

/-- Settles O11. -/
theorem fullRepliesHoldRequests : Obligations.FullRepliesHoldRequests := by
  intro k tag body s hp hfull
  have he := exec_requestOf_held hp (by simp [State.takes, hfull, replyPlaces]) k tag body
  refine ⟨fun hroom => ?_, fun hnone => ?_⟩
  · rw [Link.join_room hroom] at he
    exact he
  · rw [Link.join_full hnone] at he
    exact he

/-- A request with a body of a wrong length is answered BAD_LENGTH (R205). -/
theorem State.takeRequest_badLength {s : State} (h : s.ready = true) {body : List Byte} {len : List Byte → Bool}
    (hl : len body = false) (kind tag : Byte) (f : State → Answer) :
    s.takeRequest kind tag body len f = s.reply kind tag .badLength [] := by
  simp only [State.ready, Bool.and_eq_true, decide_eq_true_eq] at h
  simp [State.takeRequest, h.1, h.2, hl]

/-- Settles O9. -/
theorem pingEchoes : Obligations.PingEchoes := by
  intro tag body s hr
  by_cases hl : body.length ≤ 32
  · rw [if_pos hl]
    exact congrArg Host.Outcome.next (State.takeRequest_ready hr (by simpa [pingLen] using hl) 0x01 tag _)
  · rw [if_neg hl]
    exact congrArg Host.Outcome.next (State.takeRequest_badLength hr (by simpa [pingLen] using hl) 0x01 tag _)

/-- Settles O10. -/
theorem badFramesAnswered : Obligations.BadFramesAnswered := by
  intro tag body s hr
  have hbad : ∀ {n : Nat}, body.length ≠ n → ∀ (kind : Byte) (f : State → Answer),
      Host.Outcome.next (ρ := Refusal) (φ := Fault) (s.takeRequest kind tag body (fixedLen n) f) =
        .next (s.reply kind tag .badLength []) := fun hn kind f =>
    congrArg Host.Outcome.next (State.takeRequest_badLength hr (by simpa [fixedLen] using hn) kind tag f)
  refine ⟨fun kind => ?_, fun h => ?_, fun h => ?_, fun h => ?_, fun h => hbad h _ _, fun h => hbad h _ _,
    fun h => hbad h _ _, fun h => hbad h _ _, fun h => hbad h _ _⟩
  · exact congrArg Host.Outcome.next (State.takeRequest_ready hr rfl kind tag fun s => s.refuse .unknownKind)
  · simp only [List.forall_mem_cons]
    exact ⟨hbad h _ _, hbad h _ _, hbad h _ _, hbad h _ _, hbad h _ _, hbad h _ _, hbad h _ _, hbad h _ _, by simp⟩
  · simp only [List.forall_mem_cons]
    exact ⟨hbad h _ _, hbad h _ _, hbad h _ _, hbad h _ _, hbad h _ _, hbad h _ _, hbad h _ _, hbad h _ _, by simp⟩
  · simp only [List.forall_mem_cons]
    exact ⟨hbad h _ _, hbad h _ _, hbad h _ _, hbad h _ _, by simp⟩

/-! ### The transmitter (R206, R207) -/

/-- The last part of a reply is the one with which its whole content is sent (R206). -/
theorem partCount_le_iff (n k : Nat) : partCount n ≤ k + 1 ↔ n ≤ 237 * (k + 1) := by
  unfold partCount partBytes
  omega

theorem Link.transmit_reply {l : Link} {r : Reply} {rest : List Reply} (h : l.replies = r :: rest) :
    l.transmit = { l with
      tx := r.frame l.status, dropped := false, overrun := false
      replies := if r.content.length ≤ 237 * (r.sent + 1) then rest else { r with sent := r.sent + 1 } :: rest } := by
  simp only [Link.transmit, h, partCount_le_iff]

/-- With no frame waiting, or none that is taken, the test of the inbound queue does nothing. -/
theorem State.drainInbound_idle {s : State} (h : s.link.inbound = [] ∨ s.takes = false) : s.drainInbound = s :=
  h.elim State.drainInbound_nil State.drainInbound_full

theorem exec_frameTransmitStart {s : State} (h : s.power = .running) :
    exec .frameTransmitStart s = .next (s.modLink Link.transmit).drainInbound :=
  congrArg Host.Outcome.next (if_pos h)

/-- The command that a frame stands for is taken by a ready part with one reply, and is answered by an owner that
queues none of its own. -/
theorem exec_requestOf_ready {s : State} (h : s.ready = true) (k tag : Byte) (body : List Byte) :
    ∃ t, exec (requestOf k tag body) s = .next t ∧ t.link.replies.length = s.link.replies.length + 1 := by
  rw [← runRequest_requestOf]
  rcases runRequest_cases (requestOf k tag body) with ⟨kind, tag', body', len, f, he, hf⟩ | he
  · refine ⟨_, he s, ?_⟩
    by_cases hl : len body' = true
    · have hre : (f s).1.link.replies = s.link.replies := congrArg Prod.fst (hf s).2
      rw [State.takeRequest_ready h hl, State.reply_replies, hre]
      simp
    · rw [State.takeRequest_badLength h (by simpa using hl), State.reply_replies]
      simp
  · have hno := (runRequest_requestOf k tag body { State.reset with
      link := { State.reset.link with restarting := true } }).symm.trans (he _)
    rw [exec_requestOf_held rfl (State.takes_restarting rfl)] at hno
    have hin := congrArg (fun t => t.link.inbound) (Host.Outcome.next.inj hno)
    rw [Link.join_room (by decide)] at hin
    simp [State.reset, State.afterReset, Link.started, Link.quiet] at hin

/-- A reply place freed in a full outbound queue lets the oldest waiting request be taken, and only that one
(R205, R206). -/
theorem State.drainInbound_one {s : State} (hp : s.power = .running) (hre : s.link.restarting = false)
    (h3 : s.link.replies.length = 3) {f : Frame} {fs : List Frame} (hin : s.link.inbound = f :: fs) :
    ∃ t, s.drainInbound = t ∧
      exec (requestOf f.kind f.tag f.body) (s.modLink fun l => { l with inbound := fs }) = .next t := by
  have ht : s.takes = true := by simp [State.takes, h3, hre, replyPlaces]
  have hready : (s.modLink fun l => { l with inbound := fs }).ready = true := by
    simp [State.ready, State.modLink, hp, State.takes, h3, hre, replyPlaces]
  obtain ⟨t, he, hlen⟩ := exec_requestOf_ready hready f.kind f.tag f.body
  have hfull : t.takes = false := by
    have h4 : t.link.replies.length = 4 := hlen.trans (congrArg (· + 1) h3)
    simp [State.takes, h4, replyPlaces]
  refine ⟨t, ?_, he⟩
  unfold State.drainInbound
  rw [hin, List.length_cons, State.takeWaiting, State.takeHeadFrame_cons hin ht he, State.takeWaiting_full hfull]

/-- Settles O15. -/
theorem transmitterSendsHead : Obligations.TransmitterSendsHead := by
  intro s hp sent
  refine ⟨fun r rest hr => ⟨fun hidle => ?_, fun h4 hre hlast f fs hin => ?_⟩, fun r rest hr hq hidle => ?_,
    fun hq hr hidle => ?_⟩
  · have hs : s.modLink Link.transmit = sent r rest :=
      congrArg (fun l => { s with link := l }) (Link.transmit_reply hr)
    rw [exec_frameTransmitStart hp, hs, State.drainInbound_idle hidle]
  · have hs : s.modLink Link.transmit = sent r rest :=
      congrArg (fun l => { s with link := l }) (Link.transmit_reply hr)
    have h3 : (sent r rest).link.replies.length = 3 := by
      rw [hr, List.length_cons] at h4
      simp only [sent, if_pos hlast]
      omega
    obtain ⟨t, hd, he⟩ := State.drainInbound_one (s := sent r rest) hp hre h3 hin
    exact ⟨t, by rw [exec_frameTransmitStart hp, hs, hd], he⟩
  · have hs : s.modLink Link.transmit = { s with link := { s.link with
        tx := r.frame s.link.status, dropped := false, overrun := false, reports := rest } } := by
      simp only [State.modLink, Link.transmit, hq, hr]
    rw [exec_frameTransmitStart hp, hs]
    exact congrArg Host.Outcome.next (State.drainInbound_idle (by simpa [State.takes] using hidle))
  · have hs : s.modLink Link.transmit = s := by
      simp only [State.modLink, Link.transmit, hq, hr]
    rw [exec_frameTransmitStart hp, hs, State.drainInbound_idle hidle]

/-! ### The receiver (R203, R204) -/

theorem Link.join_cases (l : Link) (f : Frame) : ∃ i o, l.join f = { l with inbound := i, overrun := o } := by
  unfold Link.join
  split
  · exact ⟨_, _, rfl⟩
  · exact ⟨_, _, rfl⟩

theorem Link.join_replies (l : Link) (f : Frame) : (l.join f).replies = l.replies := by
  obtain ⟨i, o, he⟩ := l.join_cases f
  rw [he]

theorem Link.join_restarting (l : Link) (f : Frame) : (l.join f).restarting = l.restarting := by
  obtain ⟨i, o, he⟩ := l.join_cases f
  rw [he]

theorem Link.join_rx (l : Link) (f : Frame) : (l.join f).rx = l.rx := by
  obtain ⟨i, o, he⟩ := l.join_cases f
  rw [he]

/-- Hunting passes over bytes without a SYNC. -/
theorem hunt_no_sync (cut : Bool) (fuel : Nat) {l : List Byte} (h : sync ∉ l) : hunt cut fuel l = ([], []) := by
  induction fuel generalizing l with
  | zero => rfl
  | succ n ih =>
    cases l with
    | nil => rfl
    | cons x xs =>
      rw [List.mem_cons, not_or] at h
      simp only [hunt, ne_eq, Ne.symm h.1, not_false_eq_true, if_true, ih h.2]

/-- After more than 5 ms no byte of a frame not yet whole is held (R204). -/
theorem hunt_cut_rest (fuel : Nat) (l : List Byte) : (hunt true fuel l).2 = [] := by
  induction fuel generalizing l with
  | zero => rfl
  | succ n ih =>
    cases l with
    | nil => rfl
    | cons x rest =>
      simp only [hunt]
      split
      · exact ih _
      · split
        · rfl
        · split
          · exact ih _
          · split
            · exact ih _
            · split
              · exact ih _
              · exact ih _

/-- The taking of a request, its refusal and its wait leave the bytes the receiver holds. -/
theorem runRequest_rx {c : Instr} {s t : State} (h : runRequest c s = .next t) : t.link.rx = s.link.rx := by
  rcases runRequest_cases c with ⟨kind, tag, body, len, f, he, hf⟩ | he
  · obtain rfl := Host.Outcome.next.inj ((he s).symm.trans h)
    have hans : (f s).1.link.rx = s.link.rx := congrArg Prod.snd (hf s).2
    unfold State.takeRequest
    split
    · rfl
    · split
      · exact s.link.join_rx _
      · split
        · rfl
        · exact hans
  · obtain rfl := Host.Outcome.next.inj ((he s).symm.trans h)
    rfl

theorem State.takeHeadFrame_rx (s : State) : s.takeHeadFrame.link.rx = s.link.rx := by
  unfold State.takeHeadFrame
  split
  · split
    · split
      · next ht => exact (runRequest_rx ht).trans rfl
      · rfl
    · rfl
  · rfl

theorem State.takeWaiting_rx (n : Nat) (s : State) : (State.takeWaiting n s).link.rx = s.link.rx := by
  induction n generalizing s with
  | zero => rfl
  | succ n ih => exact (ih _).trans s.takeHeadFrame_rx

/-! A good frame restarts the presence timer and clears SILENCE with its report (R204, R209). -/

/-- The state in which a good frame joins the inbound queue. -/
def State.heard (s : State) : State :=
  let u := s.modLink fun l => { l with presence := .start, silence := false }
  if s.link.silence then u.report (.interlock (.silence false)) else u

theorem State.frameGood_eq (s : State) (f : Frame) :
    s.frameGood f = (s.heard.modLink fun l => l.join f).drainInbound := rfl

/-- What is heard moves only the line, and of it neither the queues of requests and replies nor the receiver. -/
theorem State.heard_line (s : State) : ∃ p q d, s.heard =
    { s with link := { s.link with presence := p, silence := false, reports := q, dropped := d } } := by
  have hreport : ∀ (l : Link) (r : Report), ∃ q d, (if l.reports.length < reportPlaces then
      { l with reports := l.reports ++ [r] } else { l with dropped := true }) = { l with reports := q, dropped := d } := by
    intro l r
    split
    · exact ⟨_, _, rfl⟩
    · exact ⟨_, _, rfl⟩
  unfold State.heard
  dsimp only
  split
  · obtain ⟨q, d, he⟩ := hreport { s.link with presence := .start, silence := false } (.interlock (.silence false))
    exact ⟨_, q, d, congrArg (fun l => { s with link := l }) he⟩
  · exact ⟨_, _, _, rfl⟩

theorem State.frameGood_rx (s : State) (f : Frame) : (s.frameGood f).link.rx = s.link.rx := by
  obtain ⟨p, q, d, he⟩ := s.heard_line
  rw [State.frameGood_eq, State.drainInbound, State.takeWaiting_rx, he]
  exact Link.join_rx _ f

/-- A good frame that arrives while no request is taken changes nothing but the line, and queues no reply. -/
theorem State.frameGood_held {s : State} (h : s.takes = false) (f : Frame) :
    ∃ l, s.frameGood f = { s with link := l } ∧ l.replies = s.link.replies ∧ l.restarting = s.link.restarting := by
  obtain ⟨p, q, d, he⟩ := s.heard_line
  have hno : (s.heard.modLink fun l => l.join f).takes = false := by
    rw [he]
    simpa only [State.takes, State.modLink, Link.join_replies, Link.join_restarting] using h
  rw [State.frameGood_eq, State.drainInbound_full hno, he]
  exact ⟨_, rfl, Link.join_replies _ f, Link.join_restarting _ f⟩

/-- Frames that arrive in a row leave the receiver. -/
theorem State.foldl_frameGood_rx (fs : List Frame) (s : State) :
    (fs.foldl State.frameGood s).link.rx = s.link.rx := by
  induction fs generalizing s with
  | nil => rfl
  | cons f fs ih => exact (ih _).trans (s.frameGood_rx f)

/-- Frames that arrive in a row while no request is taken change nothing but the line. -/
theorem State.foldl_frameGood_held (fs : List Frame) {s : State} (h : s.takes = false) :
    ∃ l, fs.foldl State.frameGood s = { s with link := l } ∧ l.replies = s.link.replies := by
  induction fs generalizing s with
  | nil => exact ⟨s.link, rfl, rfl⟩
  | cons f fs ih =>
    obtain ⟨l, he, hre, hrs⟩ := State.frameGood_held h f
    rw [List.foldl_cons, he]
    obtain ⟨l', he', hre'⟩ := ih (s := { s with link := l }) (by simpa only [State.takes, hre, hrs] using h)
    exact ⟨l', he', hre'.trans hre⟩

/-- Settles O14. -/
theorem discardLeavesHunting : Obligations.DiscardLeavesHunting := by
  intro s hp
  have htimeout : exec .frameByteTimeout s =
      .next ((s.modLink fun l => { l with rx := l.rx.drop 1 }).receive true []) :=
    congrArg Host.Outcome.next (if_pos hp)
  refine ⟨⟨_, htimeout, ?_⟩, fun hno => ?_, fun len hlen hrx => ?_⟩
  · unfold State.receive
    dsimp only
    rw [hunt_cut_rest]
    refine ⟨(State.foldl_frameGood_rx _ _).trans rfl, fun h => ?_⟩
    generalize hs : State.modLink (State.modLink s _) _ = u
    have hu : u.takes = false := by rw [← hs]; exact h
    obtain ⟨l, he, hre⟩ := State.foldl_frameGood_held (hunt true (((s.modLink _).link.rx ++ []).length + 1) _).1 hu
    rw [he, ← hs]
    exact ⟨rfl, hre.trans (by rw [← hs]; rfl)⟩
  · rw [htimeout]
    have hh : ∀ fuel, hunt true fuel (s.link.rx.drop 1 ++ []) = ([], []) := fun fuel =>
      hunt_no_sync true fuel (by rwa [List.append_nil])
    simp only [State.receive, State.modLink, hh]
    rfl
  · have h240 : maxLen < len.toNat := hlen
    have hns : len ≠ sync := by
      rintro rfl
      exact absurd hlen (by decide)
    have hh : hunt false 3 [sync, len] = ([], []) := by
      simp [hunt, h240, hns]
    have hbytes : s.link.rx ++ (if s.link.rx = [sync] then [len] else [sync, len]) = [sync, len] := by
      rcases hrx with hrx | hrx <;> simp [hrx]
    refine (congrArg Host.Outcome.next (if_pos (by simp [hp, h240]))).trans ?_
    simp only [State.receive, hbytes, List.length_cons, List.length_nil, hh]
    rfl

/-- The bytes of a frame with a body of up to 240 bytes: SYNC, LEN, KIND, TAG, the body and the check (R203). -/
theorem frameOf_eq (k tag : Byte) (body : List Byte) : frameOf k tag body =
    sync :: BitVec.ofNat 8 body.length :: k :: tag ::
      (body ++ checkBytes (BitVec.ofNat 8 body.length :: k :: tag :: body)) := rfl

theorem frameOf_length (k tag : Byte) (body : List Byte) :
    (frameOf k tag body).length = frameLength body.length := by
  simp only [frameOf_eq, frameLength, List.length_cons, List.length_append]
  rfl

theorem ofNat_length_toNat {body : List Byte} (h : body.length ≤ 240) :
    (BitVec.ofNat 8 body.length).toNat = body.length :=
  BitVec.toNat_ofNat _ _ ▸ Nat.mod_eq_of_lt (by omega)

/-- The bytes of a frame spell it, with a body of up to 240 bytes (R203). -/
theorem readFrame_frameOf (k tag : Byte) {body : List Byte} (h : body.length ≤ 240) :
    readFrame (frameOf k tag body) = some { kind := k, tag := tag, body := body } := by
  have hn : byteAt (frameOf k tag body) 1 = body.length := ofNat_length_toNat h
  unfold readFrame
  rw [hn, frameOf_eq]
  have hcheck : (checkBytes (BitVec.ofNat 8 body.length :: k :: tag :: body)).take 2 =
      checkBytes (BitVec.ofNat 8 body.length :: k :: tag :: body) := rfl
  simp [hcheck]

/-- A hunt that begins with a whole frame finds it, and after it holds no byte. -/
theorem hunt_frameOf (k tag : Byte) {body : List Byte} (h : body.length ≤ 240) (fuel : Nat) :
    hunt false (fuel + 1) (frameOf k tag body) = ([{ kind := k, tag := tag, body := body }], []) := by
  have hlen := ofNat_length_toNat h
  have hmax : ¬ maxLen < body.length := Nat.not_lt.mpr h
  have hread := readFrame_frameOf k tag h
  have hwhole := frameOf_length k tag body
  have hdrop : (frameOf k tag body).drop (frameLength body.length) = [] := by rw [← hwhole, List.drop_length]
  have hrest : hunt false fuel [] = ([], []) := by cases fuel <;> rfl
  rw [frameOf_eq] at hread hwhole hdrop ⊢
  simp only [hunt, ne_eq, not_true_eq_false, if_false, hlen, hmax, hwhole, Nat.lt_irrefl, hread, hdrop, hrest]

/-- A good frame that finds the inbound queue empty, or no request taken, does what its request does (R204, R205). -/
theorem State.frameGood_eq_request {s : State} (hp : s.power = .running)
    (h : s.link.inbound = [] ∨ s.takes = false) (f : Frame) :
    exec (requestOf f.kind f.tag f.body) s.heard = .next (s.frameGood f) := by
  obtain ⟨p, q, d, he⟩ := s.heard_line
  have hheard : s.heard.power = .running ∧ s.heard.link.inbound = s.link.inbound ∧ s.heard.takes = s.takes := by
    rw [he]; exact ⟨hp, rfl, rfl⟩
  obtain ⟨hpow, hin, htk⟩ := hheard
  have hjoined : (s.heard.modLink fun l => l.join f).takes = s.takes := by
    rw [← htk]
    simp only [State.takes, State.modLink, Link.join_replies, Link.join_restarting]
  rw [State.frameGood_eq]
  by_cases ht : s.takes = true
  · have hin0 : s.heard.link.inbound = [] := hin.trans (h.resolve_right (by simp [ht]))
    have hj : s.heard.link.join f = { s.heard.link with inbound := [f] } := by
      rw [Link.join_room (by simp [hin0]), hin0]
      rfl
    obtain ⟨t, hreq, -⟩ := exec_requestOf_ready (s := s.heard) (by simp [State.ready, hpow, htk, ht]) f.kind f.tag f.body
    have hback : ((s.heard.modLink fun l => l.join f).modLink fun l => { l with inbound := [] }) = s.heard := by
      simp only [State.modLink, hj, ← hin0]
    have hjin : (s.heard.modLink fun l => l.join f).link.inbound = [f] := congrArg Link.inbound hj
    have hhead : (s.heard.modLink fun l => l.join f).takeHeadFrame = t :=
      State.takeHeadFrame_cons hjin (hjoined.trans ht) (by rw [hback]; exact hreq)
    rw [hreq, State.drainInbound, hjin, List.length_singleton, State.takeWaiting, hhead]
    rfl
  · have hno : s.takes = false := by simpa using ht
    rw [State.drainInbound_full (hjoined.trans hno)]
    exact exec_requestOf_held hpow (htk.trans hno) _ _ _

/-- Settles O13. -/
theorem frameReceivedWhole : Obligations.FrameReceivedWhole := by
  intro k tag body s hp hrx hlen hidle
  have hreceived : s.receive false (frameOf k tag body) =
      (s.modLink fun l => { l with rx := [], rxGap := .zero }).frameGood { kind := k, tag := tag, body := body } := by
    simp only [State.receive, hrx, List.nil_append, hunt_frameOf k tag hlen]
    rfl
  refine ⟨s.receive false (frameOf k tag body), congrArg Host.Outcome.next (if_pos hp), ?_⟩
  rw [hreceived]
  exact State.frameGood_eq_request (s := s.modLink fun l => { l with rx := [], rxGap := .zero }) hp hidle
    { kind := k, tag := tag, body := body }

end Sys2Proof.Machine

section
namespace Sys2Proof.Machine

/-! The proofs are elaborated one after another: side by side, so many ask for more threads than the memory holds. -/
set_option Elab.async false

/-! ### The answer of a request that is taken -/

/-- A ready part answers a request of the right length with what its owner answers (R205). -/
theorem State.answered {s t : State} (h : s.ready = true) {body : List Byte} {len : List Byte → Bool}
    (hl : len body = true) {kind tag : Byte} {f : State → Answer} {r : Result} {c : List Byte}
    (hf : f s = (t, r, c)) :
    Host.Outcome.next (ρ := Refusal) (φ := Fault) (s.takeRequest kind tag body len f) =
      .next (t.reply kind tag r c) := by
  rw [State.takeRequest_ready h hl, hf]

theorem fixedLen_iff {n : Nat} {body : List Byte} : fixedLen n body = true ↔ body.length = n := by
  simp [fixedLen]

/-! ### The Completed Hole Queue (R196) -/

/-- Settles O52. -/
theorem releaseHoleFreesItsPlace : Obligations.ReleaseHoleFreesItsPlace := by
  intro tag body s hr hl n rest
  have hlen := fixedLen_iff.mpr hl
  refine ⟨fun hmem => State.answered hr hlen (if_pos ?_), fun hnone => State.answered hr hlen (if_neg ?_)⟩
  · simpa using hmem
  · simpa using hnone

/-! ### The Bit Table (R200) -/

theorem modify_of_getElem? {α : Type} {l : List α} {p : Nat} {x : α} (h : l[p]? = some x) (f : α → α) :
    l.modify p f = l.set p (f x) := by
  refine List.ext_getElem? fun i => ?_
  rw [List.getElem?_modify, List.getElem?_set]
  by_cases hi : p = i
  · subst hi
    rw [if_pos rfl, if_pos (List.getElem?_eq_some_iff.1 h).1, h]
    exact congrArg some (if_pos rfl)
  · rw [if_neg hi]
    simp only [if_neg hi, Option.map_eq_map, Option.map_id_fun', id_eq]

theorem State.modBit_eq_set {s : State} {p : Nat} (h : p < s.bits.length) (f : BitPos → BitPos) :
    s.modBit p f = { s with bits := s.bits.set p (f (s.bitAt p)) } := by
  have hmod : s.bits.modify p f = s.bits.set p (f (s.bitAt p)) := by
    rw [modify_of_getElem? (List.getElem?_eq_getElem h), List.getElem_eq_getD]
    rfl
  exact congrArg (fun l => { s with bits := l }) hmod

theorem State.fittedPos_some {s : State} {b : Boom} {k : Nat} (h : s.fittedPos b = some k) :
    k < 8 ∧ (s.bitAt k).state = .fitted b := by
  refine ⟨List.mem_range.mp (List.mem_of_find?_eq_some h), ?_⟩
  simpa using List.find?_some h

/-- The state of a bit that leaves its boom, by its wear (R200). -/
theorem State.offState_eq (s : State) (w : Nat) :
    s.offState w = if s.live P.bitWearLimit * 1000000 ≤ w then BitState.retired else .serviceable := by
  simp only [State.offState, State.wornOut, decide_eq_true_eq]

section
variable {tag : Byte} {body : List Byte} {s : State} {b : Boom}

theorem State.answerBitFitted_refused (hb : s.boomAt body 0 = some b) (hp : byteAt body 1 ≤ 7)
    (h : ¬((s.seq.get b).state = .idle ∨ (s.seq.get b).state = .manual) ∨
      (s.bitAt (byteAt body 1)).state ≠ .serviceable) : s.answerBitFitted body = (s, .state, []) := by
  simp only [State.answerBitFitted, hb, if_neg (Nat.not_lt.mpr hp), State.refuse]
  by_cases hfree : (s.seq.get b).state = .idle ∨ (s.seq.get b).state = .manual
  · have hstate := h.resolve_left fun hn => hn hfree
    simp [hstate]
  · rw [not_or] at hfree
    simp [hfree.1, hfree.2]

theorem State.answerBitFitted_taken (hb : s.boomAt body 0 = some b) (hp : byteAt body 1 ≤ 7)
    (hfree : (s.seq.get b).state = .idle ∨ (s.seq.get b).state = .manual)
    (hserv : (s.bitAt (byteAt body 1)).state = .serviceable) :
    s.answerBitFitted body = ((s.takeOffBit b).modBit (byteAt body 1) fun x => { x with state := .fitted b }, .ok,
      u8 (byteAt body 1) ++ s.previousBytes b) := by
  simp only [State.answerBitFitted, hb, if_neg (Nat.not_lt.mpr hp)]
  rcases hfree with hfree | hfree <;> simp [hfree, hserv]

end

/-- Settles O53. -/
theorem bitFittedSwapsTheBits : Obligations.BitFittedSwapsTheBits := by
  intro tag body s hr hl h8 p
  have hlen := fixedLen_iff.mpr hl
  refine ⟨?absent, ?present⟩
  case absent =>
    intro hb
    refine State.answered hr hlen ?_
    simp only [State.answerBitFitted, hb, State.refuse]
  case present =>
    intro b hb free
    refine ⟨fun hp => State.answered hr hlen ?_, fun hp h =>
      State.answered hr hlen (State.answerBitFitted_refused hb hp h), ?_⟩
    · have hrange : 7 < byteAt body 1 := hp
      simp only [State.answerBitFitted, hb, State.refuse, if_pos hrange]
    intro hp hfree hserv off old new prev
    have hp8 : p < s.bits.length := by omega
    refine State.answered hr hlen ((State.answerBitFitted_taken hb hp hfree hserv).trans ?_)
    have hoff : ∀ k, { s.bitAt k with state := s.offState (s.bitAt k).wear } = off k := fun k => by
      simp only [off, State.offState_eq]
    cases hk : s.fittedPos b with
    | none =>
      have htake : s.takeOffBit b = s := by simp only [State.takeOffBit, hk]
      have hprev : s.previousBytes b = prev := by simp only [State.previousBytes, hk, prev]; rfl
      have hold : old = s.bits := by simp only [old, hk]
      rw [htake, hprev, State.modBit_eq_set hp8]
      simp only [new, hold]
      rfl
    | some k =>
      obtain ⟨hk8, hfit⟩ := State.fittedPos_some hk
      have hkp : k ≠ p := by
        rintro rfl
        rw [hfit] at hserv
        cases hserv
      have hold : old = s.bits.set k (off k) := by simp only [old, hk]
      have htake : s.takeOffBit b = { s with bits := old } := by
        simp only [State.takeOffBit, hk]
        rw [State.modBit_eq_set (by omega), hoff, hold]
      have hprev : s.previousBytes b = prev := by
        simp only [State.previousBytes, hk, prev, ← hoff]
        rfl
      have hat : ({ s with bits := old } : State).bitAt p = s.bitAt p := by
        simp only [State.bitAt, hold, List.getD_eq_getElem?_getD, List.getElem?_set_ne hkp]
      rw [htake, hprev, State.modBit_eq_set (by simpa [hold] using hp8), hat]

/-- The Bit Rack at a close moves the hole's bit alone, and else queues a report (R199). -/
theorem State.bitClose_eq {s : State} {k : Nat} {p : BitPos} (hk : s.bits[k]? = some p) (b : Boom) :
    ∃ l, s.bitClose b k = { s with link := l, bits := s.bits.set k { p with
      holes := min 65535 (p.holes + 1)
      state := if s.live P.bitWearLimit * 1000000 ≤ p.wear then .retired else p.state } } := by
  have hlt : k < s.bits.length := (List.getElem?_eq_some_iff.mp hk).1
  have hat : ∀ {l : List BitPos} {x : BitPos}, k < l.length → ({ s with bits := l.set k x } : State).bitAt k = x := by
    intro l x hl
    simp [State.bitAt, hl]
  have hp : s.bitAt k = p := by simp [State.bitAt, hk]
  have hcount : s.modBit k (fun x => { x with holes := min 65535 (x.holes + 1) }) =
      { s with bits := s.bits.set k { p with holes := min 65535 (p.holes + 1) } } := by
    rw [State.modBit_eq_set hlt, hp]
  unfold State.bitClose
  rw [hcount]
  dsimp only
  rw [hat hlt]
  have hworn : ∀ t : State, t.params = s.params →
      (t.wornOut p.wear = true ↔ s.live P.bitWearLimit * 1000000 ≤ p.wear) := by
    intro t ht
    simp only [State.wornOut, State.live, ht, decide_eq_true_eq]
  split
  · next hw =>
    rw [if_pos ((hworn _ rfl).mp hw), State.modBit_eq_set (by simpa using hlt), hat hlt]
    exact ⟨_, by simp only [List.set_set]; rfl⟩
  · next hw =>
    rw [if_neg fun h => hw ((hworn _ rfl).mpr h)]
    exact ⟨s.link, rfl⟩

/-- The outcome of R194: of a verdict COMPLETE when it is OK and no flag is set. -/
theorem HoleRecord.derive_verdict (r : HoleRecord) :
    r.derive (some .verdict) =
      if (∃ x, r.torque = some x ∧ x.verdict = some .ok) ∧ ¬ (r.profileFull = true ∨
        ∃ x, r.plan = some x ∧ (x.flags.anchorWeak = true ∨ x.flags.shortResin = true))
      then HoleOutcome.complete else .completeFlagged := by
  unfold HoleRecord.derive
  cases r.plan <;> cases r.torque <;> simp
  grind

/-- Settles O51. -/
theorem closedHoleJoinsTheQueue : Obligations.ClosedHoleJoinsTheQueue := by
  intro s b c why r p hrec hp flagged okVerdict out t
  have hout : r.derive (some c) = out := by
    cases c with
    | verdict => exact r.derive_verdict
    | aborted => rfl
    | faulted => rfl
  have hwhy : (if out = HoleOutcome.faulted then why else none) = if c = .faulted then why else none := by
    have hiff : out = HoleOutcome.faulted ↔ c = .faulted := by
      cases c <;> simp [out]
      split <;> simp
    simp only [hiff]
  have ht : ∃ l, t = State.bitClose { s with
      link := l
      store := { s.store with
        opened := s.store.opened.set b none
        queue := s.store.queue ++ [{ r with outcome := some out, haltReason := if c = .faulted then why else none }] } }
      b r.bitPos := by
    simp only [t, State.closeRecord, hrec, hout, hwhy]
    exact ⟨_, rfl⟩
  obtain ⟨l, ht⟩ := ht
  obtain ⟨l', hb⟩ := State.bitClose_eq (s := { s with
      link := l
      store := { s.store with
        opened := s.store.opened.set b none
        queue := s.store.queue ++ [{ r with outcome := some out, haltReason := if c = .faulted then why else none }] } })
    hp b
  rw [ht, hb]
  exact ⟨rfl, rfl, rfl, rfl, rfl, rfl, rfl, rfl⟩

/-! ### SET_CHANNEL (R161) -/

theorem Settings.stored_eq (x : Settings) : x.stored =
    { dmin := min 500 x.dmin, dmax := max (min 500 x.dmin + 1) (min 1000 x.dmax), qmax := max 10 (min 3000 x.qmax)
      high := x.high, openTh := min (min 2000 (max 200 (min 5000 x.shortTh) - 50)) x.openTh
      shortTh := max 200 (min 5000 x.shortTh) } := by
  simp only [Settings.stored, clampTo, Nat.zero_max]

theorem Valve.channel_modChannel {v : Valve} {n : Nat} (h : n < v.channels.length) (f : Channel → Channel) :
    (v.modChannel n f).channel n = f (v.channel n) := by
  simp [Valve.channel, Valve.modChannel, List.getD_eq_getElem?_getD, h]

theorem State.answerSetChannel_taken (s : State) {body : List Byte} (h : byteAt body 0 ≤ 19)
    (h7 : byteAt body 7 ≤ 1) :
    s.answerSetChannel body =
      (let f := fun c : Channel => c.withSettings (settingsAt body).stored
       (s.finish (s.modValve fun v => v.modChannel (byteAt body 0) f),
        if (settingsAt body).stored = settingsAt body then .ok else .clamped,
        ((s.valve.modChannel (byteAt body 0) f).channel (byteAt body 0)).settings)) := by
  have hneg : ¬ (19 < byteAt body 0 || 1 < byteAt body 7) = true := by
    simp only [Bool.or_eq_true, decide_eq_true_eq]
    omega
  exact if_neg hneg

/-- Settles O43. -/
theorem setChannelClamps : Obligations.SetChannelClamps := by
  intro tag body s hr hcalm hl h20 n
  have hlen := fixedLen_iff.mpr hl
  refine ⟨fun hbad => State.answered hr hlen (if_pos (by simpa using hbad)), ?_⟩
  intro hn hpol dmin dmax qmax short opn same set
  have hlt : n < s.valve.channels.length := by omega
  have hstored : (settingsAt body).stored =
      { dmin := dmin, dmax := dmax, qmax := qmax, high := byteAt body 7 == 0, openTh := opn, shortTh := short } := by
    rw [Settings.stored_eq]
    rfl
  have hsame : (settingsAt body).stored = settingsAt body ↔ same := by
    rw [hstored]
    simp [settingsAt, same, Bool.beq_eq_decide_eq]
  have hset : (fun c : Channel => c.withSettings (settingsAt body).stored) = set := by
    funext c
    rw [hstored]
    rfl
  have hbytes : (((s.valve.modChannel n set).channel n)).settings =
      u16 dmin ++ u16 dmax ++ u16 qmax ++ u8 (byteAt body 7) ++ u16 opn ++ u16 short := by
    rw [Valve.channel_modChannel hlt]
    have hhigh : (if (byteAt body 7 == 0) = true then 0 else 1) = byteAt body 7 := by
      simp only [beq_iff_eq]
      split <;> omega
    simp only [Channel.settings, set, hhigh]
  have hresult : (if (settingsAt body).stored = settingsAt body then Result.ok else .clamped) =
      if same then .ok else .clamped := ite_congr (propext hsame) (fun _ => rfl) fun _ => rfl
  have hans : s.answerSetChannel body =
      (s.finish { s with valve := { s.valve with channels := s.valve.channels.modify n set } },
        if same then .ok else .clamped,
        u16 dmin ++ u16 dmax ++ u16 qmax ++ u8 (byteAt body 7) ++ u16 opn ++ u16 short) := by
    rw [State.answerSetChannel_taken s hn hpol]
    dsimp only
    rw [hset, hresult, hbytes]
    rfl
  have hends := State.finish_ends (s0 := s) (s := s.modValve fun v => v.modChannel n set) hcalm
  exact ⟨_, State.answered hr hlen hans, hends.reply _ _ _ _⟩

/-! ### SET_BANDS (R81) -/

/-- Bands are in order from `prev` on when each is good and at or below the one before it. -/
theorem bandsGood_iff (prev : Nat) (l : List (Option Band)) : bandsGood prev l = true ↔
    (∀ x ∈ l, ∃ y, x = some y ∧ y.top < y.bottom ∧ y.bottom ≤ 2600) ∧
      (l.filterMap id).Pairwise (fun x y => x.bottom ≤ y.top) ∧ ∀ y ∈ l.filterMap id, prev ≤ y.top := by
  induction l generalizing prev with
  | nil => simp [bandsGood]
  | cons o l ih =>
    cases o with
    | none => simp [bandsGood]
    | some x =>
      simp only [bandsGood, Bool.and_eq_true, decide_eq_true_eq, ih, List.forall_mem_cons, List.filterMap_cons, id,
        List.pairwise_cons]
      constructor
      · rintro ⟨⟨⟨htop, hbot⟩, hprev⟩, hgood, hpair, hafter⟩
        refine ⟨⟨⟨x, rfl, htop, hbot⟩, hgood⟩, ⟨hafter, hpair⟩, hprev, fun y hy => ?_⟩
        have := hafter y hy
        omega
      · rintro ⟨⟨⟨y, hy, htop, hbot⟩, hgood⟩, ⟨hafter, hpair⟩, hprev, -⟩
        obtain rfl := Option.some.inj hy
        exact ⟨⟨⟨htop, hbot⟩, hprev⟩, hgood, hpair, hafter⟩

theorem chunks_length (n k : Nat) (l : List Byte) : (chunks n k l).length = k := by
  induction k generalizing l with
  | zero => rfl
  | succ k ih => simp [chunks, ih]

/-- A list without an absent entry is the list of its entries. -/
theorem length_filterMap_id {α : Type} {l : List (Option α)} (h : ∀ x ∈ l, ∃ y, x = some y) :
    (l.filterMap id).length = l.length := by
  induction l with
  | nil => rfl
  | cons o l ih =>
    obtain ⟨⟨y, rfl⟩, hl⟩ := List.forall_mem_cons.mp h
    exact congrArg (· + 1) (ih hl)

/-- Settles O34. -/
theorem setBandsReplacesTheTable : Obligations.SetBandsReplacesTheTable := by
  intro tag body s hr hlen
  refine ⟨fun hb => State.answered hr hlen (by simp only [State.answerSetBands, hb, State.refuse]), ?_⟩
  intro b hb sent good
  have hgood : bandsGood 0 (bandList body) = true ↔
      (∀ x ∈ sent, ∃ y, x = some y ∧ y.top < y.bottom ∧ y.bottom ≤ 2600) ∧
        (sent.filterMap id).Pairwise (fun x y => x.bottom ≤ y.top) := by
    rw [bandsGood_iff]
    simp [sent]
  refine ⟨fun hbad => State.answered hr hlen ?refused, ?_⟩
  case refused =>
    simp only [State.answerSetBands, hb, State.refuse]
    by_cases h8 : 8 < byteAt body 1
    · rw [if_pos h8]
    · have hnot : ¬ bandsGood 0 (bandList body) = true := fun h => hbad ⟨Nat.not_lt.mp h8, hgood.mp h⟩
      rw [if_neg h8, if_pos (by simpa using hnot)]
  rintro ⟨h8, hall⟩ l
  have hl : l = (sent.filterMap id).map Band.clamped := rfl
  refine ⟨?_, State.answered hr hlen ?_⟩
  · have hsome : ∀ x ∈ sent, ∃ y, x = some y := fun x hx => by
      obtain ⟨y, hy, -⟩ := hall.1 x hx
      exact ⟨y, hy⟩
    rw [hl, List.length_map, length_filterMap_id hsome, show sent = bandList body from rfl, bandList,
      List.length_map, chunks_length]
  · simp only [State.answerSetBands, hb, if_neg (Nat.not_lt.mpr h8), hgood.mpr hall, Bool.not_true,
      Bool.false_eq_true, if_false]
    rfl

/-! ### The checks of START_HOLE and DECIDE (R3, R12) -/

theorem choiceOfByte_none {v : Nat} (h : 3 < v) : choiceOfByte v = none := by
  obtain ⟨k, rfl⟩ := Nat.exists_eq_add_of_lt h
  rw [Nat.add_comm 3, Nat.add_assoc]
  rfl

theorem choiceOfByte_some {v : Nat} (h : v ≤ 3) : ∃ c, choiceOfByte v = some c := by
  match v, h with
  | 0, _ => exact ⟨_, rfl⟩
  | 1, _ => exact ⟨_, rfl⟩
  | 2, _ => exact ⟨_, rfl⟩
  | 3, _ => exact ⟨_, rfl⟩

theorem Spec.inRange_iff (x : Spec) : x.inRange = true ↔
    300 ≤ x.planned ∧ x.planned ≤ 2500 ∧ 200 ≤ x.holeDia ∧ x.holeDia ≤ 450 ∧
      300 ≤ x.boltLen ∧ x.boltLen ≤ 2600 ∧ 120 ≤ x.boltDia ∧ x.boltDia ≤ 300 ∧
      x.boltDia + 20 ≤ x.holeDia ∧ 1 ≤ x.fastCount ∧ x.fastCount ≤ 3 := by
  simp only [Spec.inRange, Bool.and_eq_true, decide_eq_true_eq, and_assoc]

theorem State.bitUsable_iff (s : State) (b : Boom) : s.bitUsable b = true ↔
    ∃ p, s.fittedPos b = some p ∧ (s.bitAt p).wear < s.live P.bitWearLimit * 1000000 := by
  unfold State.bitUsable
  cases s.fittedPos b with
  | none => simp
  | some p => simp [State.wornOut]

section
variable {s : State} {body : List Byte} {b : Boom}

theorem State.answerDecide_range (hb : s.boomAt body 0 = some b) (h : choiceOfByte (byteAt body 1) = none) :
    s.answerDecide body = (s, .range, []) := by
  simp only [State.answerDecide, hb, h, State.refuse]

theorem State.answerDecide_state {c : Choice} (hb : s.boomAt body 0 = some b)
    (hc : choiceOfByte (byteAt body 1) = some c) (h : (s.seq.get b).state ≠ .awaitDecision) :
    s.answerDecide body = (s, .state, []) := by
  simp only [State.answerDecide, hb, hc, State.refuse, if_pos h]

theorem State.answerDecide_notChoice {c : Choice} (hb : s.boomAt body 0 = some b)
    (hc : choiceOfByte (byteAt body 1) = some c) (h : (s.seq.get b).state = .awaitDecision)
    (hno : (s.seq.get b).choices.has c = false) : s.answerDecide body = (s, .notChoice, []) := by
  simp only [State.answerDecide, hb, hc, State.refuse, h, hno, ne_eq, not_true_eq_false, if_false, Bool.not_false,
    if_true]

theorem State.answerDecide_taken {c : Choice} (hb : s.boomAt body 0 = some b)
    (hc : choiceOfByte (byteAt body 1) = some c) (h : (s.seq.get b).state = .awaitDecision)
    (hyes : (s.seq.get b).choices.has c = true) : s.answerDecide body = s.done (s.decideTaken b c) .ok [] := by
  simp only [State.answerDecide, hb, hc, h, hyes, ne_eq, not_true_eq_false, if_false, Bool.not_true,
    Bool.false_eq_true]

theorem State.answerStartHole_refused {r : Result} (hb : s.boomAt body 0 = some b)
    (h : s.startRefusal b (specAt body 1) = some r) : s.answerStartHole body = (s, r, []) := by
  simp only [State.answerStartHole, hb, h, State.refuse]

end

/-- Settles O18. -/
theorem startAndDecideCheckInOrder : Obligations.StartAndDecideCheckInOrder := by
  intro tag body s hr
  refine ⟨fun hl => ?decide, fun hl => ?start⟩
  case decide =>
    have hlen := fixedLen_iff.mpr hl
    refine ⟨fun hb => State.answered hr hlen (by simp only [State.answerDecide, hb, State.refuse]), fun b hb =>
      ⟨fun h => ?_, fun hle hne => ?_, fun c hc hst hno => ?_⟩⟩
    · exact State.answered hr hlen (State.answerDecide_range hb (choiceOfByte_none h))
    · obtain ⟨c, hc⟩ := choiceOfByte_some hle
      exact State.answered hr hlen (State.answerDecide_state hb hc hne)
    · exact State.answered hr hlen (State.answerDecide_notChoice hb hc hst hno)
  case start =>
    have hlen := fixedLen_iff.mpr hl
    intro x good bitGood
    refine ⟨fun hb => State.answered hr hlen (by simp only [State.answerStartHole, hb, State.refuse]), fun b hb =>
      ⟨fun h => ?_, fun hidle htram => ?_⟩⟩
    · refine State.answered hr hlen (State.answerStartHole_refused hb (if_pos ?_))
      simpa using h
    · have hfree : ¬ ((s.seq.get b).state ≠ .idle || s.tram) = true := by simp [hidle, htram]
      refine ⟨fun hbad => ?_, fun hgood hworn => ?_, fun hgood hbit hfull => ?_⟩
      · refine State.answered hr hlen (State.answerStartHole_refused hb ((if_neg hfree).trans (if_pos ?_)))
        simpa using fun h => hbad ((Spec.inRange_iff _).mp h)
      all_goals have hin : (specAt body 1).inRange = true := (Spec.inRange_iff _).mpr hgood
      · refine State.answered hr hlen (State.answerStartHole_refused hb
          ((if_neg hfree).trans ((if_neg (by simp [hin])).trans (if_pos ?_))))
        simpa using fun h => hworn ((s.bitUsable_iff b).mp h)
      · have husable := (s.bitUsable_iff b).mpr hbit
        exact State.answered hr hlen (State.answerStartHole_refused hb ((if_neg hfree).trans
          ((if_neg (by simp [hin])).trans ((if_neg (by simp [husable])).trans (if_pos hfull)))))

end Sys2Proof.Machine
end

section
namespace Sys2Proof.Machine

/-! The proofs are elaborated one after another: side by side, so many ask for more threads than the memory holds. -/
set_option Elab.async false

/-! ### A step with no command waiting (R188, R205, R212) -/

theorem step_of_idle {s : State} (h : s.pending = []) : step s = .next s.idle := by
  simp only [step, h]

theorem State.idle_running {s : State} (h : s.power = .running) (hin : s.takes = false ∨ s.link.inbound = []) :
    s.idle = s.tickRunning := by
  have hnone : s.takeInbound = none := by
    unfold State.takeInbound
    rcases hin with hin | hin
    · split
      · rw [if_neg (by simp [hin])]
      · rfl
    · rw [hin]
  simp only [State.idle, h, hnone]

/-- The expiries of a boom, phase by phase (R6, R77, R111). -/
theorem State.boomDue_eq (t : State) (b : Boom) :
    let q := t.seq.get b
    let phase := fun (p : Phase) (limit : Nat) (i : Instr) =>
      whenDue (decide (q.state = p) && q.timer.due (t.hp b limit)) i
    t.boomDue b =
      phase .jackSet P.jackTimeout (.jackTimeout b) ++ phase .collaring P.contactTimeout (.contactTimeout b) ++
      phase .retracting P.retractTimeout (.retractTimeout b) ++ phase .boltPush P.pushTimeout (.pushTimeout b) ++
      phase .mixing P.mixMaxTime (.mixMaxTime b) ++ phase .torquing P.torqueTimeout (.torqueTimeout b) ++
      phase .releasing P.releaseTimeout (.releaseTimeout b) ++
      whenDue (decide (t.phase b = .gelHold) && (t.sett.get b).gelTimer.due ((t.sett.get b).holdTime * 100))
        (.gelHoldExpiry b) ++
      whenDue ((t.gov.get b).flushTimer.due (t.hp b P.flushLossTime)) (.flushLossTimeout b) := by
  intro q phase
  unfold State.boomDue
  rw [Bool.and_comm (Timer.due _ _)]
  refine congrArg (· ++ _) (congrArg (· ++ _) ?_)
  simp only [phase, q]
  cases (t.seq.get b).state <;> simp [phaseExpiry, whenDue]

theorem exec_rotationOverflow {s : State} {b : Boom} (hp : s.power = .running) (hb : s.present b = true) :
    exec (.rotationOverflow b) s = .next (s.tickOverflow b) :=
  congrArg Host.Outcome.next (if_pos (by simp [State.sees, hp, hb]))

theorem State.mem_booms {s : State} {b : Boom} : b ∈ s.booms ↔ s.present b = true := by
  cases b <;> cases hB : s.straps.boomB <;> simp [State.booms, State.present, hB]

/-- Settles O2. -/
theorem stepTakesInboundHead : Obligations.StepTakesInboundHead := by
  unfold Obligations.StepTakesInboundHead
  intro tick due when ofBoom expiries
  have hexp : expiries = State.dueNow := by
    funext t
    have hb : t.booms.flatMap (ofBoom t) = t.booms.flatMap t.boomDue :=
      congrArg (t.booms.flatMap ·) (funext fun b => (t.boomDue_eq b).symm)
    simp only [expiries, hb]
    rfl
  refine ⟨fun s f rest hq hp ht hin => ?head, fun s hq hp hin => ?tick, fun s hq hp => ?startUp, fun s hq hp => ?off⟩
  case head =>
    have htaken : s.idle = { s.modLink (fun l => { l with inbound := rest }) with
        pending := [requestOf f.kind f.tag f.body] } := by
      simp only [State.idle, hp, State.takeInbound, hin, ht, if_true]
    rw [step_of_idle hq, htaken]
    rfl
  case tick =>
    intro ends turn ofSeq ofGov ofSett u full
    have hu : u = s.tickAll := rfl
    have hstep : step s = .next (let t := full.foldl State.tickOverflow u; { t with pending := expiries t }) := by
      rw [step_of_idle hq, State.idle_running hp hin, hexp]
      rfl
    have hpresent : ∀ b ∈ full, u.present b = true := fun b hb =>
      State.mem_booms.mp (List.mem_filter.mp hb).1
    refine ⟨fun hf => ?_, fun b hf => ⟨_, exec_rotationOverflow hp (hpresent b (by simp [hf])), ?_⟩, fun hf => ?_⟩
    · rw [hstep, hf]
      rfl
    · rw [hstep, hf]
      rfl
    · have hv : (u.tickOverflow .A).outer = u.outer := State.outer_tickOverflow u .A
      have hB : (u.tickOverflow .A).present .B = true := by
        rw [State.present, outer_straps hv]
        exact hpresent .B (by simp [hf])
      refine ⟨_, _, exec_rotationOverflow hp rfl, exec_rotationOverflow ((outer_power hv).trans hp) hB, ?_⟩
      rw [hstep, hf]
      rfl
  case startUp =>
    have htick : s.idle = s.tickStartUp := by simp only [State.idle, hp]
    rw [step_of_idle hq, htick]
    rfl
  case off =>
    rw [step_of_idle hq]
    simp only [State.idle, hp]

/-! ### The requests that read -/

/-- A section of GET_STATUS by its number (R208). -/
theorem State.answerStatus_boom {s : State} {body : List Byte} {b : Boom} (hb : s.boomAt body 1 = some b)
    (h0 : byteAt body 0 ≠ 0) (h5 : ¬ 5 < byteAt body 0) :
    s.answerStatus body = (s, .ok,
      if byteAt body 0 = 1 then (s.seq.get b).bytes else if byteAt body 0 = 2 then s.profileBytes b
      else if byteAt body 0 = 3 then (s.gov.get b).bytes else if byteAt body 0 = 4 then s.settingBytes b
      else s.inputBytes b) := by
  have hsection : ∀ n, n ≠ 0 → n ≤ 5 → s.sectionBytes b n =
      if n = 1 then (s.seq.get b).bytes else if n = 2 then s.profileBytes b
      else if n = 3 then (s.gov.get b).bytes else if n = 4 then s.settingBytes b else s.inputBytes b := by
    intro n h h'
    match n, h' with
    | 0, _ => exact absurd rfl h
    | 1, _ => rfl
    | 2, _ => rfl
    | 3, _ => rfl
    | 4, _ => rfl
    | 5, _ => rfl
  simp only [State.answerStatus, if_neg h5, if_neg h0, hb, hsection _ h0 (Nat.not_lt.mp h5)]

/-- The sections of FETCH_HOLE by their number (R195). -/
theorem HoleRecord.fetchSection_eq (r : HoleRecord) (isOpen : Bool) (sec start : Nat) :
    r.fetchSection isOpen sec start =
      if sec = 0 then (.ok, r.headerBytes isOpen start)
      else if sec = 1 ∧ start ≤ r.segments.length then (.ok, r.segmentBytes start)
      else if sec = 2 ∧ start ≤ (r.layers.getD []).length then (.ok, r.layerBytes start)
      else if sec = 3 then (.ok, r.resinBytes)
      else if sec = 4 then (.ok, r.settingBytes)
      else (.range, []) := by
  match sec with
  | 0 => rfl
  | 1 => by_cases h : start ≤ r.segments.length <;> simp [HoleRecord.fetchSection, h]
  | 2 => by_cases h : start ≤ (r.layers.getD []).length <;> simp [HoleRecord.fetchSection, h]
  | 3 => rfl
  | 4 => rfl
  | k + 5 => simp [HoleRecord.fetchSection]

/-- A number is that of an open hole when one of the two booms' open records has it. -/
theorem State.isOpen_eq (s : State) (n : Nat) :
    s.store.isOpen n = [Boom.A, .B].any fun b => (s.rec? b).map HoleRecord.number = some n := by
  have hone : ∀ o : Option HoleRecord, (o.toList.any fun r => r.number = n) = decide (o.map HoleRecord.number = some n) := by
    intro o
    cases o <;> simp
  simp only [Store.isOpen, List.any_append, hone, List.any_cons, List.any_nil, Bool.or_false]
  rfl

theorem State.answerFetchHole_none {s : State} {body : List Byte}
    (h : (if numAt body 0 2 = 0 then none else s.store.find (numAt body 0 2)) = none) :
    s.answerFetchHole body = (s, .noSuchHole, []) := by
  simp only [State.answerFetchHole, h, State.refuse]

theorem State.answerFetchHole_some {s : State} {body : List Byte} {r : HoleRecord}
    (h : (if numAt body 0 2 = 0 then none else s.store.find (numAt body 0 2)) = some r) :
    s.answerFetchHole body =
      (s, r.fetchSection (s.store.isOpen (numAt body 0 2)) (byteAt body 2) (numAt body 3 4)) := by
  simp only [State.answerFetchHole, h]

/-- The bands a GET_BANDS gives: the live table, or the open hole's (R82). -/
theorem State.answerGetBands_eq {s : State} {body : List Byte} {b : Boom} (hb : s.boomAt body 0 = some b) :
    s.answerGetBands body =
      if 1 < byteAt body 1 then (s, .range, [])
      else if byteAt body 1 = 0 then (s, .ok, listOf Band.bytes (s.bands.get b))
      else match s.rec? b with
        | none => (s, .state, [])
        | some r => (s, .ok, listOf Band.bytes r.bands) := by
  simp only [State.answerGetBands, hb, State.refuse]
  match byteAt body 1 with
  | 0 => rfl
  | 1 => cases s.rec? b <;> rfl
  | k + 2 => simp

/-- Settles O12: the contents are the model's own, written out; what is left is the choice of the section. -/
theorem readingChangesNothing : Obligations.ReadingChangesNothing := by
  unfold Obligations.ReadingChangesNothing
  intro tag body s hr ms timer straps causes choices flags pair band unit sequence profile drill setting inputs request
    x magazine channels classSums margin flow holes bits header segments layers resin results n start
  have hprofile : profile = s.profileBytes := by
    funext b
    simp only [profile, State.profileBytes]
    cases s.rec? b <;> rfl
  have hmagazine : magazine = s.idx.bytes := by
    refine congrArg (_ ++ ·) (congrArg (u8 x.queue.length ++ ·) ?_)
    show _ = match s.idx.queue with
      | [] => []
      | r :: rest => r.bytes x.serving ++ rest.flatMap (Burst.bytes false)
    cases s.idx.queue <;> rfl
  have hholes : holes = s.holeListBytes := by
    refine congrArg (· ++ _) (congrArg (listOf · _) (funext fun r => ?_))
    cases r.outcome <;> rfl
  have hheader : ∀ r, header r ([Boom.A, .B].any fun b => (s.rec? b).map HoleRecord.number = some n) start =
      r.headerBytes (s.store.isOpen n) start := fun r => by
    rw [State.isOpen_eq]
    rfl
  refine ⟨fun hl => ?plain, fun hl => ?param, fun hl => ?status, fun hl => ?bands, fun hl => ?fetch⟩
  case plain =>
    have hlen := fixedLen_iff.mpr hl
    rw [hmagazine, hholes]
    exact ⟨State.answered hr hlen rfl, State.answered hr hlen rfl, State.answered hr hlen rfl,
      State.answered hr hlen rfl, State.answered hr hlen rfl⟩
  case param =>
    have hlen := fixedLen_iff.mpr hl
    cases hp : paramRow? (byteAt body 0) <;>
      exact State.answered hr hlen (by simp only [State.answerGetParam, hp, State.refuse])
  case status =>
    split
    · next h5 => exact State.answered hr hl (if_pos h5)
    · next h5 =>
      split
      · next h0 => exact State.answered hr hl ((if_neg h5).trans (if_pos h0))
      · next h0 =>
        rw [hprofile]
        cases hb : s.boomAt body 1 with
        | none =>
          exact State.answered hr hl (by simp only [State.answerStatus, if_neg h5, if_neg h0, hb, State.refuse])
        | some b => exact State.answered hr hl (State.answerStatus_boom hb h0 h5)
  case bands =>
    have hlen := fixedLen_iff.mpr hl
    cases hb : s.boomAt body 0 with
    | none => exact State.answered hr hlen (by simp only [State.answerGetBands, hb, State.refuse])
    | some b =>
      have hans := State.answerGetBands_eq hb
      dsimp only
      split
      · next h => exact State.answered hr hlen (hans.trans (if_pos h))
      · next h =>
        rw [if_neg h] at hans
        split
        · next h0 => exact State.answered hr hlen (hans.trans (if_pos h0))
        · next h0 =>
          rw [if_neg h0] at hans
          cases hrec : s.rec? b with
          | none => exact State.answered hr hlen (by simp only [hans, hrec])
          | some r => exact State.answered hr hlen (by simp only [hans, hrec]; rfl)
  case fetch =>
    have hlen := fixedLen_iff.mpr hl
    cases hfind : (if n = 0 then none else s.store.find n) with
    | none => exact State.answered hr hlen (State.answerFetchHole_none hfind)
    | some r =>
      have hans := State.answerFetchHole_some hfind
      rw [HoleRecord.fetchSection_eq] at hans
      dsimp only
      rw [hheader]
      revert hans
      repeat' split
      all_goals exact State.answered hr hlen

end Sys2Proof.Machine
end

section
namespace Sys2Proof.Machine

/-! The proofs are elaborated one after another: side by side, so many ask for more threads than the memory holds. -/
set_option Elab.async false

/-! ### Events written out

An obligation names the state in which an event ends up but for the grants and the duties. So each operation of a
boom is written here as the record it leaves and the reports it sends. -/

section
variable (s : State) (b : Boom)

/-- The move to a state: the Sequencer it leaves and its PHASE report (R5). -/
theorem State.goPhase_eq (p : Phase) (f : Sequencer → Sequencer) :
    s.goPhase b p f = ({ s with seq := s.seq.set b { f (s.seq.get b) with state := p } }).report
      (phaseNote b (s.seq.get b).state { f (s.seq.get b) with state := p }) := by
  simp only [State.goPhase, State.modSeq, PerBoom.get_set_same]

theorem State.enterPhase_eq (p : Phase) (f : Sequencer → Sequencer) :
    s.enterPhase b p f = ({ s with seq := s.seq.set b { f ((s.seq.get b).enter p) with state := p } }).report
      (phaseNote b (s.seq.get b).state { f ((s.seq.get b).enter p) with state := p }) :=
  s.goPhase_eq b p _

/-- A change of the Sequencer within its state, with its PHASE report (R5). -/
theorem State.modSeq_notePhase (f : Sequencer → Sequencer) :
    (s.modSeq b f).notePhase b = ({ s with seq := s.seq.set b (f (s.seq.get b)) }).report
      (phaseNote b (f (s.seq.get b)).state (f (s.seq.get b))) := by
  simp only [State.notePhase, State.modSeq, PerBoom.get_set_same]

end

/-- A request that is taken and answered at the end of an event: the event leaves `x`, and in a still state nothing
but the grants, the duties and what follows every event comes after it. -/
theorem State.answered_ends {s x y : State} {body : List Byte} {len : List Byte → Bool} {kind tag : Byte}
    {f : State → Answer} {r : Result} {c : List Byte} (h : s.ready = true) (hl : len body = true)
    (hf : f s = s.done x r c) (hx : x = y) (hy : y.still = true) :
    ∃ t, Host.Outcome.next (ρ := Refusal) (φ := Fault) (s.takeRequest kind tag body len f) = .next t ∧
      (y.reply kind tag r c).Ends t := by
  subst hx
  have hends : x.Ends (s.finish x) := State.finish_ends_of_still hy
  exact ⟨_, State.answered h hl hf, hends.reply kind tag r c⟩

/-- After an event TRAM_ENABLE, the flush-loss timers and the wait for the injector may have moved, and nothing
else (R35, R77, R132). -/
theorem State.afterEvent_eq (x : State) : ∃ g i, x.afterEvent = { x with tram := x.tramCheck.tram, gov := g, idx := i } := by
  have htram : x.tramCheck = { x with tram := x.tramCheck.tram } := by
    unfold State.tramCheck
    split <;> rfl
  have hready : ∀ y : State, ∃ i, y.readySync = { y with idx := i } := by
    intro y
    unfold State.readySync
    repeat' split
    all_goals exact ⟨_, rfl⟩
  obtain ⟨i, hi⟩ := hready ((x.tramCheck.flushSync .A).flushSync .B)
  unfold State.afterEvent
  rw [hi, htram]
  exact ⟨_, _, rfl⟩

theorem State.Ends.core_eq {x t : State} (h : x.Ends t) :
    ∃ g i, t.core = { x.core with tram := x.tramCheck.tram, gov := g, idx := i } := by
  obtain ⟨g, i, he⟩ := x.afterEvent_eq
  exact ⟨g, i, h.1.trans (by rw [he]; rfl)⟩

/-- What reads neither the grants and duties nor what follows every event is the same after it. -/
theorem State.Ends.view {α : Type} {x t : State} (h : x.Ends t) (f : State → α)
    (hcore : ∀ s : State, f s.core = f s := by exact fun _ => rfl)
    (hafter : ∀ (s : State) v g i, f { s with tram := v, gov := g, idx := i } = f s := by
      exact fun _ _ _ _ => rfl) : f t = f x := by
  obtain ⟨g, i, he⟩ := h.core_eq
  rw [← hcore t, he, hafter, hcore]

theorem State.Ends.tram_eq {x t : State} (h : x.Ends t) : t.tram = x.tramCheck.tram := by
  obtain ⟨g, i, he⟩ := h.core_eq
  have htram : t.core.tram = x.tramCheck.tram := by rw [he]
  exact htram

/-- No standing condition means no cause to take (R18). -/
theorem State.takeStanding_clear {s : State} {b : Boom} (h : s.clearOfCauses b = true) : s.takeStanding b = s := by
  have hnil : s.standing b = [] := List.isEmpty_iff.mp h
  simp only [State.takeStanding, hnil, List.foldl_nil]

/-! ### START_HOLE (R4, R7) -/

/-- The entry into JACK_SET with no standing cause and the jack not yet at the roof: the jack demand is put (R7). -/
theorem State.enterJackSet_eq {s : State} {b : Boom} (hf : s.valve.isFailed (.boom b .jackUp) = false)
    (hc : s.clearOfCauses b = true) (hr : s.active b Input.jackAtRoof = false) :
    s.enterJackSet b = s.enterPhase b .jackSet fun q => { q with jackUp := s.valve.qmaxOf (.boom b .jackUp) } := by
  have hblocked : s.blocked b .jackSet = false := by simp [State.blocked, Phase.uses, hf]
  unfold State.enterJackSet
  dsimp only
  rw [if_neg (by rw [State.enterPhase_eq]; exact Bool.not_eq_true _ ▸ hblocked), State.takeStanding_clear, State.testJackSet, if_neg]
  · rw [State.enterPhase_eq]
    exact Bool.not_eq_true _ ▸ hr
  · rw [State.enterPhase_eq]
    exact hc

theorem State.answerStartHole_taken {s : State} {body : List Byte} {b : Boom} (hb : s.boomAt body 0 = some b)
    (h : s.startRefusal b (specAt body 1) = none) : s.answerStartHole body =
      s.done ((s.openHole b (specAt body 1)).enterJackSet b) .ok (u16 s.nextHole) := by
  simp only [State.answerStartHole, hb, h]

/-- Settles O19. -/
theorem startHoleOpensHole : Obligations.StartHoleOpensHole := by
  intro tag body s b p hr hcalm hl hb hidle htram hspec hfit hwear hheld hfail hclear hroof n r q
  have hpass : s.startRefusal b (specAt body 1) = none := by
    have hbit : s.bitUsable b = true := (s.bitUsable_iff b).mpr ⟨p, hfit, hwear⟩
    have hroom : ¬ recordPlaces ≤ s.store.held := Nat.not_le.mpr hheld
    simp [State.startRefusal, hidle, htram, hspec, hbit, hroom]
  have hopen : (s.openHole b (specAt body 1)).enterJackSet b =
      ({ s with store := { s.store with opened := s.store.opened.set b (some r)
                                        counter := if n < 65535 then n + 1 else 1 }
                seq := s.seq.set b q }).report (phaseNote b .idle q) := by
    rw [State.enterJackSet_eq (s := s.openHole b (specAt body 1)) hfail hclear hroof, State.enterPhase_eq]
    simp only [State.openHole, State.modSeq, State.modStore, PerBoom.get_set_same, PerBoom.set_set, hfit, hidle]
    rfl
  exact State.answered_ends hr (fixedLen_iff.mpr hl) (State.answerStartHole_taken hb hpass) hopen
    (State.still_of_calm hcalm)

/-! ### CLEAR_STOP (R31) -/

/-- What a STOPPED boom's Sequencer becomes at a CLEAR_STOP: HALTED with an open hole, else IDLE (R31). -/
def Sequencer.freed (q : Sequencer) : Sequencer :=
  if q.hole.isSome then q.haltedWith .estop
  else { q with state := .idle, returnPhase := none, causes := .empty
                timer := { running := false, ticks := 0 }, stoppedFrom := none }

theorem Sequencer.freed_resting (q : Sequencer) : q.freed.Resting := by
  unfold Sequencer.freed
  split
  · simp [Sequencer.Resting, Sequencer.haltedWith, Phase.automatic]
  · simp [Sequencer.Resting, Phase.automatic]

theorem State.clearStopBoom_stopped {s : State} {b : Boom} (h : (s.seq.get b).state = .stopped) :
    s.clearStopBoom b = ({ s with seq := s.seq.set b (s.seq.get b).freed }).report
      (phaseNote b .stopped (s.seq.get b).freed) := by
  unfold State.clearStopBoom Sequencer.freed
  rw [if_pos h]
  split
  · rw [State.goPhase_eq, h]
    rfl
  · rw [State.goPhase_eq, h]
    rfl

theorem State.clearStopBoom_other {s : State} {b : Boom} (h : (s.seq.get b).state ≠ .stopped) :
    s.clearStopBoom b = s := if_neg h

/-- A CLEAR_STOP of one boom leaves the other's Sequencer. -/
theorem State.clearStopBoom_get_ne (s : State) {b c : Boom} (h : b ≠ c) :
    (s.clearStopBoom c).seq.get b = s.seq.get b := by
  by_cases hs : (s.seq.get c).state = .stopped
  · rw [State.clearStopBoom_stopped hs]
    exact PerBoom.get_set_ne _ h _
  · rw [State.clearStopBoom_other hs]

/-- Settles O25. -/
theorem clearStopFreesTheBooms : Obligations.ClearStopFreesTheBooms := by
  intro tag s hr
  refine ⟨fun h => State.answered hr rfl ?refused, ?taken⟩
  case refused =>
    unfold State.answerClearStop
    rcases h with h | h
    · exact if_pos h
    · split
      · rfl
      · exact if_pos (by simpa using h)
  case taken =>
    rintro hrel ⟨b0, hb0, hst0⟩ left free
    have hans : s.answerClearStop = s.done (s.booms.foldl State.clearStopBoom s) .ok [] := by
      unfold State.answerClearStop
      rw [if_neg (by simp [hrel]), if_neg (by simpa using ⟨b0, hb0, hst0⟩)]
    have hfree : ∀ (x : State) (b : Boom), x.seq.get b = s.seq.get b → x.clearStopBoom b = free x b := by
      intro x b hx
      by_cases hst : (s.seq.get b).state = .stopped
      · rw [State.clearStopBoom_stopped (hx ▸ hst), hx]
        exact (if_pos hst).symm
      · rw [State.clearStopBoom_other (hx ▸ hst)]
        exact (if_neg hst).symm
    have hfold : s.booms.foldl State.clearStopBoom s =
        if s.straps.boomB then free (free s .A) .B else free s .A := by
      have hA : s.clearStopBoom .A = free s .A := hfree s .A rfl
      have hB : (s.clearStopBoom .A).clearStopBoom .B = free (s.clearStopBoom .A) .B :=
        hfree _ .B (s.clearStopBoom_get_ne (by decide))
      unfold State.booms
      split
      · rw [List.foldl_cons, List.foldl_cons, List.foldl_nil, hB, hA]
      · rw [List.foldl_cons, List.foldl_nil, hA]
    have hleft : ∀ b ∈ s.booms, (s.seq.get b).state = .stopped →
        (s.booms.foldl State.clearStopBoom s).RestsAs b (s.seq.get b).freed := by
      intro b hb hst
      refine ⟨?_, (s.seq.get b).freed_resting⟩
      have hself : ∀ x : State, x.seq.get b = s.seq.get b → (x.clearStopBoom b).seq.get b = (s.seq.get b).freed := by
        intro x hx
        rw [State.clearStopBoom_stopped (hx ▸ hst), hx]
        exact PerBoom.get_set_same _ _ _
      unfold State.booms at hb ⊢
      split at hb
      · next hB =>
        rw [if_pos hB, List.foldl_cons, List.foldl_cons, List.foldl_nil]
        cases b with
        | A => exact (State.clearStopBoom_get_ne _ (by decide)).trans (hself s rfl)
        | B => exact hself _ (s.clearStopBoom_get_ne (by decide))
      · next hB =>
        rw [if_neg hB, List.foldl_cons, List.foldl_nil]
        obtain rfl := List.mem_singleton.mp hb
        exact hself s rfl
    have ho : (s.booms.foldl State.clearStopBoom s).outer = s.outer :=
      foldl_keeps State.outer _ State.outer_clearStopBoom _ _
    refine ⟨_, State.answered hr rfl hans, fun b hb hst => ?_, ?_, fun hcalm => ?_⟩
    · rw [State.reply_seq]
      exact ((hleft b hb hst).finish s).1
    · rw [State.reply_replies, replies_of_outer ((State.outer_finish s _).trans ho)]
    · rw [← hfold]
      refine (State.finish_ends ?_).reply _ _ _ _
      have hfreecalm : ∀ (x : State) (b : Boom), x.calm = true → (free x b).calm = true := by
        intro x b hx
        simp only [free]
        split
        · exact hx
        · exact hx
      rw [hfold]
      split
      · exact hfreecalm _ _ (hfreecalm _ _ hcalm)
      · exact hfreecalm _ _ hcalm

/-! ### JOG and TRAM (R32, R35) -/

theorem fnOfNum_num (f : Fn) : fnOfNum f.num = some f := by
  have hall : ∀ f ∈ allFns, fnOfNum f.num = some f := by decide
  exact hall f (mem_allFns f)

theorem fnOfNum_tram : fnOfNum 15 = some .tram := fnOfNum_num .tram

theorem fnOfNum_none {n : Nat} (h : 15 < n) : fnOfNum n = none := by
  have hall : ∀ f ∈ allFns, f.num ≤ 15 := by decide
  refine List.find?_eq_none.mpr fun f hf => ?_
  have := hall f hf
  simp only [beq_iff_eq]
  omega

/-- A jog setpoint taken is read back: a FLUSH on for any value but 0, any other within 3,000 (R32). -/
theorem Jogs.put_get (j : Jogs) (k : FnKind) (v : Nat) :
    (j.put k v).get k = if k = .flush then (if v = 0 then 0 else 1) else min 3000 v := by
  cases k <;> simp [Jogs.put, Jogs.get, jogMax]

theorem Jogs.put_get_ne (j : Jogs) {k k' : FnKind} (h : k' ≠ k) (v : Nat) : (j.put k v).get k' = j.get k' := by
  cases k <;> cases k' <;> first | exact absurd rfl h | rfl

section
variable {s : State} {body : List Byte} {b : Boom} {k : FnKind} {v : Nat}

theorem State.answerJog_boom (h : byteAt body 0 = (Fn.boom b k).num) : s.answerJog body =
    if s.present b then s.jogBoom b k (numAt body 1 2) else s.refuse .noSuchBoom := by
  simp only [State.answerJog, h, fnOfNum_num]

theorem State.jogBoom_owned (h1 : (s.seq.get b).state ≠ .idle) (h2 : (s.seq.get b).state ≠ .manual)
    (h3 : (s.seq.get b).state ≠ .halted) : s.jogBoom b k v = (s, .owned, []) := by
  unfold State.jogBoom
  dsimp only
  split
  · contradiction
  · contradiction
  · contradiction
  · rfl

/-- The result of a JOG: only a flow demand is clamped (R32). -/
theorem jogResult_eq (k : FnKind) (v : Nat) :
    (if k = .flush then Result.ok else jogResult v) = if k ≠ .flush ∧ 3000 < v then .clamped else .ok := by
  unfold jogResult jogMax
  (repeat' split) <;> simp_all

/-- A JOG of an IDLE boom brings it to MANUAL (R32). -/
theorem State.jogBoom_idle (h : (s.seq.get b).state = .idle) :
    s.jogBoom b k v = s.done (s.goPhase b .manual fun q => { q with jogs := q.jogs.put k v })
      (if k ≠ .flush ∧ 3000 < v then .clamped else .ok) [] := by
  simp only [State.jogBoom, h, jogResult_eq]

/-- A JOG of a boom in MANUAL or HALTED takes the setpoint alone (R32). -/
theorem State.jogBoom_jogging (h : (s.seq.get b).state = .manual ∨ (s.seq.get b).state = .halted) :
    s.jogBoom b k v = s.done (s.modSeq b fun q => { q with jogs := q.jogs.put k v })
      (if k ≠ .flush ∧ 3000 < v then .clamped else .ok) [] := by
  rcases h with h | h <;> simp only [State.jogBoom, h, jogResult_eq]

end

/-- Settles O26. -/
theorem jogAndTramTaken : Obligations.JogAndTramTaken := by
  intro tag body s hr hcalm
  have hstill := State.still_of_calm hcalm
  refine ⟨fun hl => ?jog, fun hl => ?tram⟩
  case jog =>
    have hlen := fixedLen_iff.mpr hl
    intro n v
    refine ⟨fun hn => State.answered hr hlen ?range, fun hn hbusy => State.answered hr hlen ?owned,
      fun hn hfree => State.answered_ends hr hlen ?index rfl hstill, fun b k hn => ?_⟩
    case range =>
      unfold State.answerJog
      dsimp only
      rcases Nat.lt_or_eq_of_le hn with hlt | heq
      · rw [fnOfNum_none hlt]
        rfl
      · rw [show byteAt body 0 = 15 from heq.symm, fnOfNum_tram]
        rfl
    case owned =>
      unfold State.answerJog
      dsimp only
      rw [show byteAt body 0 = (Fn.index).num from hn, fnOfNum_num]
      exact if_pos hbusy
    case index =>
      unfold State.answerJog
      dsimp only
      rw [show byteAt body 0 = (Fn.index).num from hn, fnOfNum_num]
      exact if_neg (by simp [hfree])
    intro q put res
    refine ⟨fun hp => State.answered hr hlen ?_, fun hp h1 h2 h3 => State.answered hr hlen ?_, fun hp hq => ?_⟩
    · rw [State.answerJog_boom hn, if_neg (by simp [hp])]
      rfl
    · rw [State.answerJog_boom hn, if_pos hp]
      exact State.jogBoom_owned h1 h2 h3
    · refine ⟨q.jogs.put k v, q.jogs.put_get k v, fun k' hk => q.jogs.put_get_ne hk v, ?_⟩
      intro q' s'
      by_cases hidle : q.state = .idle
      · have hans := (State.answerJog_boom hn).trans ((if_pos hp).trans (State.jogBoom_idle (k := k) hidle))
        refine State.answered_ends hr hlen hans ?_ ?_
        · rw [State.goPhase_eq, if_pos hidle]
          simp only [s', q', if_pos hidle]
          rw [show (s.seq.get b).state = .idle from hidle]
        · rw [if_pos hidle]
          exact State.still_of_calm (s := s'.report _) hcalm
      · have hans := (State.answerJog_boom hn).trans
          ((if_pos hp).trans (State.jogBoom_jogging (k := k) (hq.resolve_left hidle)))
        refine State.answered_ends hr hlen hans ?_ ?_
        · rw [if_neg hidle]
          simp only [s', q', if_neg hidle]
          rfl
        · rw [if_neg hidle]
          exact State.still_of_calm (s := s') hcalm
  case tram =>
    have hlen := fixedLen_iff.mpr hl
    intro may
    have hmay : s.mayTram = true ↔ may := by
      simp only [State.mayTram, List.all_eq_true, Bool.and_eq_true, Bool.or_eq_true, decide_eq_true_eq]
      rfl
    refine ⟨fun h0 => State.answered_ends hr hlen (if_pos h0) rfl hstill, fun h1 hm => ?_, fun h1 hm => ?_⟩
    · obtain ⟨t, he, hends⟩ := State.answered_ends (tag := tag) (kind := 0x1A) hr hlen
        (show s.answerTram body = s.done (s.setTram true) .ok [] from
          (if_neg (by omega)).trans (if_pos (hmay.mpr hm))) rfl hstill
      refine ⟨t, he, hends, ?_⟩
      have hlow : ((s.setTram true).booms.any fun b => !(s.setTram true).active b Input.jackLowered) = false := by
        rw [List.any_eq_false]
        intro b hb
        have hact : (s.setTram true).active b Input.jackLowered = true := (hm b hb).2
        simp [hact]
      rw [hends.tram_eq]
      unfold State.tramCheck
      rw [if_neg ?_]
      · rfl
      · rw [Bool.and_eq_true, not_and]
        exact fun _ => ne_true_of_eq_false hlow
    · exact State.answered hr hlen ((if_neg (by omega)).trans (if_neg fun h => hm (hmay.mp h)))

/-! ### A cause reaches a boom (R17, R23) -/

/-- The Governor of a boom that enters PAUSED from phase `p` (R71). -/
def Governor.suspended (p : Phase) (g : Governor) : Governor :=
  if p = .collaring ∨ p = .drilling then g.pause else g

/-- The suspension of a phase: its Sequencer, its workers and its PHASE report (R17, R19). -/
theorem State.pauseBoom_eq (s : State) (b : Boom) (c : Cause) :
    let q := s.seq.get b
    let q' := q.suspended q.state c
    s.pauseBoom b c = ({ s with
      seq := s.seq.set b q'
      gov := s.gov.set b ((s.gov.get b).suspended q.state)
      sett := s.sett.set b ((s.sett.get b).pause q.state) }).report (phaseNote b q.state q') := by
  intro q q'
  have hgov : (if q.state = .collaring || q.state = .drilling then s.modGov b Governor.pause else s) =
      { s with gov := s.gov.set b ((s.gov.get b).suspended q.state) } := by
    unfold Governor.suspended
    by_cases h : q.state = .collaring ∨ q.state = .drilling
    · rw [if_pos (by simpa using h), if_pos h]
      rfl
    · rw [if_neg (by simpa using h), if_neg h, PerBoom.set_get]
  unfold State.pauseBoom
  dsimp only
  rw [hgov, State.goPhase_eq]
  rfl

/-- A cause reaches a boom in an automatic phase other than MIXING (R17). -/
theorem State.arrive_automatic {s : State} {b : Boom} (ha : (s.seq.get b).state.automatic = true)
    (hm : (s.seq.get b).state ≠ .mixing) (c : Cause) : s.arrive b c = s.pauseBoom b c := by
  have hp : (s.seq.get b).state ≠ .paused := by
    intro h
    rw [h] at ha
    cases ha
  simp [State.arrive, State.arriveBasic, hm, hp, ha]

/-- A cause other than GAS joins the deferred set of a boom in MIXING (R23). -/
theorem State.arrive_mixing {s : State} {b : Boom} (h : (s.seq.get b).state = .mixing) {c : Cause} (hc : c ≠ .gas) :
    s.arrive b c = if (s.seq.get b).deferred.has c then s else
      ({ s with seq := s.seq.set b { s.seq.get b with deferred := (s.seq.get b).deferred.add c } }).report
        (phaseNote b .mixing { s.seq.get b with deferred := (s.seq.get b).deferred.add c }) := by
  simp only [State.arrive, h, if_true, if_neg hc, State.modSeq_notePhase]

/-- A cause joins the cause set of a PAUSED boom (R17). -/
theorem State.arrive_paused {s : State} {b : Boom} (h : (s.seq.get b).state = .paused) (c : Cause) :
    s.arrive b c = if (s.seq.get b).causes.has c then s else
      ({ s with seq := s.seq.set b { s.seq.get b with causes := (s.seq.get b).causes.add c } }).report
        (phaseNote b .paused { s.seq.get b with causes := (s.seq.get b).causes.add c }) := by
  simp only [State.arrive, State.arriveBasic, h, if_true, State.modSeq_notePhase]
  rfl

/-- A cause does not reach a boom off the cycle (R17). -/
theorem State.arrive_resting {s : State} {b : Boom} (ha : (s.seq.get b).state.automatic = false)
    (hp : (s.seq.get b).state ≠ .paused) (c : Cause) : s.arrive b c = s := by
  have hm : (s.seq.get b).state ≠ .mixing := by
    intro h
    rw [h] at ha
    cases ha
  simp [State.arrive, State.arriveBasic, hm, hp, ha]

section
variable {s : State} {body : List Byte} {b : Boom}

theorem State.answerPause_taken (hb : s.boomAt body 0 = some b)
    (h : (s.seq.get b).state.automatic = true ∨ (s.seq.get b).state = .paused) :
    s.answerPause body = s.done (s.arrive b .operator) .ok [] := by
  simp only [State.answerPause, hb]
  exact if_pos (by simpa using h)

theorem State.answerPause_refused (hb : s.boomAt body 0 = some b)
    (ha : (s.seq.get b).state.automatic = false) (hp : (s.seq.get b).state ≠ .paused) :
    s.answerPause body = (s, .state, []) := by
  simp only [State.answerPause, hb]
  exact if_neg (by simp [ha, hp])

end

/-- The pieces of a Sequencer that its demands are read from (R144). -/
def Sequencer.puts (q : Sequencer) : Phase × Option Phase × Jogs × Nat × Nat × Nat :=
  (q.state, q.returnPhase, q.jogs, q.jackUp, q.jackDown, q.feedDown)

/-- A Sequencer whose state and demands stand asks what it asked. -/
theorem State.asked_setSeq {s : State} {b : Boom} {q : Sequencer} (h : q.puts = (s.seq.get b).puts) (f : Fn) :
    ({ s with seq := s.seq.set b q } : State).asked f = s.asked f := by
  simp only [Sequencer.puts, Prod.mk.injEq] at h
  obtain ⟨hstate, hret, hjogs, hup, hdown, hfeed⟩ := h
  cases f with
  | index => rfl
  | tram => rfl
  | boom c k =>
    by_cases hc : c = b
    · subst hc
      simp only [State.asked, State.phaseDemand, State.phase, Sequencer.phase, PerBoom.get_set_same, hstate, hret, hjogs,
        hup, hdown, hfeed]
      rfl
    · simp only [State.asked, State.phaseDemand, State.phase, PerBoom.get_set_ne _ hc]
      rfl

/-- Such a change lets nothing in that did not fit before (R154). -/
theorem State.still_setSeq {s : State} {b : Boom} {q : Sequencer} (h : q.puts = (s.seq.get b).puts) :
    ({ s with seq := s.seq.set b q } : State).still = s.still := by
  have hsupport : ({ s with seq := s.seq.set b q } : State).supportTotal = s.supportTotal := by
    simp only [State.supportTotal, State.effective, State.asked_setSeq h]
    rfl
  simp only [State.still, State.fits, hsupport]
  rfl

/-- Settles O22. -/
theorem pauseSuspendsThePhase : Obligations.PauseSuspendsThePhase := by
  intro tag body s b hr hl hb q g c
  have hlen := fixedLen_iff.mpr hl
  refine ⟨?automatic, ?mixing, ?paused, fun ha hp => State.answered hr hlen (State.answerPause_refused hb ha hp)⟩
  case automatic =>
    intro ha hm q' g' c' y hy
    have hans := State.answerPause_taken hb (.inl ha)
    refine State.answered_ends hr hlen hans ?_ hy
    rw [State.arrive_automatic ha hm, State.pauseBoom_eq]
    have hc : (s.sett.get b).pause (s.seq.get b).state = c' := by
      simp only [c', c, q]
      cases (s.seq.get b).state <;> rfl
    rw [hc]
    rfl
  case mixing =>
    intro hm hy q' s'
    have hans := State.answerPause_taken hb (.inl (show q.state.automatic = true by rw [hm]; rfl))
    refine State.answered_ends hr hlen hans (State.arrive_mixing hm (by decide)) ?_
    show State.still (if q.deferred.operator then s else _) = true
    split
    · exact hy
    · exact (State.still_setSeq (s := s) (b := b) (q := q') rfl).trans hy
  case paused =>
    intro hp hy q' s'
    have hans := State.answerPause_taken hb (.inr hp)
    refine State.answered_ends hr hlen hans (State.arrive_paused hp _) ?_
    show State.still (if q.causes.operator then s else _) = true
    split
    · exact hy
    · exact (State.still_setSeq (s := s) (b := b) (q := q') rfl).trans hy

end Sys2Proof.Machine
end

section
namespace Sys2Proof.Machine

/-! The proofs are elaborated one after another: side by side, so many ask for more threads than the memory holds. -/
set_option Elab.async false

/-! ### The expiry of the presence timer (R209) -/

/-- A boom's Sequencer as SILENCE leaves it: suspended, or with the cause among those it holds (R17, R23). -/
def Sequencer.silenced (q : Sequencer) : Sequencer :=
  if q.state = .mixing then { q with deferred := { q.deferred with silence := true } }
  else if q.state = .paused then { q with causes := { q.causes with silence := true } }
  else if q.state.automatic then q.suspended q.state .silence
  else q

theorem Sequencer.silenced_automatic (q : Sequencer) (ha : q.state.automatic = true) (hm : q.state ≠ .mixing) :
    q.silenced = q.suspended q.state .silence := by
  have hp : q.state ≠ .paused := fun h => by simp [h, Phase.automatic] at ha
  rw [Sequencer.silenced, if_neg hm, if_neg hp, if_pos ha]

/-- The state without the pieces that the arrival of a cause other than GAS moves. -/
def State.offCycle (s : State) : State :=
  { s with seq := State.unpowered.seq, gov := State.unpowered.gov, sett := State.unpowered.sett, link := .quiet }

theorem CauseSet.add_silence {c : CauseSet} (h : c.has .silence = true) : { c with silence := true } = c := by
  cases c
  simp only [CauseSet.has] at h
  simp [h]

/-- SILENCE reaches a boom: its Sequencer, and nothing off the cycle (R209). -/
theorem State.arrive_silence (s : State) (b : Boom) :
    (s.arrive b .silence).seq = s.seq.set b (s.seq.get b).silenced ∧
      (s.arrive b .silence).offCycle = s.offCycle := by
  have hself : ∀ q : Sequencer, q = s.seq.get b → s.seq = s.seq.set b q := fun q h => by
    rw [h, PerBoom.set_get]
  unfold Sequencer.silenced
  by_cases hm : (s.seq.get b).state = .mixing
  · rw [State.arrive_mixing hm (by decide), if_pos hm]
    split
    · next h => exact ⟨hself _ (by rw [CauseSet.add_silence h]), rfl⟩
    · exact ⟨rfl, rfl⟩
  rw [if_neg hm]
  by_cases hp : (s.seq.get b).state = .paused
  · rw [State.arrive_paused hp, if_pos hp]
    split
    · next h => exact ⟨hself _ (by rw [CauseSet.add_silence h]), rfl⟩
    · exact ⟨rfl, rfl⟩
  rw [if_neg hp]
  by_cases ha : (s.seq.get b).state.automatic = true
  · rw [State.arrive_automatic ha hm, State.pauseBoom_eq, if_pos ha]
    exact ⟨rfl, rfl⟩
  · rw [State.arrive_resting (by simpa using ha) hp, if_neg ha]
    exact ⟨hself _ rfl, rfl⟩

/-- The line as the expiry of the presence timer leaves it, but for its report. -/
def State.silentLine (s : State) : State :=
  s.modLink fun l => { l with presence := l.presence.expire (s.live P.presenceTimeout), silence := true }

theorem State.presenceExpired_outer (s : State) : s.presenceExpired.outer = s.silentLine.outer :=
  (State.outer_inOrder _ _ _ _ State.outer_takeSilence).trans (State.outer_report _ _)

/-- Pieces that the taking of SILENCE leaves, with the INDEX jog and TRAM_ENABLE set aside. -/
def State.offSilence (s : State) : State := { s.offCycle with indexJog := 0, tram := false }

/-- With no reservation waiting SILENCE reaches each present boom in turn, and nothing off the cycle. -/
theorem State.foldl_silence {s : State} (hw : s.arb.waiting = []) :
    let x := (s.booms.map SilencePlace.boom).foldl State.takeSilence s
    x.offCycle = s.offCycle ∧ ∀ b ∈ s.booms, x.seq.get b = (s.seq.get b).silenced := by
  have hone : ∀ (y : State) (b : Boom), y.arb.waiting = [] →
      y.takeSilence (.boom b) = y.arrive b .silence ∧ (y.takeSilence (.boom b)).arb.waiting = [] := by
    intro y b hy
    have harb : (y.arrive b .silence).arb.waiting = [] :=
      (congrArg (fun s => s.arb.waiting) (y.arrive_silence b).2).trans hy
    have heq : y.takeSilence (.boom b) = y.arrive b .silence := State.testList_none (State.firstFit_nil harb)
    exact ⟨heq, heq ▸ harb⟩
  intro x
  obtain ⟨hA, hwA⟩ := hone s .A hw
  obtain ⟨hB, -⟩ := hone (s.arrive .A .silence) .B (hA ▸ hwA)
  obtain ⟨hseqA, hoffA⟩ := s.arrive_silence .A
  obtain ⟨hseqB, hoffB⟩ := (s.arrive .A .silence).arrive_silence .B
  simp only [x]
  unfold State.booms
  split
  · rw [List.map_cons, List.map_cons, List.map_nil, List.foldl_cons, List.foldl_cons, List.foldl_nil, hA, hB]
    refine ⟨hoffB.trans hoffA, fun b _ => ?_⟩
    rw [hseqB, hseqA]
    cases b <;> rfl
  · rw [List.map_cons, List.map_nil, List.foldl_cons, List.foldl_nil, hA]
    refine ⟨hoffA, fun b hb => ?_⟩
    rw [List.mem_singleton.mp hb, hseqA]
    rfl

theorem State.zeroJogs_get (s : State) (b : Boom) : s.zeroJogs.seq.get b = { s.seq.get b with jogs := .zero } := by
  cases b <;> rfl

/-- The state in which SILENCE is handed to its places. -/
def State.silent (s : State) : State := s.silentLine.report (.interlock (.silence true))

theorem State.presenceExpired_eq (s : State) : s.presenceExpired =
    s.silent.inOrder (!s.silent.arb.waiting.isEmpty) (s.silent.booms.map SilencePlace.boom ++ [.jogs, .tram])
      State.takeSilence := rfl

/-- In a calm state each place takes SILENCE in turn, and no test of the waiting list admits a boom. -/
theorem State.presenceExpired_fold {s : State} (h : s.calm = true) : s.presenceExpired =
    ((s.silent.booms.map SilencePlace.boom).foldl State.takeSilence s.silent).zeroJogs.setTram false := by
  have hw : s.silent.arb.waiting = [] := State.calm_waiting h
  rw [State.presenceExpired_eq, hw]
  simp only [State.inOrder, List.isEmpty_nil, Bool.not_true, Bool.false_eq_true, if_false, List.foldl_append,
    List.foldl_cons, List.foldl_nil]
  have hoff := congrArg (fun s => s.arb.waiting) (State.foldl_silence hw).1
  generalize (s.silent.booms.map SilencePlace.boom).foldl State.takeSilence s.silent = z at hoff ⊢
  have hz : z.zeroJogs.testList = z.zeroJogs := State.testList_none (State.firstFit_nil (hoff.trans hw))
  simp only [State.takeSilence, hz]

/-- The expiry of the presence timer in a calm state: what stays, and every present boom's Sequencer (R209). -/
theorem State.presenceExpired_calm {s : State} (h : s.calm = true) :
    s.presenceExpired.offCycle = s.offSilence ∧
      ∀ b ∈ s.booms, s.presenceExpired.seq.get b = { (s.seq.get b).silenced with jogs := .zero } := by
  have hw : s.silent.arb.waiting = [] := State.calm_waiting h
  obtain ⟨hoff, hseq⟩ := State.foldl_silence hw
  rw [State.presenceExpired_fold h]
  generalize (s.silent.booms.map SilencePlace.boom).foldl State.takeSilence s.silent = z at hoff hseq ⊢
  refine ⟨?_, fun b hb => ?_⟩
  · have hz : (z.zeroJogs.setTram false).offCycle = { z.offCycle with indexJog := 0, tram := false } := rfl
    rw [hz, hoff]
    rfl
  · exact (z.zeroJogs_get b).trans (by rw [hseq b hb]; rfl)

/-- Settles O16. -/
theorem silenceReachesEveryBoom : Obligations.SilenceReachesEveryBoom := by
  intro s hp hcalm hrun
  obtain ⟨hoff, hseq⟩ := State.presenceExpired_calm hcalm
  have hcalm' : s.presenceExpired.calm = true :=
    (congrArg (fun z : State => z.calm) hoff).trans hcalm
  have hends : s.presenceExpired.Ends (s.finish s.presenceExpired) := State.finish_ends hcalm'
  have houter : (s.finish s.presenceExpired).outer = s.silentLine.outer :=
    (State.outer_finish _ _).trans s.presenceExpired_outer
  have hline := outer_line houter
  have hpres : (s.finish s.presenceExpired).link.presence = s.link.presence.expire (s.live P.presenceTimeout) :=
    congrArg Link.presence hline
  refine ⟨_, congrArg Host.Outcome.next (if_pos (by simp [hp, hrun])), congrArg Link.silence hline, ?_, ?_,
    hends.view State.indexJog |>.trans (congrArg State.indexJog hoff),
    hends.view State.store |>.trans (congrArg State.store hoff :),
    hends.view State.bits |>.trans (congrArg State.bits hoff :),
    hends.view State.rot |>.trans (congrArg State.rot hoff :),
    hends.view State.prof |>.trans (congrArg State.prof hoff :), ?_, fun b hb => ?_⟩
  · rw [hpres]
    rfl
  · rw [hends.tram_eq]
    have hoffTram : s.presenceExpired.tram = false := congrArg State.tram hoff
    unfold State.tramCheck
    split
    · rfl
    · exact hoffTram
  · rw [hpres]
    exact State.keeps_of_outer houter
  · rw [hends.view State.seq, hseq b hb]
    refine ⟨rfl, fun ha hm => ?_, fun hm => ?_, fun hq => ?_, fun ha hq => ?_⟩
    · rw [(s.seq.get b).silenced_automatic ha hm]
      exact ⟨rfl, rfl, rfl⟩
    · rw [Sequencer.silenced, if_pos hm]
      exact ⟨hm, rfl⟩
    · rw [Sequencer.silenced, if_neg (by simp [hq]), if_pos hq]
      exact ⟨hq, rfl⟩
    · have hm : (s.seq.get b).state ≠ .mixing := fun h => by simp [h, Phase.automatic] at ha
      rw [Sequencer.silenced, if_neg hm, if_neg hq, if_neg (by simp [ha])]

/-! ### SET_PARAM (R210, R211) -/

/-- The stored value is on the sent value's side of every value that the range and the window allow. -/
theorem State.storedValue_nearest (s : State) {r : ParamRow} {v x : Nat} (h1 : r.lo ≤ x) (h2 : x ≤ r.hi)
    (h3 : (s.window r).1 ≤ x) (h4 : x ≤ (s.window r).2) :
    (v ≤ x → s.storedValue r v ≤ x) ∧ (x ≤ v → x ≤ s.storedValue r v) := by
  simp only [State.storedValue, clampTo]
  omega

/-- The parameters whose write can end a wait or make an input active. -/
def waitParams : List Nat := [P.readyWait, P.passTimeout, P.stepTimeout, P.inputPolarityA, P.inputPolarityB]

/-- The write of any other parameter in a calm state lets no boom in, moves no route and closes no hole. -/
theorem State.paramWritten_calm {s u : State} (h : u.calm = true) {i : Nat} (hi : i ∉ waitParams) :
    (s.paramWritten u i).calm = true ∧ (s.paramWritten u i).store.queue = u.store.queue := by
  simp only [waitParams, List.mem_cons, List.not_mem_nil, or_false, not_or] at hi
  obtain ⟨h1, h2, h3, h4, h5⟩ := hi
  have hwear : ∀ (v : State) (p : Nat), (v.evalWorn p).calm = v.calm ∧ (v.evalWorn p).store.queue = v.store.queue := by
    intro v p
    unfold State.evalWorn
    dsimp only
    split
    · unfold State.markBitWorn
      split
      · exact ⟨rfl, rfl⟩
      · exact ⟨rfl, rfl⟩
    · exact ⟨rfl, rfl⟩
  unfold State.paramWritten
  simp only [if_neg h1, if_neg h2, if_neg h3, if_neg h4, if_neg h5]
  split
  · split
    · obtain ⟨hoff, -⟩ := State.presenceExpired_calm h
      exact ⟨(congrArg (fun z : State => z.calm) hoff).trans h, (congrArg (fun z : State => z.store.queue) hoff :)⟩
    · exact ⟨h, rfl⟩
  split
  · exact ⟨(foldl_keeps State.calm _ (fun v p => (hwear v p).1) _ _).trans h,
      foldl_keeps (fun v : State => v.store.queue) _ (fun v p => (hwear v p).2) _ _⟩
  split
  · exact ⟨h, rfl⟩
  · exact ⟨h, rfl⟩

/-- A write of PUMP_FLOW has no owner's rule of its own. -/
theorem State.paramWritten_pumpFlow (s u : State) : s.paramWritten u P.pumpFlow = u := rfl

/-- What is kept around the cycle is kept whatever the line holds, if both hold it. -/
theorem State.Keeps.anyLine {x t : State} (h : x.Keeps t) (l : Link) :
    ({ x with link := l } : State).Keeps { t with link := l } := by
  obtain ⟨h1, h2, h3, h4, h5, h6, h7, h8, h9, -, h11, h12⟩ := h
  exact ⟨h1, h2, h3, h4, h5, h6, h7, h8, h9, rfl, h11, h12⟩

/-- The owner's rule at a write keeps the state around the cycle but for the line. -/
theorem State.paramWritten_outer (s u : State) (i : Nat) :
    ∃ f, (s.paramWritten u i).outer = (u.modLink f).outer := by
  rcases State.paramWritten_cases s u i with h | ⟨h, -⟩
  · exact ⟨_, h ▸ u.presenceExpired_outer⟩
  · exact ⟨id, h⟩

/-- Settles O17. -/
theorem setParamStoresNearest : Obligations.SetParamStoresNearest := by
  intro tag body s hr hl hord
  have hlen := fixedLen_iff.mpr hl
  split
  · next hrow => exact State.answered hr hlen (by simp only [State.answerSetParam, hrow, State.refuse])
  · next r hrow =>
    have hindex : r.index = byteAt body 0 := (paramRow?_mem hrow).2
    rw [← hindex] at hrow
    let w := s.storedValue r (numAt body 1 4)
    let u := s.storeParam r.index w
    let x := s.paramWritten u r.index
    let t := x.finishFrom s.onStates (r.index = P.pumpFlow) false
    have hans : s.answerSetParam body =
        (t, if w = numAt body 1 4 then .ok else .clamped, u8 r.index ++ u32 w) := by
      unfold State.answerSetParam
      rw [← hindex]
      simp only [hrow]
      rfl
    obtain ⟨⟨hlo, hhi⟩, hwlo, hwhi⟩ := State.storedValue_mem hord hrow (numAt body 1 4)
    obtain ⟨f, hf⟩ := s.paramWritten_outer u r.index
    have hkeeps : (u.modLink f).Keeps t := State.keeps_of_outer ((State.outer_finishFrom ..).trans hf)
    have hparams : t.params = s.params.set r.index w := outer_params ((State.outer_finishFrom ..).trans hf)
    have hreplies : t.link.replies = s.link.replies :=
      congrArg Prod.fst (show t.exchange = s.exchange from (congrArg (fun a : Answer => a.1.exchange) hans).symm.trans
        (s.answerSetParam_safe body).2)
    refine ⟨_, w, State.answered hr hlen hans, hparams, ?_, fun hcalm hi => ?_, fun hcalm hi => ?_, hlo, hhi, hwlo, hwhi,
      fun v h1 h2 h3 h4 => s.storedValue_nearest h1 h2 h3 h4, ?_⟩
    · have hsame := hkeeps.anyLine (t.reply 0x03 tag (if w = numAt body 1 4 then .ok else .clamped) (u8 r.index ++ u32 w)).link
      have hp : (t.reply 0x03 tag (if w = numAt body 1 4 then .ok else .clamped) (u8 r.index ++ u32 w)).params =
        s.params.set r.index w := hparams
      rw [hp]
      exact hsame
    · obtain ⟨hx, hqueue⟩ := State.paramWritten_calm (s := s) (u := u) hcalm hi
      have hends : x.Ends t := State.finishFrom_ends hx _ _ _
      exact (hends.view (fun z => z.store.queue)).trans hqueue
    · have hx : x = u := by rw [show x = s.paramWritten u r.index from rfl, hi, State.paramWritten_pumpFlow]
      have hcomputed : (s.finishComputed u).FlowComputed :=
        State.finishComputed_computed (State.firstFit_nil (State.calm_waiting (s := u) hcalm)) (State.calm_still (s := u) hcalm)
      have ht : t = s.finishComputed u := by
        simp only [t, hx, hi, decide_true]
        rfl
      have hcomp : t.FlowComputed := by
        rw [ht]
        exact hcomputed
      exact FlowAgree.computed ⟨rfl, rfl, rfl, rfl, rfl, rfl, rfl, fun _ _ => rfl⟩ rfl hcomp
    · rw [State.reply_replies, hreplies]

end Sys2Proof.Machine
end

section
namespace Sys2Proof.Machine

/-! The proofs are elaborated one after another: side by side, so many ask for more threads than the memory holds. -/
set_option Elab.async false

/-! ### The open record, read and changed (R192) -/

section
variable {s : State} {b : Boom} {r : HoleRecord}

theorem State.hp_of_rec (h : s.rec? b = some r) (i : Nat) : s.hp b i = r.param i := by
  simp only [State.hp, h]
  rfl

theorem State.modRec_of_rec (h : s.rec? b = some r) (f : HoleRecord → HoleRecord) :
    s.modRec b f = { s with store := { s.store with opened := s.store.opened.set b (some (f r)) } } := by
  have ho : s.store.opened.get b = some r := h
  simp only [State.modRec, State.modStore, ho, Option.map_some]

/-- The Governor at its entry into CLIMB: the collar targets, the band at the maximum depth, and the demands of the
latest sample (R68, R79). -/
theorem State.startClimb_eq (h : s.rec? b = some r) : s.startClimb b = { s with gov := s.gov.set b { s.gov.get b with
    stage := .climb, backingOff := false, lastFeed := (s.head.get b).feed, feedTarget := r.param P.collarFeed
    rpmTarget := r.param P.collarRpm, thrustCap := r.param (P.thrustCap + 1)
    band := r.bandAt (s.prof.get b).maxDepth
    feedUp := feedStep (r.param P.collarFeed * r.param P.feedFlowScale) (r.param (P.thrustCap + 1)) (s.head.get b).thrust
    feedDown := 0, rotFwd := r.param P.collarRpm * r.param P.rotDisplacement / 100, flush := true } } := by
  have hband : s.bandInForce b = r.bandAt (s.prof.get b).maxDepth := by
    simp only [State.bandInForce, State.bandCopy, h]
    rfl
  simp only [State.startClimb, State.modGov, State.targetDemands, State.collarTargets, State.rotFlow,
    State.hp_of_rec h, hband]
  rfl

end

/-! ### REDRILL (R12, R56, R79) -/

/-- The entry into DRILLING by REDRILL, written as the record it leaves. -/
theorem State.enterRedrill_eq {s : State} {b : Boom} {r : HoleRecord} (h : s.rec? b = some r)
    (hfree : s.blocked b .drilling = false) :
    let r' : HoleRecord := { r with spec := { r.spec with planned := r.spec.boltLen } }
    let q := { (s.seq.get b).enter .drilling with state := .drilling }
    let y := ({ s with store := { s.store with opened := s.store.opened.set b (some r') }
                       seq := s.seq.set b q, prof := s.prof.set b (s.prof.get b).redrill }).report
      (phaseNote b (s.seq.get b).state q)
    s.enterRedrill b = (y.startClimb b).clearRotation b := by
  intro r' q y
  unfold State.enterRedrill
  rw [State.modRec_of_rec h]
  dsimp only
  refine (if_neg (ne_true_of_eq_false hfree)).trans ?_
  rw [State.enterPhase_eq]
  rfl

/-- Settles O21. -/
theorem decideRedrills : Obligations.DecideRedrills := by
  intro tag body s b r hr hcalm hl hb hq hbyte hyes hrec hfree q p full cap h g
  have hc : choiceOfByte (byteAt body 1) = some .redrill := by rw [hbyte]; rfl
  have hans := State.answerDecide_taken hb hc hq hyes
  refine State.answered_ends hr (fixedLen_iff.mpr hl) hans ?_ (State.still_of_calm hcalm)
  have hdecided : s.decideTaken b .redrill = State.enterRedrill { s with
      store := { s.store with opened := s.store.opened.set b (some { r with decision := some .redrill }) }
      seq := s.seq.set b { s.seq.get b with choices := .empty } } b := by
    unfold State.decideTaken
    rw [State.modRec_of_rec hrec]
    rfl
  refine hdecided.trans ((State.enterRedrill_eq (r := { r with decision := some .redrill })
    (by exact PerBoom.get_set_same _ _ _) (by exact hfree)).trans ?_)
  refine (congrArg (State.clearRotation · b) (State.startClimb_eq
    (r := { r with decision := some .redrill, spec := { r.spec with planned := r.spec.boltLen } })
    (by exact PerBoom.get_set_same _ _ _))).trans ?_
  simp only [State.clearRotation, State.modRot, State.report, State.modLink, PerBoom.get_set_same, PerBoom.set_set, hq]
  rfl

/-! ### RELEASING (R5, R16, R28) -/

theorem State.mayRelease_iff {s : State} {b : Boom} : s.mayRelease b = true ↔ s.blocked b .releasing = false ∧
    (s.active b Input.feedRetracted = true → s.active b Input.jackLowered = false) := by
  simp only [State.mayRelease, Bool.and_eq_true, Bool.not_eq_true', Bool.and_eq_false_iff]
  refine and_congr_right fun _ => ?_
  cases h : s.active b 0 <;> simp

/-- What the entry into RELEASING reads of the state that the phase's workers leave. -/
structure State.LeavesAs (s y : State) (b : Boom) : Prop where
  seq : y.seq = s.seq
  head : y.head = s.head
  params : y.params = s.params
  diu : y.diu = s.diu
  valve : y.valve = s.valve
  arb : y.arb = s.arb
  hp : y.hp b = s.hp b

/-- JACK_DOWN is put where FEED_RETRACTED is already active, and JACK_LOWERED is not (R5, R16). -/
theorem State.testReleasing_eq {z : State} {b : Boom} (hq : (z.seq.get b).state = .releasing)
    (hj : (z.seq.get b).jackDownStarted = false)
    (hlow : z.active b Input.feedRetracted = true → z.active b Input.jackLowered = false) :
    z.testReleasing b = if z.active b Input.feedRetracted then
        { z with seq := z.seq.set b { z.seq.get b with
            feedDown := 0, jackDown := z.valve.qmaxOf (.boom b .jackDown), jackDownStarted := true } }
      else z := by
  unfold State.testReleasing
  by_cases hact : z.active b Input.feedRetracted = true
  · have hnot : ∀ f, ¬ (z.modSeq b f).active b Input.jackLowered = true := fun _ => ne_true_of_eq_false (hlow hact)
    refine (if_pos (by simp [hq, hj, hact])).trans ?_
    unfold State.startJackDown
    dsimp only
    rw [if_neg (hnot _), if_pos hact]
    rfl
  · refine (if_neg (by simp [hact])).trans (if_neg hact).symm

/-- The entry into RELEASING of a boom that it neither halts nor takes to IDLE: the workers of the phase it leaves,
the reservation, the Sequencer and its PHASE report (R16, R28, R157). -/
theorem State.toReleasing_eq {s y : State} {b : Boom} {c : Closing} (hmay : s.mayRelease b = true)
    (hy : s.leavePhase b .interrupted = y) (h : s.LeavesAs y b) (hc : (s.seq.get b).closing = some c)
    (hstand : (s.seq.get b).state = .halted → s.clearOfCauses b = true)
    (hw : (s.phase b).reserves = true → s.arb.waiting.filter (fun x => x ≠ b) = []) :
    s.toReleasing b = ({ (if (s.phase b).reserves then y.dropReservation b else y) with
        seq := s.seq.set b (s.releasedSeq b c (s.seq.get b)) }).report
      (phaseNote b (s.seq.get b).state (s.releasedSeq b c (s.seq.get b))) := by
  obtain ⟨hblocked, hlow⟩ := State.mayRelease_iff.mp hmay
  obtain ⟨hseq, hhead, hparams, hdiu, hvalve, harb, hhp⟩ := h
  have hactive : ∀ (z : State) k, z.head = s.head → z.params = s.params → z.active b k = s.active b k := by
    intro z k h1 h2
    cases b <;> simp only [State.active, State.polarity, State.live, h1, h2]
  have hfeed : y.approachFlow b = s.hp b P.approachFeed * s.hp b P.feedFlowScale := by
    simp only [State.approachFlow, hhp]
  let q := { ((s.seq.get b).enter .releasing).noDemands with
    feedDown := s.hp b P.approachFeed * s.hp b P.feedFlowScale, state := .releasing }
  let w := if (s.phase b).reserves then y.dropReservation b else y
  let z := ({ w with seq := s.seq.set b q }).report (phaseNote b (s.seq.get b).state q)
  have hwhead : w.head = s.head ∧ w.params = s.params ∧ w.diu = s.diu ∧ w.valve = s.valve := by
    simp only [w]
    split
    · exact ⟨hhead, hparams, hdiu, hvalve⟩
    · exact ⟨hhead, hparams, hdiu, hvalve⟩
  obtain ⟨hwhead, hwparams, hwdiu, hwvalve⟩ := hwhead
  have hzact : ∀ k, z.active b k = s.active b k := fun k => hactive z k hwhead hwparams
  have hclear : (s.seq.get b).state = .halted → z.clearOfCauses b = true := by
    intro hh
    have hst : z.standing b = s.standing b := by
      simp only [State.standing, hzact]
      rw [show z.diu = s.diu from hwdiu, show z.head = s.head from hwhead]
    rw [State.clearOfCauses, hst]
    exact hstand hh
  have hentered : y.enterPhase b .releasing (fun q => { q.noDemands with feedDown := y.approachFlow b }) =
      ({ y with seq := s.seq.set b q }).report (phaseNote b (s.seq.get b).state q) := by
    rw [State.enterPhase_eq, hseq, hfeed]
  have hreleased : (({ y with seq := s.seq.set b q }).report (phaseNote b (s.seq.get b).state q)).releaseFrom b
      (s.phase b) = z := by
    unfold State.releaseFrom
    by_cases hres : (s.phase b).reserves = true
    · have hwz : z = (({ y with seq := s.seq.set b q }).report (phaseNote b (s.seq.get b).state q)).dropReservation b := by
        simp only [z, w, if_pos hres]
        rfl
      rw [if_pos hres, ← hwz]
      refine State.testList_none (State.firstFit_nil ?_)
      rw [hwz]
      show y.arb.waiting.filter _ = []
      rw [harb]
      exact hw hres
    · rw [if_neg hres]
      simp only [z, w, if_neg hres]
  have hz : s.toReleasing b = z.testReleasing b := by
    unfold State.toReleasing
    refine (if_neg (ne_true_of_eq_false hblocked)).trans ?_
    dsimp only
    rw [hy, hentered, hreleased]
    split
    · next hh => rw [State.takeStanding_clear (hclear (by simpa using hh))]
    · rfl
  have hzq : z.seq.get b = q := PerBoom.get_set_same _ _ _
  rw [hz, State.testReleasing_eq (by rw [hzq]) (by rw [hzq]; rfl) (by rw [hzact, hzact]; exact hlow), hzq, hzact]
  have hq : s.releasedSeq b c (s.seq.get b) = if s.active b Input.feedRetracted then
      { q with feedDown := 0, jackDown := s.valve.qmaxOf (.boom b .jackDown), jackDownStarted := true } else q := by
    have hclosing : (s.seq.get b).releasing (s.hp b P.approachFeed * s.hp b P.feedFlowScale) c = q := by
      simp only [Sequencer.releasing, q, Sequencer.noDemands, Sequencer.enter, hc]
      rfl
    simp only [State.releasedSeq, hclosing]
  have hnote : phaseNote b (s.seq.get b).state (s.releasedSeq b c (s.seq.get b)) =
      phaseNote b (s.seq.get b).state q := by
    rw [hq]
    split
    · rfl
    · rfl
  rw [hnote, hq]
  split
  · have hvalvez : z.valve.qmaxOf (.boom b .jackDown) = s.valve.qmaxOf (.boom b .jackDown) :=
      congrArg (Valve.qmaxOf · _) hwvalve
    rw [hvalvez]
    simp only [z, State.report, State.modLink, PerBoom.set_set]
    rfl
  · rfl

end Sys2Proof.Machine
end

section
namespace Sys2Proof.Machine

/-! The proofs are elaborated one after another: side by side, so many ask for more threads than the memory holds. -/
set_option Elab.async false

/-! ### The wait for the injector, taken again at the end of the event (R132) -/

/-- The Indexer once its wait for the injector has been looked at. -/
def State.injectorSeen (s : State) : Indexer :=
  if s.idx.state = .awaitReady then
    match s.idx.queue.head? with
    | some r =>
      if s.requesterPaused r.boom then { s.idx with readyTimer := s.idx.readyTimer.hold }
      else if s.active r.boom Input.injectorReady then s.idx.eject
      else { s.idx with readyTimer := s.idx.readyTimer.resume }
    | none => s.idx
  else s.idx

theorem State.readySync_eq (s : State) : s.readySync = { s with idx := s.injectorSeen } := by
  unfold State.readySync State.injectorSeen
  split
  · cases s.idx.queue.head? with
    | none => rfl
    | some r =>
      dsimp only
      split
      · rfl
      · split
        · rfl
        · rfl
  · rfl

theorem State.injectorSeen_again (s : State) : ({ s with idx := s.injectorSeen } : State).injectorSeen = s.injectorSeen := by
  by_cases hst : s.idx.state = .awaitReady
  · cases hq : s.idx.queue.head? with
    | none =>
      have h : s.injectorSeen = s.idx := by simp only [State.injectorSeen, if_pos hst, hq]
      rw [h]
      exact h
    | some r =>
      by_cases hp : s.requesterPaused r.boom = true
      · have h : s.injectorSeen = { s.idx with readyTimer := s.idx.readyTimer.hold } := by
          simp only [State.injectorSeen, if_pos hst, hq, if_pos hp]
        rw [h]
        simp only [State.injectorSeen]
        rw [if_pos (by exact hst)]
        simp only [hq]
        exact if_pos hp
      · by_cases ha : s.active r.boom Input.injectorReady = true
        · have h : s.injectorSeen = s.idx.eject := by
            simp only [State.injectorSeen, if_pos hst, hq, if_neg hp, if_pos ha]
          rw [h]
          exact if_neg (by simp [Indexer.eject])
        · have h : s.injectorSeen = { s.idx with readyTimer := s.idx.readyTimer.resume } := by
            simp only [State.injectorSeen, if_pos hst, hq, if_neg hp, if_neg ha]
          rw [h]
          simp only [State.injectorSeen]
          rw [if_pos (by exact hst)]
          simp only [hq]
          exact (if_neg hp).trans (if_neg ha)
  · have h : s.injectorSeen = s.idx := if_neg hst
    rw [h]
    exact h

theorem State.injectorSeen_flushed (x : State) :
    ((x.tramCheck.flushSync .A).flushSync .B).injectorSeen = x.injectorSeen := by
  unfold State.tramCheck
  split
  · rfl
  · rfl

theorem State.afterEvent_eq_injectorSeen (x : State) :
    x.afterEvent = { (x.tramCheck.flushSync .A).flushSync .B with idx := x.injectorSeen } := by
  unfold State.afterEvent
  rw [State.readySync_eq, State.injectorSeen_flushed]

theorem State.readySync_afterEvent (x : State) : x.readySync.afterEvent = x.afterEvent := by
  have htram : ({ x with idx := x.injectorSeen } : State).tramCheck = { x.tramCheck with idx := x.injectorSeen } := by
    by_cases h : (x.tram && x.booms.any fun b => !x.active b Input.jackLowered) = true
    · rw [show x.tramCheck = x.setTram false from if_pos h]
      exact if_pos h
    · rw [show x.tramCheck = x from if_neg h]
      exact if_neg h
  rw [State.readySync_eq, State.afterEvent_eq_injectorSeen, State.afterEvent_eq_injectorSeen, State.injectorSeen_again, htram]
  rfl

/-- An event that has already looked at the wait for the injector ends as one that has not. -/
theorem State.Ends.of_readySync {x t : State} (h : x.readySync.Ends t) : x.Ends t := by
  obtain ⟨hcore, ⟨hstale, hflow⟩, hduty⟩ := h
  refine ⟨hcore.trans (congrArg State.core x.readySync_afterEvent), ⟨hstale, ?_⟩, hduty⟩
  refine hflow.imp_right fun ⟨hs, hf, hu⟩ => ⟨(State.readySync_agree x).stale.symm.trans hs, ?_, ?_⟩
  · exact hf.trans (congrArg Arbiter.flow (State.readySync_agree x).arb)
  · exact hu.trans (congrArg Arbiter.unused (State.readySync_agree x).arb)

/-! ### The way to a slot, and the take of a request (R128 to R130, R135) -/

section
variable {s : State} {n : Nat}

/-- With INDEX not FAILED the Indexer is on its way to the selected slot, or waits at it for the injector. -/
theorem State.startPositioning_eq (hsel : s.idx.selected = some n) (hf : s.valve.isFailed .index = false)
    (hhome : s.idx.position = none → s.diu.indexHome = false) :
    s.startPositioning = State.readySync { s with idx := s.idx.toward (s.live P.indexFlow) n } := by
  cases hpos : s.idx.position with
  | none =>
    have hstate : (s.idx.toward (s.live P.indexFlow) n).state ≠ .awaitReady := by
      simp [Indexer.toward, hpos]
    have hrest : State.readySync { s with idx := s.idx.toward (s.live P.indexFlow) n } =
        { s with idx := s.idx.toward (s.live P.indexFlow) n } := if_neg hstate
    rw [hrest]
    simp only [State.startPositioning, State.modIdx_idx, hpos]
    refine (if_neg (ne_true_of_eq_false (hhome hpos))).trans ((if_neg (ne_true_of_eq_false hf)).trans ?_)
    have hto : s.idx.toward (s.live P.indexFlow) n =
        { s.idx with state := .positioning, homing := true, homeCount := 0, demand := s.live P.indexFlow
                     stepTimer := .start } := by
      simp only [Indexer.toward, hpos]
      rfl
    rw [hto]
    rfl
  | some p =>
    simp only [State.startPositioning, State.modIdx_idx, hpos, State.startMove, hsel]
    by_cases hk : stepsBetween s.idx.slots.length p n = 0
    · have hto : s.idx.toward (s.live P.indexFlow) n =
          { s.idx with state := .awaitReady, remaining := 0, demand := 0, stepTimer := s.idx.stepTimer.hold
                       readyTimer := .zero } := by
        simp only [Indexer.toward, hpos]
        exact if_pos hk
      rw [if_pos hk, hto, hk]
      rfl
    · have hto : s.idx.toward (s.live P.indexFlow) n =
          { s.idx with state := .positioning, remaining := stepsBetween s.idx.slots.length p n
                       demand := s.live P.indexFlow, stepTimer := .start } := by
        simp only [Indexer.toward, hpos]
        exact if_neg hk
      have hrest : State.readySync { s with idx := s.idx.toward (s.live P.indexFlow) n } =
          { s with idx := s.idx.toward (s.live P.indexFlow) n } := if_neg (by rw [hto]; simp)
      rw [if_neg hk, hrest, hto]
      exact if_neg (ne_true_of_eq_false hf)

theorem State.takeSlot_eq (fresh : Bool) (hf : s.valve.isFailed .index = false)
    (hhome : s.idx.position = none → s.diu.indexHome = false) :
    let x : Indexer := { s.idx with selected := some n, stopMark := if fresh then false else s.idx.stopMark }
    s.takeSlot n fresh = State.readySync { s with idx := x.toward (s.live P.indexFlow) n } :=
  State.startPositioning_eq (s := s.modIdx fun x =>
    { x with selected := some n, stopMark := if fresh then false else x.stopMark }) rfl hf hhome

/-- What the Indexer becomes that serves a request without a LOADED slot of its type (R135). -/
def Indexer.starving (x : Indexer) : Indexer :=
  { x with state := .starved, demand := 0, selected := none, stepTimer := x.stepTimer.hold
           readyTimer := x.readyTimer.hold, passTimer := x.passTimer.hold }

theorem State.takeHead_found {r : Burst} {rest : List Burst} (fresh : Bool) (hq : s.idx.queue = r :: rest)
    (hslot : s.idx.slotFor r = some n) : s.takeHead fresh = s.takeSlot n fresh := by
  simp only [State.takeHead, hq, List.head?_cons, hslot]

theorem State.takeHead_starved {r : Burst} {rest : List Burst} (fresh : Bool) (hq : s.idx.queue = r :: rest)
    (hslot : s.idx.slotFor r = none) : s.takeHead fresh =
      (({ s with idx := s.idx.starving } : State).report
        (.magazine (.starved r.boom (r.wanted.getD .fast)))).trySetAside := by
  simp only [State.takeHead, hq, List.head?_cons, hslot]
  rfl

theorem State.trySetAside_alone {r : Burst} (hq : s.idx.queue = [r]) : s.trySetAside = s := by
  simp only [State.trySetAside, hq]

theorem State.trySetAside_found {r w : Burst} (hq : s.idx.queue = [r, w]) (hslot : s.idx.slotFor w = some n) :
    s.trySetAside = State.takeSlot { s with idx := { s.idx with queue := [w, r] } } n true := by
  simp only [State.trySetAside, hq, hslot]
  rfl

theorem State.trySetAside_none {r w : Burst} (hq : s.idx.queue = [r, w]) (hslot : s.idx.slotFor w = none) :
    s.trySetAside = s := by
  simp only [State.trySetAside, hq, hslot]

theorem State.postBurst_eq {b : Boom} {r : HoleRecord} (hrec : s.rec? b = some r) (he : s.diu.estop = false) :
    let burst : Burst := { boom := b, hole := r.number, types := (r.plan.bind Plan.types).getD [], progress := 0
                           delivered := [] }
    let y : State := { s with indexJog := 0, idx := { s.idx with queue := s.idx.queue ++ [burst] } }
    s.postBurst b = match s.idx.state with
      | .idle => y.takeHead true
      | .starved => y.trySetAside
      | _ => y := by
  intro burst y
  simp only [State.postBurst, hrec]
  exact if_neg (ne_true_of_eq_false he)

end

/-! ### PROCEED, EXTRA_FAST and ABANDON (R12, R13, R91) -/

/-- A state in RESIN_INSERT with its burst to post: the decision and the completed plan in the record. -/
theorem State.decideTaken_insert {s : State} {b : Boom} {c : Choice} {r : HoleRecord} {p : Plan}
    (hc : c = .proceed ∨ c = .extraFast) (hrec : s.rec? b = some r) (hplan : r.plan = some p) :
    let ready := r.complete p (if c = .proceed then r.spec.fastCount else r.spec.fastCount + 1)
    let q' := { (s.seq.get b).entering .resinInsert false with choices := .empty }
    s.decideTaken b c = State.postBurst (({ s with
      store := { s.store with opened := s.store.opened.set b (some { r with decision := some c, plan := some ready }) }
      seq := s.seq.set b q' }).report (phaseNote b (s.seq.get b).state q')) b := by
  intro ready q'
  have hdecided : ∀ extra, (if c = .proceed then r.spec.fastCount else r.spec.fastCount + 1) = r.spec.fastCount + extra →
      State.completePlan ((s.modRec b fun r => { r with decision := some c }).modSeq b fun q =>
        { q with choices := .empty }) b extra = { s with
          store := { s.store with
            opened := s.store.opened.set b (some { r with decision := some c, plan := some ready }) }
          seq := s.seq.set b { s.seq.get b with choices := .empty } } := by
    intro extra hextra
    rw [State.modRec_of_rec hrec]
    refine (State.modRec_of_rec (r := { r with decision := some c }) (by exact PerBoom.get_set_same _ _ _) _).trans ?_
    simp only [State.modSeq, PerBoom.set_set, hplan, Option.map_some, ready, hextra]
    rfl
  have henter : ∀ extra, (if c = .proceed then r.spec.fastCount else r.spec.fastCount + 1) = r.spec.fastCount + extra →
      (State.completePlan ((s.modRec b fun r => { r with decision := some c }).modSeq b fun q =>
        { q with choices := .empty }) b extra).enterResinInsert b = _ := fun extra hextra => by
    rw [hdecided extra hextra, State.enterResinInsert, State.enterPhase_eq]
  rcases hc with rfl | rfl
  · refine (henter 0 rfl).trans ?_
    simp only [PerBoom.get_set_same, PerBoom.set_set]
    rfl
  · refine (henter 1 rfl).trans ?_
    simp only [PerBoom.get_set_same, PerBoom.set_set]
    rfl

/-- A request that leaves a still state in which the wait for the injector has been looked at. -/
theorem State.answered_seen {s x y : State} {body : List Byte} {len : List Byte → Bool} {kind tag : Byte}
    {f : State → Answer} {r : Result} {c : List Byte} (h : s.ready = true) (hl : len body = true)
    (hf : f s = s.done x r c) (hx : x = y.readySync) (hy : y.still = true) :
    ∃ t, Host.Outcome.next (ρ := Refusal) (φ := Fault) (s.takeRequest kind tag body len f) = .next t ∧
      (y.reply kind tag r c).Ends t := by
  have hseen : y.readySync.still = true := by
    rw [State.readySync_eq]
    exact hy
  have hreply : y.readySync.reply kind tag r c = (y.reply kind tag r c).readySync := by
    rw [State.readySync_eq, State.readySync_eq]
    rfl
  obtain ⟨t, he, hends⟩ := State.answered_ends (kind := kind) (tag := tag) h hl hf hx hseen
  rw [hreply] at hends
  exact ⟨t, he, hends.of_readySync⟩

/-- Settles O20. -/
theorem decideOrdersTheBurst : Obligations.DecideOrdersTheBurst := by
  intro tag body s b c r hr hcalm hl hb hq hc hhas hrec q x
  have hlen := fixedLen_iff.mpr hl
  have hans := State.answerDecide_taken hb hc hq hhas
  refine ⟨?abandon, ?burst⟩
  case abandon =>
    intro hca hmay q'
    refine State.answered_ends hr hlen hans ?_ (State.still_of_calm hcalm)
    subst hca
    let s1 : State := { s with
      store := { s.store with opened := s.store.opened.set b (some { r with decision := some .abandon }) }
      seq := s.seq.set b { s.seq.get b with choices := .empty, closing := some .aborted } }
    have hdecided : s.decideTaken b .abandon = s1.toReleasing b := by
      unfold State.decideTaken
      rw [State.modRec_of_rec hrec]
      simp only [s1, State.modSeq, PerBoom.get_set_same, PerBoom.set_set]
    have hhp : ∀ i, s1.hp b i = s.hp b i := fun i =>
      (State.hp_of_rec (r := { r with decision := some .abandon }) (by exact PerBoom.get_set_same _ _ _) i).trans (State.hp_of_rec hrec i).symm
    have hphase : s1.phase b = .awaitDecision := by
      simp only [State.phase, s1, PerBoom.get_set_same]
      exact (if_neg (by simp [hq])).trans hq
    have hleave : s1.leavePhase b .interrupted = s1 := by
      simp only [State.leavePhase, hphase]
      rfl
    have hrel : s1.releasedSeq b .aborted (s1.seq.get b) = q' := by
      have hact : s1.active b Input.feedRetracted = s.active b Input.feedRetracted := rfl
      simp only [q', State.releasedSeq, hhp, hact, s1, PerBoom.get_set_same]
      split
      · rfl
      · rfl
    refine hdecided.trans ((State.toReleasing_eq (s := s1) hmay hleave ⟨rfl, rfl, rfl, rfl, rfl, rfl, rfl⟩
      (c := .aborted) (by simp [s1]) (by simp [s1, hq]) (by simp [hphase, Phase.reserves])).trans ?_)
    have hstate : (s1.seq.get b).state = .awaitDecision := by
      simp only [s1, PerBoom.get_set_same]
      exact hq
    rw [hrel, hstate, hphase]
    simp only [s1, PerBoom.set_set]
    rfl
  case burst =>
    intro hcb he p hplan ready q' types burst posted starving
    let z : State := ({ s with
      store := { s.store with opened := s.store.opened.set b (some { r with decision := some c, plan := some ready }) }
      seq := s.seq.set b q' }).report (phaseNote b q.state q')
    have hz : z.rec? b = some { r with decision := some c, plan := some ready } := PerBoom.get_set_same _ _ _
    have hposted : ∀ y, posted y = { z with indexJog := 0, idx := y } := by
      intro y
      simp only [posted, z, q, hq]
      rfl
    have hpost : ∀ st, x.state = st → s.decideTaken b c = match st with
        | .idle => (posted { x with queue := x.queue ++ [burst] }).takeHead true
        | .starved => (posted { x with queue := x.queue ++ [burst] }).trySetAside
        | _ => posted { x with queue := x.queue ++ [burst] } := by
      rintro st rfl
      rw [hposted]
      exact (State.decideTaken_insert hcb hrec hplan).trans (State.postBurst_eq (s := z) hz he)
    have hwanted : ∀ ty, types.head? = some ty → ∀ y : Indexer, y.slotFor burst = y.select ty := by
      intro ty hty y
      have hw : burst.wanted = some ty := by rw [← hty, List.head?_eq_getElem?]; rfl
      simp only [Indexer.slotFor, hw, Option.bind_some]
    have hstill : ∀ y, (posted y).still = true := fun y => State.still_of_calm (s := posted y) hcalm
    have htake : ∀ (y : Indexer) n, y.position = x.position → (x.position = none → s.diu.indexHome = false) →
        s.valve.isFailed .index = false → (posted y).takeSlot n true =
          State.readySync (posted (Indexer.toward { y with selected := some n, stopMark := false } (s.live P.indexFlow) n)) :=
      fun y n hy hhome hf => State.takeSlot_eq (s := posted y) true hf (fun h => hhome (hy ▸ h))
    refine ⟨?waits, ?fromIdle, ?fromStarved⟩
    case waits =>
      intro hi hs
      refine State.answered_ends hr hlen hans ((hpost _ rfl).trans ?_) (hstill _)
      split
      · next h => exact absurd h hi
      · next h => exact absurd h hs
      · rfl
    case fromIdle =>
      intro hi hqueue ty hty
      have htaken : s.decideTaken b c = (posted { x with queue := [burst] }).takeHead true := by
        rw [hpost .idle hi, hqueue]
        rfl
      have hfound : ∀ n, x.select ty = some n → s.decideTaken b c = (posted { x with queue := [burst] }).takeSlot n true :=
        fun n hn => htaken.trans (State.takeHead_found true rfl ((hwanted ty hty _).trans hn))
      refine ⟨fun n hn hf hpos hhome => ?_, fun n hn hf p' hpos => ?_, fun hn => ?_⟩
      · exact State.answered_seen hr hlen hans ((hfound n hn).trans (htake _ n rfl (fun _ => hhome) hf)) (hstill _)
      · exact State.answered_seen hr hlen hans
          ((hfound n hn).trans (htake _ n rfl (fun h => absurd (hpos.symm.trans h) (by simp)) hf)) (hstill _)
      · have hw : burst.wanted.getD .fast = ty := by
          rw [show burst.wanted = some ty by rw [← hty, List.head?_eq_getElem?]; rfl]
          rfl
        have hstarve := htaken.trans (State.takeHead_starved (s := posted { x with queue := [burst] }) true rfl
          ((hwanted ty hty _).trans hn))
        rw [hw] at hstarve
        refine State.answered_ends hr hlen hans (hstarve.trans (State.trySetAside_alone rfl))
          (State.still_of_calm (s := (posted { starving with queue := [burst] }).report _) hcalm)
    case fromStarved =>
      intro hs old hqueue ty hty
      have htested : s.decideTaken b c = (posted { x with queue := [old, burst] }).trySetAside := by
        rw [hpost .starved hs, hqueue]
        rfl
      refine ⟨fun n hn hf p' hpos => ?_, fun hn => ?_⟩
      · have hfound := htested.trans (State.trySetAside_found (s := posted { x with queue := [old, burst] }) rfl
          ((hwanted ty hty _).trans hn))
        exact State.answered_seen hr hlen hans
          (hfound.trans (htake _ n rfl (fun h => absurd (hpos.symm.trans h) (by simp)) hf)) (hstill _)
      · exact State.answered_ends hr hlen hans (htested.trans (State.trySetAside_none
          (s := posted { x with queue := [old, burst] }) rfl ((hwanted ty hty _).trans hn))) (hstill _)

end Sys2Proof.Machine
end

section
namespace Sys2Proof.Machine

/-! The proofs are elaborated one after another: side by side, so many ask for more threads than the memory holds. -/
set_option Elab.async false

/-! ### The expiries of a boom's timers (R6, R77, R111) -/

/-- An expiry that leaves a still state. -/
theorem State.ends_when {s x y : State} {c : Prop} [Decidable c] (hc : c) (hx : x = y) (hy : y.still = true) :
    ∃ t, Host.Outcome.next (ρ := Refusal) (φ := Fault) (if c then s.finish x else s) = .next t ∧ y.Ends t := by
  subst hx
  exact ⟨s.finish x, congrArg _ (if_pos hc), State.finish_ends_of_still hy⟩

/-- The entry into TORQUING: the figures at 0, the demands put, the rotation timer cleared (R113). -/
theorem State.enterTorquing_eq {s : State} {b : Boom} (hfree : s.blocked b .torquing = false) :
    let q := (s.seq.get b).entering .torquing true
    let c : Setting := { s.sett.get b with
      stage := .torque, turns := 0, angle := 0, peak := 0, snug := none, verdict := none
      feedUp := s.hp b P.holdFeedFlow, rotFwd := s.hp b P.torqueRpm * s.hp b P.rotDisplacement / 100 }
    s.enterTorquing b = ({ s with seq := s.seq.set b q, sett := s.sett.set b c
                                  rot := s.rot.set b (s.rot.get b).cleared }).report
      (phaseNote b (s.seq.get b).state q) := by
  intro q c
  unfold State.enterTorquing
  rw [if_neg (ne_true_of_eq_false hfree), State.enterPhase_eq]
  rfl

/-- Settles O30. -/
theorem workerTimersExpire : Obligations.WorkerTimersExpire := by
  intro b s r hpow hpres hcalm hrec q c stopped rec' store'
  have hsees : s.sees b = true := by simp [State.sees, hpow, hpres]
  have helapsed : ∀ f : Setting → Setting, (s.modSett b f).writeElapsed b c.holdMs =
      { s with store := store', sett := s.sett.set b (f c) } := fun f => State.modRec_of_rec (s := s.modSett b f) hrec _
  refine ⟨?hold, ?paused, ?flush⟩
  case hold =>
    intro hq hrun hfree q' c'
    refine State.ends_when (by simp [hsees, State.phase, Sequencer.phase, show (s.seq.get b).state = .gelHold from hq,
      show (s.sett.get b).gelTimer.running = true from hrun]) ?_ (State.still_of_calm hcalm)
    unfold State.gelExpired
    dsimp only
    rw [helapsed]
    let y : State := { s with store := store', sett := s.sett.set b { c with gelTimer := stopped } }
    have hp := State.hp_of_rec (s := y) (b := b) (r := rec') (PerBoom.get_set_same _ _ _)
    have hto := State.enterTorquing_eq (s := y) hfree
    rw [hp, hp, hp] at hto
    refine (if_pos hq).trans (hto.trans ?_)
    simp only [y, PerBoom.get_set_same, PerBoom.set_set]
    rw [show (s.seq.get b).state = .gelHold from hq]
    rfl
  case paused =>
    intro hq hret hrun
    refine State.ends_when (by simp [hsees, State.phase, Sequencer.phase, show (s.seq.get b).state = .paused from hq,
      show (s.seq.get b).returnPhase = _ from hret, show (s.sett.get b).gelTimer.running = true from hrun]) ?_
      (State.still_of_calm hcalm)
    unfold State.gelExpired
    dsimp only
    rw [helapsed]
    refine (if_neg ?_).trans rfl
    rw [show (s.seq.get b).state = .paused from hq]
    simp
  case flush =>
    intro hq hrun q' g'
    refine State.ends_when (by simp [hsees, show (s.seq.get b).state = .drilling from hq, hrun]) ?_ (State.still_of_calm hcalm)
    have hq' : (s.seq.get b).state = .drilling := hq
    refine (State.arrive_automatic (by exact hq'.symm ▸ rfl) (by exact hq'.symm ▸ by decide) _).trans
      ((State.pauseBoom_eq _ b .flush).trans ?_)
    simp only [State.modGov, hq', Governor.suspended, Setting.pause, PerBoom.set_get, PerBoom.set_set, PerBoom.get_set_same]
    rfl

/-! ### What the drilling workers change when the boom leaves their phase (R55, R70) -/

/-- A record without what drilling writes into it. -/
def HoleRecord.undrilled (r : HoleRecord) : HoleRecord :=
  { r with segments := [], layers := none, drilledDepth := none, drillOutcome := none, profileFull := false
           bitWorn := false }

/-- From `s` to `t` only boom `b`'s drilling workers, the open records in what drilling writes, the bits and at most
`n` more reports have changed. -/
structure State.DrillOnly (n : Nat) (b : Boom) (s t : State) : Prop where
  frame : ∃ l p g o bs, t = { s with
    link := l, prof := s.prof.set b p, gov := s.gov.set b g, store := { s.store with opened := o }, bits := bs }
  record : ∀ b', (t.rec? b').map HoleRecord.undrilled = (s.rec? b').map HoleRecord.undrilled
  told : ∃ l, t.link.reports = s.link.reports ++ l ∧ l.length ≤ n

namespace State.DrillOnly
variable {n m : Nat} {b : Boom} {s t u : State}

theorem reports (h : s.DrillOnly n b t) : t.link.reports.length ≤ s.link.reports.length + n := by
  obtain ⟨l, he, hl⟩ := h.told
  rw [he, List.length_append]
  omega

theorem told_of_eq (h : t.link = s.link) : ∃ l, t.link.reports = s.link.reports ++ l ∧ l.length ≤ 0 :=
  ⟨[], by rw [h, List.append_nil], Nat.le_refl _⟩

theorem refl (s : State) : s.DrillOnly 0 b s :=
  ⟨⟨_, _, _, _, _, by rw [PerBoom.set_get, PerBoom.set_get]⟩, fun _ => rfl, told_of_eq rfl⟩

theorem trans (h : s.DrillOnly n b t) (k : t.DrillOnly m b u) : s.DrillOnly (n + m) b u := by
  obtain ⟨⟨l, p, g, o, bs, rfl⟩, hrec, ⟨a, ha, hn⟩⟩ := h
  obtain ⟨⟨l', p', g', o', bs', rfl⟩, hrec', ⟨a', ha', hm⟩⟩ := k
  refine ⟨⟨l', p', g', o', bs', by simp only [PerBoom.set_set]⟩, fun b' => (hrec' b').trans (hrec b'), a ++ a', ?_, ?_⟩
  · rw [ha', ha, List.append_assoc]
  · rw [List.length_append]
    omega

theorem mono (h : s.DrillOnly n b t) (hn : n ≤ m) : s.DrillOnly m b t := by
  obtain ⟨hframe, hrec, l, he, hl⟩ := h
  exact ⟨hframe, hrec, l, he, Nat.le_trans hl hn⟩

theorem report (s : State) (r : Report) : s.DrillOnly 1 b (s.report r) := by
  refine ⟨⟨_, s.prof.get b, s.gov.get b, s.store.opened, s.bits, by rw [PerBoom.set_get, PerBoom.set_get]; rfl⟩,
    fun _ => rfl, ?_⟩
  simp only [State.report, State.modLink]
  split
  · exact ⟨[r], rfl, Nat.le_refl _⟩
  · exact ⟨[], (List.append_nil _).symm, Nat.zero_le _⟩

theorem modBits (s : State) (f : List BitPos → List BitPos) : s.DrillOnly 0 b (s.modBits f) :=
  ⟨⟨s.link, s.prof.get b, s.gov.get b, s.store.opened, f s.bits, by rw [PerBoom.set_get, PerBoom.set_get]; rfl⟩,
    fun _ => rfl, told_of_eq rfl⟩

theorem modProf (s : State) (f : Profiler → Profiler) : s.DrillOnly 0 b (s.modProf b f) :=
  ⟨⟨s.link, f (s.prof.get b), s.gov.get b, s.store.opened, s.bits, by rw [PerBoom.set_get]; rfl⟩,
    fun _ => rfl, told_of_eq rfl⟩

theorem modGov (s : State) (f : Governor → Governor) : s.DrillOnly 0 b (s.modGov b f) :=
  ⟨⟨s.link, s.prof.get b, f (s.gov.get b), s.store.opened, s.bits, by rw [PerBoom.set_get]; rfl⟩,
    fun _ => rfl, told_of_eq rfl⟩

theorem modRec (s : State) (c : Boom) (f : HoleRecord → HoleRecord) (hf : ∀ r, (f r).undrilled = r.undrilled) :
    s.DrillOnly 0 b (s.modRec c f) := by
  refine ⟨⟨s.link, s.prof.get b, s.gov.get b, _, s.bits, by rw [PerBoom.set_get, PerBoom.set_get]; rfl⟩,
    fun b' => ?_, told_of_eq rfl⟩
  by_cases hb : b' = c
  · subst hb
    have hget : (s.modRec b' f).rec? b' = (s.rec? b').map f := PerBoom.get_set_same _ _ _
    rw [hget, Option.map_map]
    exact congrArg (Option.map · _) (funext hf)
  · exact congrArg _ (PerBoom.get_set_ne _ hb _)

theorem markBitWorn (s : State) (p : BitPos) : s.DrillOnly 0 b (s.markBitWorn p) := by
  unfold State.markBitWorn
  split
  · exact modRec s _ _ fun _ => rfl
  · exact refl s

theorem evalWorn (s : State) (p : Nat) : s.DrillOnly 1 b (s.evalWorn p) := by
  have hbit := modBits (b := b) s fun l => l.modify p fun x => { x with worn := s.wornOut (s.bitAt p).wear }
  unfold State.evalWorn
  dsimp only
  split
  · exact (hbit.trans (markBitWorn _ _)).trans (report _ _)
  · exact hbit.mono (by omega)

theorem addWear (s : State) (c : Boom) (w : Nat) : s.DrillOnly 1 b (s.addWear c w) := by
  unfold State.addWear
  split
  · exact (refl s).mono (by omega)
  · exact (modBits s _).trans (evalWorn _ _)

theorem handWork (s : State) (g : OpenSeg) : s.DrillOnly 1 b (s.handWork b g) := by
  unfold State.handWork
  split
  · exact (refl s).mono (by omega)
  · exact addWear s b _

theorem closeSegment (s : State) (c p : Bool) : s.DrillOnly 2 b (s.closeSegment b c p) := by
  unfold State.closeSegment
  split
  · dsimp only
    refine trans (trans (trans (n := 1) (m := 0) ?_ (modGov _ _)) (handWork _ _)) (modProf _ _)
    split
    · refine (modRec s b _ ?_).trans (report _ _)
      exact fun _ => rfl
    · exact (modRec s b (fun x => { x with profileFull := true }) fun _ => rfl).mono (by omega)
  · exact (refl s).mono (by omega)

theorem takeRemnant (s : State) : s.DrillOnly 2 b (s.takeRemnant b) := by
  unfold State.takeRemnant
  split
  · split
    · exact closeSegment s _ _
    · exact (handWork s _).mono (by omega)
  · exact (refl s).mono (by omega)

theorem endProfile (s : State) : s.DrillOnly 2 b (s.endProfile b) := by
  unfold State.endProfile
  dsimp only
  refine ((takeRemnant s).trans (modRec _ b _ ?_)).trans (modProf _ _)
  exact fun _ => rfl

theorem endGovernor (s : State) : s.DrillOnly 0 b (s.endGovernor b) :=
  (modGov s _).trans (modRec _ b (fun r => { r with drillOutcome := some (s.drillOutcome b) }) fun _ => rfl)

theorem leaveDrilling (s : State) : s.DrillOnly 2 b (s.leaveDrilling b) := (endProfile s).trans (endGovernor _)

theorem hp (h : s.DrillOnly n b t) (b' : Boom) : t.hp b' = s.hp b' := by
  have hparams : (t.rec? b').map HoleRecord.params = (s.rec? b').map HoleRecord.params := by
    have hmap := congrArg (Option.map HoleRecord.params) (h.record b')
    rwa [Option.map_map, Option.map_map] at hmap
  have hval : ∀ (u : State) i, u.hp b' i = (((u.rec? b').map HoleRecord.params).map fun l => l.getD i 0).getD 0 := by
    intro u i
    unfold State.hp
    cases u.rec? b' <;> rfl
  funext i
  rw [hval, hval, hparams]

end State.DrillOnly

/-! ### Leaving a phase, and HALTED (R26, R99) -/

section
variable {s : State} {b : Boom} {e : MixEnd}

/-- From `s` to `t` only the reports, boom `b`'s workers, the open records and the bits have changed. -/
def State.WorkersOnly (b : Boom) (s t : State) : Prop := ∃ l p g c o bs, t = { s with
  link := l, prof := s.prof.set b p, gov := s.gov.set b g, sett := s.sett.set b c
  store := { s.store with opened := o }, bits := bs }

theorem State.WorkersOnly.refl (s : State) : s.WorkersOnly b s :=
  ⟨s.link, s.prof.get b, s.gov.get b, s.sett.get b, s.store.opened, s.bits, by simp only [PerBoom.set_get]⟩

theorem State.WorkersOnly.modSett {t : State} (h : s.WorkersOnly b t) (f : Setting → Setting) :
    s.WorkersOnly b (t.modSett b f) := by
  obtain ⟨l, p, g, c, o, bs, rfl⟩ := h
  exact ⟨l, p, g, f c, o, bs, by simp only [State.modSett, PerBoom.get_set_same, PerBoom.set_set]⟩

theorem State.WorkersOnly.modRec (s : State) (f : HoleRecord → HoleRecord) : s.WorkersOnly b (s.modRec b f) :=
  ⟨s.link, s.prof.get b, s.gov.get b, s.sett.get b, _, s.bits, by simp only [PerBoom.set_get]; rfl⟩

theorem State.WorkersOnly.cutHold (s : State) : s.WorkersOnly b (s.cutHold b) := by
  unfold State.cutHold
  dsimp only
  split
  · exact (WorkersOnly.modRec s _).modSett _
  · exact WorkersOnly.refl s

theorem State.WorkersOnly.leaveSetting (s : State) (p : Phase) : s.WorkersOnly b (s.leaveSetting b p e) := by
  unfold State.leaveSetting
  split
  · exact (WorkersOnly.refl s).modSett _
  · exact (WorkersOnly.refl s).modSett _
  · split
    · exact (WorkersOnly.modRec s _).modSett _
    · exact (WorkersOnly.refl s).modSett _
  · exact (WorkersOnly.cutHold s).modSett _
  · exact (WorkersOnly.modRec s _).modSett _
  · exact WorkersOnly.refl s

theorem State.WorkersOnly.leavePhase (s : State) (b : Boom) (e : MixEnd) : s.WorkersOnly b (s.leavePhase b e) := by
  unfold State.leavePhase
  dsimp only
  split
  · obtain ⟨l, p, g, o, bs, h⟩ := (State.DrillOnly.leaveDrilling (b := b) s).frame
    exact ⟨l, p, g, s.sett.get b, o, bs, by rw [h, PerBoom.set_get]⟩
  · exact WorkersOnly.leaveSetting s _

/-- The entry into HALTED, with the reservation released where the phase has one (R26, R157). -/
theorem State.halt_eq (reason : HaltReason) (hs : (s.seq.get b).state ≠ .halted)
    (hw : (s.phase b).reserves = true → s.arb.waiting.filter (fun x => x ≠ b) = []) :
    let y := s.leavePhase b e
    let q := (s.seq.get b).haltedWith reason
    s.halt b reason e = ({ (if (s.phase b).reserves then y.dropReservation b else y) with
      seq := s.seq.set b q }).report (phaseNote b (s.seq.get b).state q) := by
  intro y q
  obtain ⟨l, p, g, c, o, bs, hy⟩ := State.WorkersOnly.leavePhase s b e
  have hgo : y.goHalted b reason = ({ y with seq := s.seq.set b q }).report (phaseNote b (s.seq.get b).state q) := by
    have hseq : y.seq = s.seq := by simp only [y, State.seq_leavePhase]
    unfold State.goHalted
    rw [if_neg (by rw [hseq]; exact hs), State.goPhase_eq, hseq]
    rfl
  have hcore : s.haltCore b reason e = ({ (if (s.phase b).reserves then y.dropReservation b else y) with
      seq := s.seq.set b q }).report (phaseNote b (s.seq.get b).state q) := by
    unfold State.haltCore
    dsimp only
    rw [hgo]
    split
    · rfl
    · rfl
  unfold State.halt
  dsimp only
  rw [hcore]
  split
  · next hres =>
    refine State.testList_none (State.firstFit_nil ?_)
    have harb : y.arb = s.arb := by
      show (s.leavePhase b e).arb = s.arb
      rw [hy]
    show y.arb.waiting.filter _ = []
    rw [harb]
    exact hw hres
  · rfl

/-- The Arbiter once boom `b`'s reservation is released and none waits (R157). -/
def Arbiter.freed (b : Boom) (a : Arbiter) : Arbiter :=
  { a with res := a.res.set b { mark := .none, amount := 0 }, waiting := [] }

theorem State.halt_reserved {y : State} (reason : HaltReason) (hs : (s.seq.get b).state ≠ .halted)
    (hres : (s.phase b).reserves = true) (hw : s.arb.waiting.filter (fun x => x ≠ b) = [])
    (hy : s.leavePhase b e = y) :
    s.halt b reason e = ({ y with seq := s.seq.set b ((s.seq.get b).haltedWith reason), arb := s.arb.freed b }).report
      (phaseNote b (s.seq.get b).state ((s.seq.get b).haltedWith reason)) := by
  have harb : y.arb = s.arb := by
    obtain ⟨l, p, g, c, o, bs, h⟩ := State.WorkersOnly.leavePhase s b e
    rw [← hy, h]
  have hdrop : y.dropReservation b = { y with arb := s.arb.freed b } := by
    simp only [State.dropReservation, State.modArb, harb, hw, Arbiter.freed]
  refine (State.halt_eq reason hs fun _ => hw).trans ?_
  dsimp only
  rw [if_pos hres, hy, hdrop]

theorem State.halt_unreserved {y : State} (reason : HaltReason) (hs : (s.seq.get b).state ≠ .halted)
    (hres : (s.phase b).reserves = false) (hy : s.leavePhase b e = y) :
    s.halt b reason e = ({ y with seq := s.seq.set b ((s.seq.get b).haltedWith reason) }).report
      (phaseNote b (s.seq.get b).state ((s.seq.get b).haltedWith reason)) := by
  refine (State.halt_eq reason hs (by simp [hres])).trans ?_
  dsimp only
  rw [if_neg (ne_true_of_eq_false hres), hy]

end

section
variable {s : State} {b : Boom} {r : HoleRecord} {e : MixEnd}

theorem State.hp_modRec (s : State) (b c : Boom) (f : HoleRecord → HoleRecord) (hf : ∀ r, (f r).params = r.params) :
    (s.modRec b f).hp c = s.hp c := by
  funext i
  by_cases hc : c = b
  · subst hc
    have hget : (s.modRec c f).rec? c = (s.rec? c).map f := PerBoom.get_set_same _ _ _
    unfold State.hp
    rw [hget]
    cases s.rec? c with
    | none => rfl
    | some r => exact congrArg (fun l : List Nat => l.getD i 0) (hf r)
  · have hget : (s.modRec b f).rec? c = s.rec? c := PerBoom.get_set_ne _ hc _
    unfold State.hp
    rw [hget]

/-- What leaves a phase keeps the parameter copies of the open records (R4). -/
theorem State.hp_leavePhase (s : State) (b : Boom) (e : MixEnd) : (s.leavePhase b e).hp b = s.hp b := by
  have hcut : (s.cutHold b).hp b = s.hp b := by
    unfold State.cutHold
    dsimp only
    split
    · exact State.hp_modRec s b b _ fun _ => rfl
    · rfl
  unfold State.leavePhase
  dsimp only
  split
  · exact (State.DrillOnly.leaveDrilling s).hp b
  · unfold State.leaveSetting
    split
    · rfl
    · rfl
    · split
      · exact State.hp_modRec s b b _ fun _ => rfl
      · rfl
    · exact hcut
    · exact State.hp_modRec s b b _ fun _ => rfl
    · rfl

theorem State.leavesAs (s : State) (b : Boom) : s.LeavesAs (s.leavePhase b .interrupted) b := by
  have hhp := State.hp_leavePhase s b .interrupted
  obtain ⟨l, p, g, c, o, bs, h⟩ := State.WorkersOnly.leavePhase s b .interrupted
  rw [h] at hhp ⊢
  exact ⟨rfl, rfl, rfl, rfl, rfl, rfl, hhp⟩

theorem State.phase_eq (hp : (s.seq.get b).state ≠ .paused) : s.phase b = (s.seq.get b).state :=
  if_neg hp

/-- A mix that ends writes its result (R107). -/
theorem State.leavePhase_mixing (h : s.rec? b = some r) (hq : (s.seq.get b).state = .mixing) :
    s.leavePhase b e = { s with
      store := { s.store with opened := s.store.opened.set b (some { r with
        mix := some { pulses := (s.sett.get b).mixPulses, revs := (s.sett.get b).mixPulses / 60
                      timeMs := (s.seq.get b).timer.ms, stallSeen := (s.sett.get b).stallSeen, ending := e } }) }
      sett := s.sett.set b (s.sett.get b).off } := by
  have hphase : s.phase b = .mixing := (State.phase_eq (by simp [hq])).trans hq
  simp only [State.leavePhase, hphase, State.leaveSetting, hq, State.writeMix, State.modRec_of_rec h]
  rfl

/-- TORQUING ends with its figures in the record (R118). -/
theorem State.leavePhase_torquing (h : s.rec? b = some r) (hp : s.phase b = .torquing) :
    s.leavePhase b e = { s with
      store := { s.store with opened := s.store.opened.set b (some { r with
        torque := some { peak := (s.sett.get b).peak, snug := (s.sett.get b).snug, angle := (s.sett.get b).angle
                         turns := (s.sett.get b).turns, verdict := (s.sett.get b).verdict } }) }
      sett := s.sett.set b (s.sett.get b).off } := by
  simp only [State.leavePhase, hp, State.leaveSetting, State.writeTorque, State.modRec_of_rec h]
  rfl

theorem State.leavePhase_push (hp : s.phase b = .boltPush ∨ s.phase b = .mixWait) :
    s.leavePhase b e = { s with sett := s.sett.set b (s.sett.get b).off } := by
  rcases hp with hp | hp
  · simp only [State.leavePhase, hp, State.leaveSetting]
    rfl
  · simp only [State.leavePhase, hp, State.leaveSetting]
    rfl

/-- The phases without a worker leave nothing to end. -/
theorem State.leavePhase_unworked (hp : s.phase b ∉ [.collaring, .drilling, .boltPush, .mixWait, .mixing, .gelHold, .torquing]) :
    s.leavePhase b e = s := by
  simp only [List.mem_cons, List.not_mem_nil, or_false, not_or] at hp
  obtain ⟨hcollaring, hdrilling, hpush, hwait, hmix, hhold, htorque⟩ := hp
  unfold State.leavePhase State.leaveSetting
  dsimp only
  rw [if_neg (by simp [hcollaring, hdrilling])]
  split
  · next h => exact absurd h hpush
  · next h => exact absurd h hwait
  · next h => exact absurd h hmix
  · next h => exact absurd h hhold
  · next h => exact absurd h htorque
  · rfl

/-- The deferred causes of a mix that ends in HALTED are dropped where no abort is deferred (R23, R24). -/
theorem State.takeDeferred_resting (hd : (s.seq.get b).deferredAbort = false)
    (ha : (s.seq.get b).state.automatic = false) (hp : (s.seq.get b).state ≠ .paused) :
    s.takeDeferred b = s.modSeq b fun q => { q with deferred := .empty } := by
  have hrest : ∀ l : List Cause, ∀ y : State, (y.seq.get b).state = (s.seq.get b).state →
      l.foldl (fun s c => s.arriveBasic b c) y = y := by
    intro l
    induction l with
    | nil => exact fun y _ => rfl
    | cons c l ih =>
      intro y hy
      have hone : y.arriveBasic b c = y := by
        simp only [State.arriveBasic, hy, ha, if_neg hp, Bool.false_and]
        rfl
      rw [List.foldl_cons, hone, ih y hy]
  unfold State.takeDeferred
  rw [if_neg (ne_true_of_eq_false hd)]
  refine hrest _ _ ?_
  simp only [State.modSeq, PerBoom.get_set_same]

end

section
variable {s y : State} {b : Boom} {r : HoleRecord} {c : Closing}

theorem State.toReleasing_reserved (hmay : s.mayRelease b = true) (hy : s.leavePhase b .interrupted = y)
    (hc : (s.seq.get b).closing = some c) (hstate : (s.seq.get b).state ≠ .halted) (hres : (s.phase b).reserves = true)
    (hw : s.arb.waiting.filter (fun x => x ≠ b) = []) :
    s.toReleasing b = ({ y with seq := s.seq.set b (s.releasedSeq b c (s.seq.get b)), arb := s.arb.freed b }).report
      (phaseNote b (s.seq.get b).state (s.releasedSeq b c (s.seq.get b))) := by
  have hleft : s.LeavesAs y b := hy ▸ State.leavesAs s b
  have hdrop : y.dropReservation b = { y with arb := s.arb.freed b } := by
    simp only [State.dropReservation, State.modArb, hleft.arb, hw, Arbiter.freed]
  rw [State.toReleasing_eq hmay hy hleft hc (fun h => absurd h hstate) (fun _ => hw), if_pos hres, hdrop]

theorem State.toReleasing_unreserved (hmay : s.mayRelease b = true) (hy : s.leavePhase b .interrupted = y)
    (hc : (s.seq.get b).closing = some c) (hstand : (s.seq.get b).state = .halted → s.clearOfCauses b = true)
    (hres : (s.phase b).reserves = false) :
    s.toReleasing b = ({ y with seq := s.seq.set b (s.releasedSeq b c (s.seq.get b)) }).report
      (phaseNote b (s.seq.get b).state (s.releasedSeq b c (s.seq.get b))) := by
  have hleft : s.LeavesAs y b := hy ▸ State.leavesAs s b
  rw [State.toReleasing_eq hmay hy hleft hc hstand (fun h => absurd h (ne_true_of_eq_false hres)),
    if_neg (ne_true_of_eq_false hres)]

/-- What RELEASING makes of a Sequencer does not read the closing outcome and the timer it had. -/
theorem State.releasedSeq_congr {s t : State} {b : Boom} {q q' : Sequencer} (hhp : t.hp b = s.hp b) (hhead : t.head = s.head)
    (hparams : t.params = s.params) (hvalve : t.valve = s.valve) (c : Closing)
    (hq : ∀ n, q'.releasing n c = q.releasing n c) :
    t.releasedSeq b c q' = s.releasedSeq b c q := by
  have hact : t.active b Input.feedRetracted = s.active b Input.feedRetracted := by
    cases b <;> simp only [State.active, State.polarity, State.live, hhead, hparams]
  simp only [State.releasedSeq, hhp, hact, hvalve, hq]

/-- A verdict: it enters the record with the figures, and the boom goes to RELEASING (R115, R116, R118). -/
theorem State.giveVerdict_eq (v : Verdict) (h : s.rec? b = some r) (hq : (s.seq.get b).state = .torquing)
    (hmay : s.mayRelease b = true) (hw : s.arb.waiting.filter (fun x => x ≠ b) = []) :
    let k := s.sett.get b
    let q := s.releasedSeq b .verdict (s.seq.get b)
    s.giveVerdict b v = ({ s with
      seq := s.seq.set b q
      store := { s.store with opened := s.store.opened.set b (some { r with
        torque := some { peak := k.peak, snug := k.snug, angle := k.angle, turns := k.turns, verdict := some v } }) }
      sett := s.sett.set b { k with stage := .off, feedUp := 0, rotFwd := 0, verdict := some v }
      arb := s.arb.freed b }).report (phaseNote b .torquing q) := by
  intro k q
  let z : State := { s with
    seq := s.seq.set b { s.seq.get b with closing := some .verdict }
    sett := s.sett.set b { k with verdict := some v, feedUp := 0, rotFwd := 0 } }
  have hzq : z.seq.get b = { s.seq.get b with closing := some .verdict } := PerBoom.get_set_same _ _ _
  have hphase : z.phase b = .torquing := by
    rw [State.phase, hzq]
    exact (if_neg (by simp [hq])).trans hq
  have hrel : z.releasedSeq b .verdict (z.seq.get b) = q := by
    rw [hzq]
    exact State.releasedSeq_congr rfl rfl rfl rfl _ fun _ => rfl
  have hto := State.toReleasing_reserved (s := z) (c := .verdict) hmay (State.leavePhase_torquing (by exact h) hphase)
    (by rw [hzq]) (by rw [hzq]; simp [hq]) (by rw [hphase]; rfl) hw
  rw [hrel, hzq] at hto
  refine (show s.giveVerdict b v = z.toReleasing b from rfl).trans (hto.trans ?_)
  simp only [z, PerBoom.get_set_same, PerBoom.set_set, hq]
  rfl

end

/-- Settles O29. -/
theorem settingTimeoutsWriteResults : Obligations.SettingTimeoutsWriteResults := by
  intro b s r hpow hpres hcalm hrun hrec q c ms q' released
  have hsees : s.sees b = true := by simp [State.sees, hpow, hpres]
  have htiming : ∀ p, q.state = p → s.timing b p = true := by
    intro p hp
    simp [State.timing, hsees, show (s.seq.get b).state = p from hp, hrun]
  have hwait := State.calm_waiting hcalm
  refine ⟨?mix, ?torque⟩
  case mix =>
    intro hq hd
    refine State.ends_when (htiming _ hq) ?_ (State.still_of_calm hcalm)
    let q1 : Sequencer := { q with timer := q.timer.expire (s.hp b P.mixMaxTime) }
    let s1 : State := { s with seq := s.seq.set b q1 }
    have hq1 : s1.seq.get b = q1 := PerBoom.get_set_same _ _ _
    have hphase : s1.phase b = .mixing := by
      rw [State.phase, hq1]
      exact (if_neg (by simp [q1, hq])).trans hq
    have hleave := State.leavePhase_mixing (s := s1) (e := .short) hrec (by rw [hq1]; exact hq)
    have hhalt := State.halt_reserved (s := s1) .mixShort (by rw [hq1]; simp [q1, hq]) (by rw [hphase]; rfl)
      (by simp [s1, hwait]) hleave
    rw [hq1] at hhalt
    have hms : ms = q1.timer.ms := by
      simp only [ms, q1, Timer.ms, Timer.expire, ticksPerMs, State.hp_of_rec hrec]
    refine (congrArg (State.takeDeferred · b) hhalt).trans ((State.takeDeferred_resting ?_ ?_ ?_).trans ?_)
    · refine (congrArg Sequencer.deferredAbort (PerBoom.get_set_same _ _ _)).trans hd
    · exact congrArg (fun q : Sequencer => q.state.automatic) (PerBoom.get_set_same _ _ _)
    · exact fun h => absurd ((congrArg Sequencer.state (PerBoom.get_set_same _ _ _)).symm.trans h) (by simp [Sequencer.haltedWith])
    · rw [show q1.state = .mixing from hq]
      simp only [State.modSeq, State.report, State.modLink, PerBoom.get_set_same, PerBoom.set_set, s1, Arbiter.freed, hms,
        ← hwait]
      rfl
  case torque =>
    intro hq hfree hact
    refine State.ends_when (htiming _ hq) ?_ (State.still_of_calm hcalm)
    let s1 : State := { s with seq := s.seq.set b { q with timer := q.timer.expire (s.hp b P.torqueTimeout) } }
    have hq1 : s1.seq.get b = { q with timer := q.timer.expire (s.hp b P.torqueTimeout) } := PerBoom.get_set_same _ _ _
    have hmay : s1.mayRelease b = true := State.mayRelease_iff.mpr ⟨hfree, fun h => absurd h (ne_true_of_eq_false hact)⟩
    have hrel : s1.releasedSeq b .verdict (s1.seq.get b) = q' := by
      rw [hq1]
      refine (State.releasedSeq_congr (s := s) (q := q) rfl rfl rfl rfl _ fun _ => rfl).trans ((if_neg (ne_true_of_eq_false hact)).trans ?_)
      rw [State.hp_of_rec hrec, State.hp_of_rec hrec]
    refine (State.giveVerdict_eq (s := s1) .timeout (by exact hrec) (by rw [hq1]; exact hq) hmay (by simp [s1, hwait])).trans ?_
    rw [hrel]
    simp only [s1, PerBoom.set_set, Arbiter.freed, ← hwait]
    rfl

end Sys2Proof.Machine
end

section
namespace Sys2Proof.Machine

/-! The proofs are elaborated one after another: side by side, so many ask for more threads than the memory holds. -/
set_option Elab.async false

/-! ### What the end of an event keeps of the Indexer (R132) -/

theorem State.Ends.idx_eq {x t : State} (h : x.Ends t) : t.idx = x.injectorSeen := by
  have hcore : t.core.idx = x.afterEvent.core.idx := congrArg State.idx h.1
  rw [State.afterEvent_eq_injectorSeen] at hcore
  exact hcore

/-- The wait for the injector moves the state and the timers of the Indexer alone. -/
theorem State.injectorSeen_frame (x : State) : ∃ st rt pt,
    x.injectorSeen = { x.idx with state := st, readyTimer := rt, passTimer := pt } := by
  unfold State.injectorSeen
  split
  · split
    · split
      · exact ⟨_, _, _, rfl⟩
      · split
        · exact ⟨_, _, _, rfl⟩
        · exact ⟨_, _, _, rfl⟩
    · exact ⟨_, _, _, rfl⟩
  · exact ⟨_, _, _, rfl⟩

theorem State.Ends.slots_eq {x t : State} (h : x.Ends t) : t.idx.slots = x.idx.slots := by
  obtain ⟨st, rt, pt, he⟩ := x.injectorSeen_frame
  rw [h.idx_eq, he]

/-! ### The five expiries that halt (R26, R55, R70, R99) -/

section
variable {s : State} {b : Boom}

theorem State.modRec_other (s : State) {b b' : Boom} (h : b' ≠ b) (f : HoleRecord → HoleRecord) :
    (s.modRec b f).rec? b' = s.rec? b' := PerBoom.get_set_ne _ h _

/-- With no segment open, leaving a phase touches neither the other boom's record nor the bits. -/
theorem State.leavePhase_other (hseg : (s.prof.get b).openSeg = none) (e : MixEnd) :
    (∀ b', b' ≠ b → (s.leavePhase b e).rec? b' = s.rec? b') ∧ (s.leavePhase b e).bits = s.bits := by
  have hrem : s.takeRemnant b = s := by simp only [State.takeRemnant, hseg]
  have hcut : (∀ b', b' ≠ b → (s.cutHold b).rec? b' = s.rec? b') ∧ (s.cutHold b).bits = s.bits := by
    unfold State.cutHold
    dsimp only
    split
    · exact ⟨fun b' hb => State.modRec_other s hb _, rfl⟩
    · exact ⟨fun _ _ => rfl, rfl⟩
  unfold State.leavePhase
  dsimp only
  split
  · unfold State.leaveDrilling State.endProfile
    dsimp only
    rw [hrem]
    exact ⟨fun b' hb => (State.modRec_other _ hb _).trans (State.modRec_other s hb _), rfl⟩
  · unfold State.leaveSetting
    split
    · exact ⟨fun _ _ => rfl, rfl⟩
    · exact ⟨fun _ _ => rfl, rfl⟩
    · split
      · exact ⟨fun b' hb => State.modRec_other s hb _, rfl⟩
      · exact ⟨fun _ _ => rfl, rfl⟩
    · exact hcut
    · exact ⟨fun b' hb => State.modRec_other s hb _, rfl⟩
    · exact ⟨fun _ _ => rfl, rfl⟩

theorem State.leavePhase_told (s : State) (b : Boom) (e : MixEnd) :
    ∃ l, (s.leavePhase b e).link.reports = s.link.reports ++ l ∧ l.length ≤ 2 := by
  have hset : ∀ p, (s.leaveSetting b p e).link = s.link := by
    intro p
    unfold State.leaveSetting
    split
    · rfl
    · rfl
    · split
      · rfl
      · rfl
    · show (s.cutHold b).link = s.link
      unfold State.cutHold
      dsimp only
      split
      · rfl
      · rfl
    · rfl
    · rfl
  unfold State.leavePhase
  dsimp only
  split
  · exact (State.DrillOnly.leaveDrilling s).told
  · exact ⟨[], by rw [hset, List.append_nil], Nat.zero_le _⟩

theorem State.leavePhase_reports (s : State) (b : Boom) (e : MixEnd) :
    (s.leavePhase b e).link.reports.length ≤ s.link.reports.length + 2 := by
  obtain ⟨l, he, hl⟩ := s.leavePhase_told b e
  rw [he, List.length_append]
  omega

theorem State.report_getLast (s : State) (r : Report) (h : s.link.reports.length < 12) :
    (s.report r).link.reports.getLast? = some r := by
  simp only [State.report, State.modLink]
  rw [if_pos (by exact h)]
  simp

/-- A HALTED boom without a jog setpoint asks nothing (R144). -/
theorem State.asked_halted {q : Sequencer} (hq : s.seq.get b = q) (hs : q.state = .halted) (hj : q.jogs = .zero)
    (k : FnKind) : s.asked (.boom b k) = 0 := by
  simp only [State.asked, hq, hs, hj]
  split
  · rfl
  · cases k <;> rfl

/-- An expiry that halts the boom out of a phase without a reservation. -/
theorem State.timeout_halts {p : Phase} {i : Nat} {reason : HaltReason} (hcalm : s.calm = true)
    (hq : (s.seq.get b).state = p)
    (hp : p ∈ [Phase.jackSet, .collaring, .retracting, .boltPush, .releasing]) :
    let t := s.finish ((s.timerOut b i).halt b reason .interrupted)
    s.Keeps t ∧ t.seq = s.seq.set b ((s.seq.get b).haltedWith reason) ∧
      (∀ b', b' ≠ b → t.prof.get b' = s.prof.get b' ∧ t.sett.get b' = s.sett.get b' ∧
        t.arb.res.get b' = s.arb.res.get b' ∧ ((s.prof.get b).openSeg = none → t.rec? b' = s.rec? b')) ∧
      ((s.prof.get b).openSeg = none → t.bits = s.bits) ∧ t.rot = s.rot ∧
      (∀ k, t.asked (.boom b k) = 0) ∧ t.store.queue = s.store.queue ∧ t.idx.slots = s.idx.slots ∧
      (s.link.reports.length < 10 →
        t.link.reports.getLast? = some (phaseNote b p ((s.seq.get b).haltedWith reason))) := by
  intro t
  have hkinds : p ≠ .paused ∧ p ≠ .halted ∧ p.reserves = false := by
    simp only [List.mem_cons, List.not_mem_nil, or_false] at hp
    rcases hp with rfl | rfl | rfl | rfl | rfl <;> decide
  obtain ⟨hpaused, hhalted, hres⟩ := hkinds
  let s1 := s.timerOut b i
  let q := (s.seq.get b).haltedWith reason
  have hq1 : s1.seq.get b = { s.seq.get b with timer := (s.seq.get b).timer.expire (s.hp b i) } :=
    PerBoom.get_set_same _ _ _
  have hphase : s1.phase b = p := by
    rw [State.phase, hq1]
    exact (if_neg (by simp [hq, hpaused])).trans hq
  have hhalt := State.halt_unreserved (s := s1) (e := .interrupted) reason (by rw [hq1]; simp [hq, hhalted])
    (by rw [hphase]; exact hres) rfl
  have hother := fun h => State.leavePhase_other (s := s1) (b := b) h .interrupted
  have hreports := State.leavePhase_reports s1 b .interrupted
  obtain ⟨l, pr, g, c, o, bs, hy⟩ := State.WorkersOnly.leavePhase s1 b .interrupted
  rw [hy] at hother hreports hhalt
  rw [hq1] at hhalt
  let y : State := { s with seq := s.seq.set b q, link := l, prof := s.prof.set b pr, gov := s.gov.set b g
                            sett := s.sett.set b c, store := { s.store with opened := o }, bits := bs }
  have hz : s1.halt b reason .interrupted = y.report (phaseNote b p q) := by
    refine hhalt.trans ?_
    simp only [s1, State.timerOut, State.modSeq, PerBoom.set_set, hq]
    rfl
  have hends : (y.report (phaseNote b p q)).Ends t := by
    rw [← hz]
    refine State.finish_ends_of_still ?_
    rw [hz]
    exact State.still_of_calm (s := y.report _) hcalm
  have hseq : t.seq = s.seq.set b q := hends.view State.seq
  refine ⟨State.keeps_of_outer (by simp [t, State.timerOut]), hseq, fun b' hb => ⟨?_, ?_, ?_, fun h => ?_⟩, fun h => ?_, ?_,
    ?_, ?_, ?_, fun h => ?_⟩
  · exact (congrArg (PerBoom.get · b') (hends.view State.prof)).trans (PerBoom.get_set_ne _ hb _)
  · exact (congrArg (PerBoom.get · b') (hends.view State.sett)).trans (PerBoom.get_set_ne _ hb _)
  · exact congrArg (PerBoom.get · b') (hends.view fun s => s.arb.res)
  · exact (hends.view fun s => s.rec? b').trans ((hother h).1 b' hb)
  · exact (hends.view State.bits).trans (hother h).2
  · exact hends.view State.rot
  · exact fun k => State.asked_halted (q := q) (by rw [hseq, PerBoom.get_set_same]) rfl rfl k
  · exact hends.view fun s => s.store.queue
  · exact hends.slots_eq
  · rw [hends.view fun s => s.link.reports]
    refine State.report_getLast y _ ?_
    have hroom : l.reports.length ≤ s.link.reports.length + 2 := hreports
    show l.reports.length < 12
    omega

end

/-- Settles O28. -/
theorem phaseTimeoutHalts : Obligations.PhaseTimeoutHalts := by
  intro b s hpow hpres hcalm hrun c hc hq
  have htiming : s.timing b c.1 = true := by
    simp [State.timing, State.sees, hpow, hpres, hq, hrun]
  have hends := fun i reason hp => State.timeout_halts (i := i) (reason := reason) hcalm hq hp
  simp only [List.mem_cons, List.not_mem_nil, or_false] at hc
  rcases hc with rfl | rfl | rfl | rfl | rfl
  · exact ⟨_, congrArg Host.Outcome.next (if_pos htiming), hends P.jackTimeout .jackNotSet (by simp)⟩
  · exact ⟨_, congrArg Host.Outcome.next (if_pos htiming), hends P.contactTimeout .noContact (by simp)⟩
  · exact ⟨_, congrArg Host.Outcome.next (if_pos htiming), hends P.retractTimeout .retractTimeout (by simp)⟩
  · exact ⟨_, congrArg Host.Outcome.next (if_pos htiming), hends P.pushTimeout .pushTimeout (by simp)⟩
  · exact ⟨_, congrArg Host.Outcome.next (if_pos htiming), hends P.releaseTimeout .releaseTimeout (by simp)⟩

end Sys2Proof.Machine
end

section
namespace Sys2Proof.Machine

/-! The proofs are elaborated one after another: side by side, so many ask for more threads than the memory holds. -/
set_option Elab.async false

/-! ### The wear of a bit (R53, R198) -/

/-- A record without its BIT_WORN mark. -/
def HoleRecord.unworn (r : HoleRecord) : HoleRecord := { r with bitWorn := false }

/-- From `s` to `t` only the reports, the bits and the BIT_WORN marks of the open records have changed. -/
structure State.WearOnly (s t : State) : Prop where
  frame : ∃ l o bs, t = { s with link := l, store := { s.store with opened := o }, bits := bs }
  record : ∀ b, (t.rec? b).map HoleRecord.unworn = (s.rec? b).map HoleRecord.unworn

namespace State.WearOnly
variable {s t u : State}

theorem refl (s : State) : s.WearOnly s := ⟨⟨s.link, s.store.opened, s.bits, rfl⟩, fun _ => rfl⟩

theorem trans (h : s.WearOnly t) (k : t.WearOnly u) : s.WearOnly u := by
  obtain ⟨⟨l, o, bs, rfl⟩, hrec⟩ := h
  obtain ⟨⟨l', o', bs', rfl⟩, hrec'⟩ := k
  exact ⟨⟨l', o', bs', rfl⟩, fun b => (hrec' b).trans (hrec b)⟩

theorem report (s : State) (r : Report) : s.WearOnly (s.report r) := ⟨⟨_, s.store.opened, s.bits, rfl⟩, fun _ => rfl⟩

theorem modBit (s : State) (p : Nat) (f : BitPos → BitPos) : s.WearOnly (s.modBit p f) :=
  ⟨⟨s.link, s.store.opened, _, rfl⟩, fun _ => rfl⟩

theorem markBitWorn (s : State) (p : BitPos) : s.WearOnly (s.markBitWorn p) := by
  unfold State.markBitWorn
  split
  · next c _ =>
    refine ⟨⟨s.link, _, s.bits, rfl⟩, fun b => ?_⟩
    by_cases hb : b = c
    · subst hb
      have hget : (s.modRec b fun r => { r with bitWorn := true }).rec? b =
          (s.rec? b).map fun r => { r with bitWorn := true } := PerBoom.get_set_same _ _ _
      rw [hget, Option.map_map]
      rfl
    · exact congrArg _ (State.modRec_other s hb _)
  · exact refl s

theorem evalWorn (s : State) (p : Nat) : s.WearOnly (s.evalWorn p) := by
  have hbit := modBit s p fun x => { x with worn := s.wornOut (s.bitAt p).wear }
  unfold State.evalWorn
  dsimp only
  split
  · exact (hbit.trans (markBitWorn _ _)).trans (report _ _)
  · exact hbit

theorem handWork (s : State) (b : Boom) (g : OpenSeg) : s.WearOnly (s.handWork b g) := by
  unfold State.handWork State.addWear
  split
  · exact refl s
  · split
    · exact refl s
    · exact (modBit s _ _).trans (evalWorn _ _)

end State.WearOnly

section
variable {s : State} {b : Boom} {r : HoleRecord} {p : BitPos}

/-- Wear added to a bit of the table: its wear and WORN flag, and at a flag newly set the mark and the report. -/
theorem State.addWear_eq (w : Nat) (h : s.rec? b = some r) (hp : s.bits[r.bitPos]? = some p) :
    let wear := min maxWear (p.wear + w)
    let y : State := { s with bits := s.bits.set r.bitPos { p with wear := wear, worn := s.wornOut wear } }
    s.addWear b w = if s.wornOut wear && !p.worn then
        (y.markBitWorn p).report (.bit (.worn r.bitPos p.boom? (wear / 1000000) (s.live P.bitWearLimit)))
      else y := by
  intro wear y
  obtain ⟨hlt, hget⟩ := List.getElem?_eq_some_iff.mp hp
  have hat : s.bitAt r.bitPos = p := by rw [State.bitAt, ← List.getElem_eq_getD (h := hlt), hget]
  have hset : ∀ (x : BitPos) (t : State), t.bits = s.bits.set r.bitPos x → t.bitAt r.bitPos = x := by
    intro x t ht
    rw [State.bitAt, ht, ← List.getElem_eq_getD (h := by simpa using hlt), List.getElem_set_self]
  let s1 : State := { s with bits := s.bits.set r.bitPos { p with wear := wear } }
  have hs1 : s.modBit r.bitPos (fun x => { x with wear := min maxWear (x.wear + w) }) = s1 := by
    rw [State.modBit_eq_set hlt, hat]
  have hat1 : s1.bitAt r.bitPos = { p with wear := wear } := hset _ s1 rfl
  have hy : s1.modBit r.bitPos (fun x => { x with worn := s.wornOut wear }) = y := by
    rw [State.modBit_eq_set (by simpa [s1] using hlt), hat1]
    simp only [s1, y, List.set_set]
  have haty : y.bitAt r.bitPos = { p with wear := wear, worn := s.wornOut wear } := hset _ y rfl
  have hmark : y.markBitWorn (y.bitAt r.bitPos) = y.markBitWorn p := by
    rw [haty]
    rfl
  have heval : s.addWear b w = s1.evalWorn r.bitPos := by
    simp only [State.addWear, h, hs1]
  rw [heval]
  unfold State.evalWorn
  rw [hat1]
  dsimp only
  rw [show s1.wornOut wear = s.wornOut wear from rfl, hy, hmark, haty]
  rfl

/-- The BIT_WORN marks that the wear of position `k` sets: that of the boom its bit is fitted to (R193). -/
theorem State.markBitWorn_bitWorn (s : State) (p : BitPos) (c : Boom) :
    ((s.markBitWorn p).rec? c).map HoleRecord.bitWorn =
      (s.rec? c).map fun y => y.bitWorn || decide (p.state = .fitted c) := by
  by_cases hfit : ∃ d, p.state = .fitted d
  · obtain ⟨d, hp⟩ := hfit
    have hmark : s.markBitWorn p = s.modRec d fun r => { r with bitWorn := true } := by
      simp only [State.markBitWorn, BitPos.boom?, hp]
    rw [hmark, hp]
    by_cases hc : c = d
    · subst hc
      have hget : (s.modRec c fun r => { r with bitWorn := true }).rec? c =
          (s.rec? c).map fun r => { r with bitWorn := true } := PerBoom.get_set_same _ _ _
      rw [hget, Option.map_map]
      exact congrArg (fun f => (s.rec? c).map f) (funext fun y => by simp)
    · rw [State.modRec_other s hc]
      exact congrArg (fun f => (s.rec? c).map f) (funext fun y => by simp [Ne.symm hc])
  · have hnone : p.boom? = none := by
      unfold BitPos.boom?
      split
      · next d hd => exact absurd ⟨d, hd⟩ hfit
      · rfl
    have hmark : s.markBitWorn p = s := by simp only [State.markBitWorn, hnone]
    rw [hmark]
    refine congrArg (fun f => (s.rec? c).map f) (funext fun y => ?_)
    rw [decide_eq_false fun h => hfit ⟨c, h⟩, Bool.or_false]

/-- A record that takes the entry of a closing segment, or PROFILE_FULL where its table is full (R50, R51). -/
def HoleRecord.appended (r : HoleRecord) (e : Segment) : HoleRecord :=
  if r.segments.length < 128 then { r with segments := r.segments ++ [e] } else { r with profileFull := true }

/-- The entry of the segment that closes at boom `b`, with the flags of the closing (R46, R54). -/
def State.closingEntry (s : State) (b : Boom) (collar part : Bool) (g : OpenSeg) (r : HoleRecord) : Segment :=
  g.entry r (s.prof.get b).maxDepth
    { g.flags with collar := g.flags.collar || collar, partialSeg := g.flags.partialSeg || part }

/-- A segment that closes, step by step: the record takes its entry with at most one report, its class comes into
force, its work goes to the bit, and the next top moves (R45, R49 to R53). -/
theorem State.closeSegment_eq {g : OpenSeg} (collar part : Bool) (hg : (s.prof.get b).openSeg = some g)
    (h : s.rec? b = some r) :
    let e := s.closingEntry b collar part g r
    ∃ l : Link, l.reports.length ≤ s.link.reports.length + 1 ∧
      s.closeSegment b collar part = (State.handWork { s with
        store := { s.store with opened := s.store.opened.set b (some (r.appended e)) }, link := l
        gov := s.gov.set b { s.gov.get b with cls := some e.cls } } b g).modProf b
        fun p => { p with nextTop := p.maxDepth, openSeg := none } := by
  intro e
  unfold State.closeSegment
  simp only [hg, h, State.modRec_of_rec h, HoleRecord.appended]
  by_cases hl : r.segments.length < 128
  · refine ⟨(s.report (.segment b r.number e.index e.bottom e.se e.cls e.flags)).link,
      (State.DrillOnly.report (b := b) s _).reports, ?_⟩
    rw [if_pos hl, if_pos hl]
    rfl
  · refine ⟨s.link, by omega, ?_⟩
    rw [if_neg hl, if_neg hl]
    rfl

end

/-! ### The arithmetic of a segment's entry (R47 to R49) -/

section
variable {sf st dia lseg : Nat}

theorem seDen_pos (hd : 0 < dia) (hl : 0 < lseg) : 0 < seDen dia lseg :=
  Nat.mul_pos (Nat.mul_pos (by decide) (Nat.mul_pos hd hd)) hl

theorem seSaturated_iff (hd : 0 < dia) (hl : 0 < lseg) : seSaturated sf st dia lseg = true ↔
    sf = 4294967295 ∨ st = 4294967295 ∨ 65536 * seDen dia lseg ≤ seNum sf st + seDen dia lseg / 2 := by
  have hquot : 65535 < seQuotient sf st dia lseg ↔
      65536 * seDen dia lseg ≤ seNum sf st + seDen dia lseg / 2 :=
    Nat.le_div_iff_mul_le (seDen_pos hd hl)
  simp only [seSaturated, Bool.or_eq_true, beq_iff_eq, decide_eq_true_eq, hquot, or_assoc]
  rfl

/-- The quotient of R47 is rounded half up. -/
theorem seQuotient_rounds (hd : 0 < dia) (hl : 0 < lseg) :
    2 * seQuotient sf st dia lseg * seDen dia lseg ≤ 2 * seNum sf st + seDen dia lseg ∧
    2 * seNum sf st < (2 * seQuotient sf st dia lseg + 1) * seDen dia lseg := by
  have hlow := Nat.div_mul_le_self (seNum sf st + seDen dia lseg / 2) (seDen dia lseg)
  have hhigh := Nat.lt_mul_div_succ (seNum sf st + seDen dia lseg / 2) (seDen_pos hd hl)
  unfold seQuotient
  generalize seDen dia lseg = d at *
  generalize seNum sf st = n at *
  generalize (n + d / 2) / d = q at *
  rw [Nat.mul_comm d, Nat.add_mul] at hhigh
  rw [Nat.mul_assoc, Nat.add_mul, Nat.mul_assoc]
  omega

theorem specificEnergy_le : specificEnergy sf st dia lseg ≤ 65535 := by
  unfold specificEnergy seSaturated
  split
  · exact Nat.le_refl _
  · next h =>
    simp only [Bool.or_eq_true, decide_eq_true_eq, not_or] at h
    omega

theorem classOf_void {t1 t2 t3 t4 se : Nat} : classOf t1 t2 t3 t4 se = .void ↔ se < t1 := by
  unfold classOf
  split
  · simp_all
  · split
    · simp_all
    · split
      · simp_all
      · split
        · simp_all
        · simp_all

/-- With the thresholds in their order the classes cut the energies at them (R49). -/
theorem classOf_iff {t1 t2 t3 t4 se : Nat} (h12 : t1 < t2) (h23 : t2 < t3) (h34 : t3 < t4) :
    (classOf t1 t2 t3 t4 se = .soft ↔ t1 ≤ se ∧ se < t2) ∧ (classOf t1 t2 t3 t4 se = .medium ↔ t2 ≤ se ∧ se < t3) ∧
    (classOf t1 t2 t3 t4 se = .hard ↔ t3 ≤ se ∧ se < t4) ∧ (classOf t1 t2 t3 t4 se = .veryHard ↔ t4 ≤ se) := by
  unfold classOf
  (repeat' split) <;> simp <;> omega

end

/-- Settles O31. -/
theorem segmentCloseAppends : Obligations.SegmentCloseAppends := by
  intro b b' collar part s g r hg hrec hdia hlseg hb t bottom num den
  let e := s.closingEntry b collar part g r
  obtain ⟨l, hlen, ht⟩ := State.closeSegment_eq collar part hg hrec
  change t = _ at ht
  have happ : (r.appended e).bitPos = r.bitPos ∧ (r.appended e).bitWorn = r.bitWorn := by
    unfold HoleRecord.appended
    split
    · exact ⟨rfl, rfl⟩
    · exact ⟨rfl, rfl⟩
  let z : State := { s with
    store := { s.store with opened := s.store.opened.set b (some (r.appended e)) }, link := l
    gov := s.gov.set b { s.gov.get b with cls := some e.cls } }
  have hzb : z.rec? b = some (r.appended e) := PerBoom.get_set_same _ _ _
  have hzother : ∀ c, c ≠ b → z.rec? c = s.rec? c := fun c hc => PerBoom.get_set_ne _ hc _
  have hwear : z.WearOnly (z.handWork b g) := State.WearOnly.handWork z b g
  have htrec : ∀ c, t.rec? c = (z.handWork b g).rec? c := fun c => by rw [ht]; rfl
  have htbits : t.bits = (z.handWork b g).bits := by rw [ht]; rfl
  have htlink : t.link = (z.handWork b g).link := by rw [ht]; rfl
  have hkept : ∀ {α : Type} (f : HoleRecord → α), (∀ x, f x.unworn = f x) → ∀ c,
      (t.rec? c).map f = (z.rec? c).map f := by
    intro α f hf c
    have hmap := congrArg (Option.map f) (hwear.record c)
    rw [Option.map_map, Option.map_map] at hmap
    rw [htrec]
    exact (congrArg (Option.map · _) (funext hf)).symm.trans (hmap.trans (congrArg (Option.map · _) (funext hf)))
  have hframe : t.prof = s.prof.set b { s.prof.get b with nextTop := bottom, openSeg := none } ∧ t.seq = s.seq ∧
      t.idx = s.idx ∧ t.arb = s.arb ∧ t.gov = s.gov.set b { s.gov.get b with cls := some e.cls } := by
    obtain ⟨l', o', bs', hw⟩ := hwear.frame
    rw [ht, hw]
    exact ⟨rfl, rfl, rfl, rfl, rfl⟩
  obtain ⟨hprof, hseq, hidx, harb, hgov⟩ := hframe
  have hden : den = seDen r.spec.holeDia g.lseg := by simp only [den, seDen, Nat.pow_two]
  refine ⟨?_, ?_, ?_, ?_, hseq, hidx, harb, ?wear, ?idle, e, rfl, rfl, rfl, rfl, ?_, ?_, ?_, specificEnergy_le, classOf_void,
    fun h12 h23 h34 => classOf_iff h12 h23 h34, rfl, rfl, rfl, rfl, ?_, ?_, ?_⟩
  · rw [hprof, PerBoom.get_set_same]
  · rw [hprof, PerBoom.get_set_same]
  · exact (hkept (fun x => { x with bitWorn := false }) (fun _ => rfl) b').trans (congrArg _ (hzother b' hb))
  · rw [hprof, PerBoom.get_set_ne _ hb]
  case wear =>
    intro hsamples p hp wear worn
    have hadd := State.addWear_eq (s := z) (r := r.appended e) (segWork g.sf g.st) hzb (by rw [happ.1]; exact hp)
    let y : State := { z with bits := s.bits.set r.bitPos { p with wear := wear, worn := worn } }
    let note : Report := .bit (.worn r.bitPos p.boom? (wear / 1000000) (s.live P.bitWearLimit))
    have hhand : z.handWork b g = if worn && !p.worn then (y.markBitWorn p).report note else y := by
      refine (if_neg (by omega)).trans (hadd.trans ?_)
      rw [happ.1]
      rfl
    have hybits : (y.markBitWorn p).bits = y.bits ∧ (y.markBitWorn p).link = z.link := by
      unfold State.markBitWorn
      split
      · exact ⟨rfl, rfl⟩
      · exact ⟨rfl, rfl⟩
    refine ⟨?_, fun c => ?_, fun hworn hclear hroom => ?_⟩
    · rw [htbits, hhand]
      split
      · exact hybits.1
      · rfl
    · have hzworn : (z.rec? c).map HoleRecord.bitWorn = (s.rec? c).map HoleRecord.bitWorn := by
        by_cases hc : c = b
        · subst hc
          rw [hzb, hrec]
          exact congrArg some happ.2
        · rw [hzother c hc]
      have hor : ∀ d : Bool, ((s.rec? c).map fun v => v.bitWorn || d) = (z.rec? c).map fun v => v.bitWorn || d := by
        intro d
        have hmap := congrArg (Option.map (· || d)) hzworn
        rw [Option.map_map, Option.map_map] at hmap
        exact hmap.symm
      rw [htrec, hhand]
      by_cases hset : (worn && !p.worn) = true
      · rw [if_pos hset, hset, Bool.true_and, hor]
        exact State.markBitWorn_bitWorn y p c
      · rw [if_neg hset, Bool.eq_false_iff.mpr hset, Bool.false_and, hor]
        exact congrArg (fun f => (z.rec? c).map f) (funext fun v => (Bool.or_false _).symm)
    · rw [htlink, hhand, if_pos (by simp [hworn, hclear])]
      refine State.report_getLast _ _ ?_
      rw [hybits.2]
      show l.reports.length < 12
      omega
  case idle =>
    intro h0
    have hhand : z.handWork b g = z := if_pos h0
    rw [htbits, hhand]
  · rw [hden]
    exact seSaturated_iff hdia hlseg
  · intro hsat
    have hse : e.se = seQuotient g.sf g.st r.spec.holeDia g.lseg := if_neg (ne_true_of_eq_false hsat)
    rw [hden, hse]
    exact seQuotient_rounds hdia hlseg
  · exact fun hsat => if_pos hsat
  · rw [hgov, PerBoom.get_set_same]
  · rw [hkept HoleRecord.segments (fun _ => rfl), hzb]
    refine congrArg some ?_
    unfold HoleRecord.appended
    split
    · rfl
    · rfl
  · intro hfull
    rw [hkept HoleRecord.profileFull (fun _ => rfl), hzb]
    refine congrArg some ?_
    unfold HoleRecord.appended
    rw [if_neg (by omega)]

end Sys2Proof.Machine
end

section
namespace Sys2Proof.Machine

/-! The proofs are elaborated one after another: side by side, so many ask for more threads than the memory holds. -/
set_option Elab.async false

/-! ### What the end of the drilling phases leaves (R54, R55, R70) -/

section
variable {s : State} {b : Boom} {r : HoleRecord}

/-- Taking the remnant moves the next top and the open segment of the boom's Profiler alone. -/
theorem State.takeRemnant_prof (s : State) (b : Boom) : ∃ n o,
    (s.takeRemnant b).prof = s.prof.set b { s.prof.get b with nextTop := n, openSeg := o } := by
  have hself : ∃ n o, s.prof = s.prof.set b { s.prof.get b with nextTop := n, openSeg := o } :=
    ⟨_, _, (PerBoom.set_get s.prof b).symm⟩
  unfold State.takeRemnant
  cases hg : (s.prof.get b).openSeg with
  | none => exact hself
  | some g =>
    dsimp only
    split
    · cases hr : s.rec? b with
      | none =>
        have hclose : s.closeSegment b false true = s := by simp only [State.closeSegment, hg, hr]
        rw [hclose]
        exact hself
      | some r =>
        obtain ⟨l, -, h⟩ := State.closeSegment_eq false true hg hr
        obtain ⟨l', o', bs', hw⟩ := (State.WearOnly.handWork { s with
          store := { s.store with
            opened := s.store.opened.set b (some (r.appended (s.closingEntry b false true g r))) }
          link := l, gov := s.gov.set b { s.gov.get b with cls := some (s.closingEntry b false true g r).cls } } b g).frame
        rw [h, hw]
        exact ⟨_, _, rfl⟩
    · obtain ⟨l, o, bs, hw⟩ := (State.WearOnly.handWork s b g).frame
      rw [hw]
      exact hself

theorem State.leaveDrilling_prof (s : State) (b : Boom) : ∃ n,
    (s.leaveDrilling b).prof = s.prof.set b { s.prof.get b with mode := .ended, openSeg := none, nextTop := n } := by
  obtain ⟨n, o, h⟩ := State.takeRemnant_prof s b
  refine ⟨n, ?_⟩
  show (s.takeRemnant b).prof.set b { (s.takeRemnant b).prof.get b with mode := .ended, openSeg := none } = _
  rw [h, PerBoom.get_set_same, PerBoom.set_set]

theorem State.leaveDrilling_gov (s : State) (b : Boom) :
    ∃ g : Governor, ((s.leaveDrilling b).gov.get b) = { g.off with outcome := some ((s.endProfile b).drillOutcome b) } :=
  ⟨_, PerBoom.get_set_same _ _ _⟩

/-- The record of a boom that has left its drilling phases carries the drilled depth, the outcome and the layers. -/
theorem State.leaveDrilling_rec (h : s.rec? b = some r) :
    let dd := (s.prof.get b).maxDepth
    ∃ r', (s.takeRemnant b).rec? b = some r' ∧ r'.undrilled = r.undrilled ∧ (s.leaveDrilling b).rec? b = some { r' with
      drilledDepth := some dd, layers := some (buildLayers r'.segments)
      drillOutcome := some (if r.spec.planned * 10 ≤ dd then .planned else .shortByPlan) } := by
  intro dd
  have hmap := (State.DrillOnly.takeRemnant (b := b) s).record b
  rw [h, Option.map_some] at hmap
  obtain ⟨r', hr', hsame⟩ := Option.map_eq_some_iff.mp hmap
  refine ⟨r', hr', hsame, ?_⟩
  obtain ⟨n, o, hprof⟩ := State.takeRemnant_prof s b
  have hdepth : ((s.takeRemnant b).prof.get b).maxDepth = dd := by rw [hprof, PerBoom.get_set_same]
  have hplanned : r'.undrilled.spec.planned = r.undrilled.spec.planned := by rw [hsame]
  have hended : (s.endProfile b).rec? b = some { r' with
      drilledDepth := some dd, layers := some (buildLayers r'.segments) } := by
    have hmod := State.modRec_of_rec hr' fun r => { r with
      drilledDepth := some ((s.takeRemnant b).prof.get b).maxDepth, layers := some (buildLayers r.segments) }
    show State.rec? (State.modRec (s.takeRemnant b) b _) b = _
    rw [hmod, hdepth]
    exact PerBoom.get_set_same _ _ _
  have houtcome : (s.endProfile b).drillOutcome b = if r.spec.planned * 10 ≤ dd then .planned else .shortByPlan := by
    have hmax : ((s.endProfile b).prof.get b).maxDepth = dd := by
      exact (congrArg Profiler.maxDepth (PerBoom.get_set_same _ _ _)).trans hdepth
    have hplanned : r'.spec.planned = r.spec.planned := hplanned
    simp only [State.drillOutcome, State.plannedReached, hended, hmax, hplanned, decide_eq_true_eq]
  have hgov := State.modRec_of_rec (s := (s.endProfile b).modGov b fun g =>
    { g.off with outcome := some ((s.endProfile b).drillOutcome b) }) hended fun r =>
      { r with drillOutcome := some ((s.endProfile b).drillOutcome b) }
  show State.rec? (State.modRec _ b _) b = _
  rw [hgov, houtcome]
  exact PerBoom.get_set_same _ _ _

end

/-! ### ABORT_HOLE (R27, R28) -/

section
variable {s : State} {b : Boom}

theorem State.calmBut_waiting (h : s.calmBut b = true) : s.arb.waiting.filter (fun x => x ≠ b) = [] := by
  simp only [State.calmBut, Bool.and_eq_true, Bool.or_eq_true, List.isEmpty_iff, decide_eq_true_eq] at h
  rcases h.1 with hw | ⟨-, hw⟩
  · rw [hw]
    rfl
  · rw [hw]
    simp

theorem State.calmBut_routes (h : s.calmBut b = true) : (s.valve.routes.all fun r => r.kind ≠ .alternate) = true :=
  ((Bool.and_eq_true _ _).mp h).2

theorem State.calm_of_calmBut (h : s.calmBut b = true) (hp : s.phase b ≠ .mixWait) : s.calm = true := by
  simp only [State.calmBut, hp, decide_false, Bool.false_and, Bool.or_false] at h
  exact h

/-- The boom counts as in phase `p`, and R28 lets its abort through. -/
def State.AbortsFrom (s : State) (b : Boom) (p : Phase) : Prop :=
  (s.seq.get b).state = p ∨ ((s.seq.get b).state = .paused ∧ (s.seq.get b).returnPhase = some p ∧
    s.diu.methane = false ∧ (s.head.get b).scanLost = false)

/-- A Sequencer with the abort taken (R28). -/
def Sequencer.aborting (q : Sequencer) : Sequencer :=
  { q with causes := if q.state = .paused then .empty else q.causes, closing := some .aborted, choices := .empty
           holdComplete := false }

theorem State.AbortsFrom.phase {p : Phase} (h : s.AbortsFrom b p) (hp : p ≠ .paused) : s.phase b = p := by
  rcases h with h | ⟨h, hret, -⟩
  · exact (if_neg (by rw [h]; exact hp)).trans h
  · exact (if_pos h).trans (by rw [hret]; rfl)

/-- The phases from which an abort releases the boom at once (R28). -/
def Phase.abortable (p : Phase) : Bool :=
  p.automatic && p ≠ .resinInsert && p ≠ .mixing && p ≠ .releasing

/-- An abort of a PAUSED boom that R28 lets through. -/
theorem State.abortHole_paused {p : Phase} (h : (s.seq.get b).state = .paused) (hret : (s.seq.get b).returnPhase = some p)
    (hp : p ≠ .releasing) (hgas : s.diu.methane = false) (hscan : (s.head.get b).scanLost = false) :
    s.abortHole b = (s.abortPaused b p, .ok) := by
  have hcause : ¬ s.causeActive b = true := by simp [State.causeActive, hgas, hscan]
  simp only [State.abortHole, h, hret, if_neg hp, if_neg hcause]

theorem State.abortHole_releases {p : Phase} (h : s.AbortsFrom b p) (hp : p.abortable = true) :
    s.abortHole b = (State.toReleasing { s with seq := s.seq.set b (s.seq.get b).aborting } b, .ok) := by
  rcases h with h | ⟨h, hret, hgas, hscan⟩
  · have hfrom : s.abortFrom b = State.toReleasing { s with seq := s.seq.set b (s.seq.get b).aborting } b := by
      have hne : (s.seq.get b).state ≠ .paused := by
        rw [h]
        rintro rfl
        cases hp
      simp only [State.abortFrom, State.modSeq, Sequencer.aborting, if_neg hne]
    rw [← hfrom]
    simp only [State.abortHole, h]
    cases p with
    | jackSet | collaring | drilling | retracting | awaitDecision | awaitBolt | boltPush | mixWait | gelHold
    | torquing => rfl
    | _ => cases hp
  · have hrel : p ≠ .releasing := by
      rintro rfl
      cases hp
    have hpaused : s.abortPaused b p = State.toReleasing { s with seq := s.seq.set b (s.seq.get b).aborting } b := by
      have hfrom : (s.modSeq b fun q => { q with causes := .empty }).abortFrom b =
          State.toReleasing { s with seq := s.seq.set b (s.seq.get b).aborting } b := by
        simp only [State.abortFrom, State.modSeq, Sequencer.aborting, if_pos h, PerBoom.get_set_same, PerBoom.set_set]
      rw [← hfrom]
      unfold State.abortPaused
      cases p with
      | resinInsert | mixing => cases hp
      | _ => rfl
    rw [State.abortHole_paused h hret hrel hgas hscan, hpaused]

/-- What RELEASING makes of a Sequencer that has changed in what RELEASING keeps. -/
theorem State.releasedSeq_map {q q' : Sequencer} {c : Closing} {f : Sequencer → Sequencer} {y : State}
    (hhp : y.hp b = s.hp b) (hhead : y.head = s.head) (hparams : y.params = s.params) (hvalve : y.valve = s.valve)
    (hq : ∀ n, q'.releasing n c = f (q.releasing n c))
    (hf : ∀ (q : Sequencer) d, f { q with feedDown := 0, jackDown := d, jackDownStarted := true } =
      { f q with feedDown := 0, jackDown := d, jackDownStarted := true }) :
    y.releasedSeq b c q' = f (s.releasedSeq b c q) := by
  have hact : y.active b Input.feedRetracted = s.active b Input.feedRetracted := by
    cases b <;> simp only [State.active, State.polarity, State.live, hhead, hparams]
  simp only [State.releasedSeq, hhp, hact, hvalve, hq]
  split
  · exact (hf _ _).symm
  · rfl

/-- An abort from a phase that it leaves at once, the workers leaving `y` (R28, R157). -/
theorem State.abortHole_eq {p : Phase} {y : State} (h : s.AbortsFrom b p) (hp : p.abortable = true)
    (hmay : s.mayRelease b = true) (hw : s.arb.waiting.filter (fun x => x ≠ b) = [])
    (hy : State.leavePhase { s with seq := s.seq.set b (s.seq.get b).aborting } b .interrupted = y) :
    let q := { s.releasedSeq b .aborted (s.seq.get b) with choices := .empty, holdComplete := false }
    s.abortHole b = (({ y with seq := s.seq.set b q, arb := if p.reserves then s.arb.freed b else y.arb }).report
      (phaseNote b (s.seq.get b).state q), .ok) := by
  intro q
  let s1 : State := { s with seq := s.seq.set b (s.seq.get b).aborting }
  have hq1 : s1.seq.get b = (s.seq.get b).aborting := PerBoom.get_set_same _ _ _
  have hne : p ≠ .paused := by
    rintro rfl
    cases hp
  have hphase : s1.phase b = p := by
    rw [State.phase, hq1]
    exact h.phase hne
  have hrel : s1.releasedSeq b .aborted (s1.seq.get b) = q := by
    rw [hq1]
    exact State.releasedSeq_map (f := fun q => { q with choices := .empty, holdComplete := false }) rfl rfl rfl rfl
      (fun _ => rfl) fun _ _ => rfl
  have hstate : (s1.seq.get b).state = (s.seq.get b).state := by rw [hq1]; rfl
  have hhalted : (s1.seq.get b).state ≠ .halted := by
    rw [hstate]
    intro hh
    rcases h with h | ⟨h, -⟩
    · rw [hh] at h
      rw [← h] at hp
      cases hp
    · rw [hh] at h
      cases h
  rw [State.abortHole_releases h hp]
  by_cases hres : p.reserves = true
  · have hto := State.toReleasing_reserved (s := s1) (c := .aborted) hmay hy (by rw [hq1]; rfl) hhalted (by rw [hphase]; exact hres) hw
    rw [hrel, hstate] at hto
    rw [if_pos hres]
    refine (congrArg (·, Result.ok) hto).trans ?_
    simp only [s1, PerBoom.set_set]
  · have hto := State.toReleasing_unreserved (s := s1) (c := .aborted) hmay hy (by rw [hq1]; rfl)
      (fun hh => absurd hh hhalted) (by rw [hphase]; exact Bool.eq_false_iff.mpr hres)
    rw [hrel, hstate] at hto
    rw [if_neg hres]
    refine (congrArg (·, Result.ok) hto).trans ?_
    simp only [s1, PerBoom.set_set]

end

theorem State.answerAbort_taken {s y : State} {body : List Byte} {b : Boom} (hb : s.boomAt body 0 = some b)
    (h : s.abortHole b = (y, .ok)) : s.answerAbort body = s.done y .ok [] := by
  simp only [State.answerAbort, hb, h]
  rfl

theorem State.answerAbort_refused {s : State} {body : List Byte} {b : Boom} {r : Result} (hb : s.boomAt body 0 = some b)
    (h : s.abortHole b = (s, r)) (hr : r ≠ .ok) : s.answerAbort body = (s, r, []) := by
  simp only [State.answerAbort, hb, h]
  exact if_neg hr

/-- A gel hold that is cut writes the time it has counted, and the Controller goes OFF (R112). -/
theorem State.leavePhase_gelHold {s : State} {b : Boom} {r : HoleRecord} {e : MixEnd} (h : s.rec? b = some r)
    (hp : s.phase b = .gelHold) :
    let c := s.sett.get b
    s.leavePhase b e = { s with
      store := { s.store with opened := s.store.opened.set b (some (if c.gelTimer.running then
        { r with gel := r.gel.map fun g => { g with elapsed := c.gelTimer.ticks / 40 } } else r)) }
      sett := s.sett.set b { c.off with gelTimer := { c.gelTimer with running := false } } } := by
  intro c
  have hleave : s.leavePhase b e = (s.cutHold b).modSett b Setting.off := by
    simp only [State.leavePhase, hp, State.leaveSetting]
    rfl
  rw [hleave]
  by_cases hrun : c.gelTimer.running = true
  · rw [if_pos hrun]
    have hcut : s.cutHold b = (s.writeElapsed b c.gelTimer.ms).modSett b fun c => { c with gelTimer := c.gelTimer.hold } :=
      if_pos hrun
    rw [hcut, State.writeElapsed, State.modRec_of_rec h]
    simp only [State.modSett, PerBoom.get_set_same, PerBoom.set_set]
    rfl
  · have hoff : c.gelTimer.running = false := Bool.eq_false_iff.mpr hrun
    have hcut : s.cutHold b = s := if_neg hrun
    have hst : s.store.opened.set b (some r) = s.store.opened := by
      rw [← h]
      exact PerBoom.set_get _ _
    have htimer : { c.gelTimer with running := false } = c.gelTimer := by rw [← hoff]
    rw [if_neg hrun, hcut, hst, htimer]
    rfl

/-- The end of an event keeps the Governors but for their flush-loss timers (R77). -/
theorem State.Ends.gov_eq {x t : State} (h : x.Ends t) (b : Boom) : ∃ ft, t.gov.get b = { x.gov.get b with flushTimer := ft } := by
  have hcore : t.core.gov = x.afterEvent.core.gov := congrArg State.gov h.1
  rw [State.afterEvent_eq_injectorSeen] at hcore
  have htram : x.tramCheck.gov = x.gov := by
    unfold State.tramCheck
    split
    · rfl
    · rfl
  have hgov : t.gov = ((x.tramCheck.flushSync .A).flushSync .B).gov := hcore
  rw [hgov]
  cases b with
  | A => exact ⟨_, by rw [← htram]; rfl⟩
  | B => exact ⟨_, by rw [← htram]; rfl⟩

/-- The Sequencer of a boom whose causes an abort has emptied where it was PAUSED (R28). -/
def Sequencer.uncaused (q : Sequencer) : Sequencer :=
  { q with causes := if q.state = .paused then .empty else q.causes }

section
variable {s : State} {b : Boom}

theorem Sequencer.uncaused_of_ne {q : Sequencer} (h : q.state ≠ .paused) : q.uncaused = q := by
  simp only [Sequencer.uncaused, if_neg h]

theorem Sequencer.uncaused_paused {q : Sequencer} (h : q.state = .paused) : q.uncaused = { q with causes := .empty } := by
  simp only [Sequencer.uncaused, if_pos h]

theorem State.abortHole_mixing (h : s.AbortsFrom b .mixing) :
    s.abortHole b = (State.deferAbort { s with seq := s.seq.set b (s.seq.get b).uncaused } b, .ok) := by
  rcases h with h | ⟨h, hret, hgas, hscan⟩
  · rw [Sequencer.uncaused_of_ne (by simp [h]), PerBoom.set_get]
    simp only [State.abortHole, h]
  · rw [State.abortHole_paused h hret (by decide) hgas hscan, Sequencer.uncaused_paused h]
    rfl

theorem State.abortHole_resin (h : s.AbortsFrom b .resinInsert) :
    s.abortHole b = (State.abortBurst { s with seq := s.seq.set b (s.seq.get b).uncaused } b, .ok) := by
  rcases h with h | ⟨h, hret, hgas, hscan⟩
  · rw [Sequencer.uncaused_of_ne (by simp [h]), PerBoom.set_get]
    simp only [State.abortHole, h]
  · rw [State.abortHole_paused h hret (by decide) hgas hscan, Sequencer.uncaused_paused h]
    rfl

theorem State.deferAbort_eq (s : State) (b : Boom) : s.deferAbort b =
    if (s.seq.get b).deferredAbort then s
    else ({ s with seq := s.seq.set b { s.seq.get b with deferredAbort := true } }).report
      (phaseNote b (s.seq.get b).state { s.seq.get b with deferredAbort := true }) := by
  unfold State.deferAbort
  rw [State.modSeq_notePhase]

end

theorem State.report_replies (s : State) (r : Report) : (s.report r).link.replies = s.link.replies := by
  unfold State.report State.modLink
  dsimp only
  split
  · rfl
  · rfl

theorem State.takeHead_nil {s : State} {fresh : Bool} (h : s.idx.queue = []) : s.takeHead fresh = s := by
  simp only [State.takeHead, h, List.head?_nil]

/-- The end of a burst that is alone in the queue (R137). -/
theorem State.endBurst_alone {s : State} {r : Burst} {k : BurstEnd} (h : s.idx.queue = [r]) :
    s.endBurst k = (State.notifyEnd { s with idx := { s.idx.unserved with queue := [], state := .idle } } r k).takeHead true := by
  simp only [State.endBurst, h]
  rfl

/-- The end of a burst that an abort awaits releases the boom (R29). -/
theorem State.seqBurstEnd_aborted {s : State} {b : Boom} (k : BurstEnd) (hp : s.phase b = .resinInsert)
    (hpend : (s.seq.get b).abortPending = true) (hmay : s.mayRelease b = true) :
    let q := { s.releasedSeq b .aborted (s.seq.get b) with abortPending := false }
    s.seqBurstEnd b k = ({ s with seq := s.seq.set b q }).report (phaseNote b (s.seq.get b).state q) := by
  intro q
  let s1 : State := { s with seq := s.seq.set b { s.seq.get b with abortPending := false, closing := some .aborted } }
  have hq1 : s1.seq.get b = { s.seq.get b with abortPending := false, closing := some .aborted } := PerBoom.get_set_same _ _ _
  have hp1 : s1.phase b = .resinInsert := by
    rw [State.phase, hq1]
    exact hp
  have hhalted : (s1.seq.get b).state ≠ .halted := by
    intro h
    have hne : (s1.seq.get b).state ≠ .paused := by rw [h]; decide
    rw [State.phase_eq hne, h] at hp1
    cases hp1
  have hrel : s1.releasedSeq b .aborted (s1.seq.get b) = q := by
    rw [hq1]
    exact State.releasedSeq_map (s := s) (f := fun q => { q with abortPending := false }) rfl rfl rfl rfl
      (fun _ => rfl) fun _ _ => rfl
  have hto := State.toReleasing_unreserved (s := s1) (c := .aborted) hmay
    (State.leavePhase_unworked (by rw [hp1]; decide)) (by rw [hq1]) (fun h => absurd h hhalted) (by rw [hp1]; rfl)
  rw [hrel, hq1] at hto
  have hend : s.seqBurstEnd b k = s1.toReleasing b := by
    unfold State.seqBurstEnd
    exact (if_neg (not_not_intro hp)).trans (if_pos hpend)
  rw [hend, hto]
  simp only [s1, PerBoom.set_set]

/-- Settles O24. -/
theorem abortReleasesTheBoom : Obligations.AbortReleasesTheBoom := by
  intro tag body s b hr hbut hl hb q c x ok free taken q' aborted off freed
  have hlen := fixedLen_iff.mpr hl
  have hw := State.calmBut_waiting hbut
  have hstill : ∀ y : State, y.arb.waiting = [] → y.valve = s.valve → y.still = true := by
    intro y hy hv
    refine State.still_of_calm ?_
    rw [State.calm, hy, hv]
    exact State.calmBut_routes hbut
  have hwait : s.phase b ≠ .mixWait → s.arb.waiting = [] := fun h => State.calm_waiting (State.calm_of_calmBut hbut h)
  have hrefused : ∀ res, res ≠ Result.ok → s.abortHole b = (s, res) →
      exec (.abortHole tag body) s = .next (s.reply 0x14 tag res []) := fun res hne h =>
    State.answered hr hlen (State.answerAbort_refused hb h hne)
  have haborts : ∀ p, taken p → s.AbortsFrom b p := fun p h => h
  have hphase : ∀ p, p ≠ .paused → taken p → s.phase b = p := fun p hp h => (haborts p h).phase hp
  have haborted : ∀ (p : Phase) (y z : State), taken p → p.abortable = true → s.mayRelease b = true →
      State.leavePhase { s with seq := s.seq.set b q.aborting } b .interrupted = z →
      ({ z with seq := s.seq.set b q', arb := if p.reserves then s.arb.freed b else z.arb } : State) =
        { y with seq := s.seq.set b q' } →
      y.arb.waiting = [] → y.valve = s.valve → aborted y := by
    intro p y z ht hp hmay hz hyz hyw hyv
    refine State.answered_ends hr hlen (State.answerAbort_taken hb (State.abortHole_eq (haborts p ht) hp hmay hw hz)) ?_
      (hstill _ hyw hyv)
    rw [hyz]
  refine ⟨?off, ?releasing, ?caused, ?mixing, ?unworked, ?push, ?mixWait, ?gelHold, ?torquing, ?drilling, ?resin, ?halted⟩
  case off =>
    rintro (h | h | h | h)
    · exact hrefused .state (by decide) (by simp only [State.abortHole, show (s.seq.get b).state = _ from h])
    · exact hrefused .state (by decide) (by simp only [State.abortHole, show (s.seq.get b).state = _ from h])
    · exact hrefused .state (by decide) (by simp only [State.abortHole, show (s.seq.get b).state = _ from h])
    · exact hrefused .state (by decide) (by simp only [State.abortHole, show (s.seq.get b).state = _ from h])
  case releasing =>
    intro h hret
    exact hrefused .state (by decide) (by
      simp only [State.abortHole, show (s.seq.get b).state = _ from h, show (s.seq.get b).returnPhase = _ from hret, if_true])
  case caused =>
    intro p h hret hne hfree
    have hcause : s.causeActive b = true := by
      refine Classical.byContradiction fun hc => ?_
      simp only [State.causeActive, Bool.or_eq_true, not_or, Bool.not_eq_true] at hc
      exact hfree hc
    refine hrefused .causeActive (by decide) ?_
    simp only [State.abortHole, show (s.seq.get b).state = _ from h, show (s.seq.get b).returnPhase = _ from hret]
    rw [if_neg hne, if_pos hcause]
  case mixing =>
    intro ht m s1 s'
    have hs' : State.deferAbort { s with seq := s.seq.set b q.uncaused } b = s' := by
      rw [State.deferAbort_eq]
      simp only [PerBoom.get_set_same, PerBoom.set_set]
      by_cases hd : q.deferredAbort = true
      · have hm : m = q.uncaused := by
          simp only [m, Sequencer.uncaused, ← hd]
        rw [if_pos (by exact hd)]
        simp only [s', s1, if_pos hd, hm]
      · rw [if_neg (by exact hd)]
        simp only [s', s1, if_neg hd]
        rfl
    refine State.answered_ends hr hlen (State.answerAbort_taken hb (State.abortHole_mixing (haborts _ ht))) hs'
      (hstill _ ?_ ?_)
    · have hnone := hwait (by rw [hphase _ (by decide) ht]; decide)
      simp only [s']
      split
      · exact hnone
      · exact hnone
    · simp only [s']
      split
      · rfl
      · rfl
  case unworked =>
    intro ht hmay
    have hone : ∀ p, p ∈ [Phase.jackSet, .retracting, .awaitDecision, .awaitBolt] → taken p → aborted s := by
      intro p hp htp
      simp only [List.mem_cons, List.not_mem_nil, or_false] at hp
      have hfacts : p.abortable = true ∧ p.reserves = false ∧ p ≠ .paused ∧ p ≠ .mixWait ∧
          p ∉ [Phase.collaring, .drilling, .boltPush, .mixWait, .mixing, .gelHold, .torquing] := by
        rcases hp with rfl | rfl | rfl | rfl <;> decide
      obtain ⟨hab, hres, hnp, hnw, hun⟩ := hfacts
      refine haborted p s _ htp hab hmay (State.leavePhase_unworked ?_) ?_ (hwait (by rw [hphase p hnp htp]; exact hnw)) rfl
      · rw [State.phase, PerBoom.get_set_same]
        exact fun h => hun (hphase p hnp htp ▸ h)
      · simp only [hres]
        rfl
    rcases ht with ht | ht | ht | ht
    · exact hone _ (by simp) ht
    · exact hone _ (by simp) ht
    · exact hone _ (by simp) ht
    · exact hone _ (by simp) ht
  case push =>
    intro ht hmay
    refine haborted .boltPush _ _ ht rfl hmay (State.leavePhase_push ?_) ?_ (hwait (by rw [hphase _ (by decide) ht]; decide)) rfl
    · rw [State.phase, PerBoom.get_set_same]
      exact .inl (hphase _ (by decide) ht)
    · rfl
  case mixWait =>
    intro ht hmay
    refine haborted .mixWait _ _ ht rfl hmay (State.leavePhase_push ?_) ?_ rfl rfl
    · rw [State.phase, PerBoom.get_set_same]
      exact .inr (hphase _ (by decide) ht)
    · rfl
  case gelHold =>
    intro ht hmay r hrec r'
    refine haborted .gelHold _ _ ht rfl hmay (State.leavePhase_gelHold (r := r) (by exact hrec) ?_) ?_ rfl rfl
    · rw [State.phase, PerBoom.get_set_same]
      exact hphase _ (by decide) ht
    · rfl
  case torquing =>
    intro ht hmay r hrec
    refine haborted .torquing _ _ ht rfl hmay (State.leavePhase_torquing (r := r) (by exact hrec) ?_) ?_ rfl rfl
    · rw [State.phase, PerBoom.get_set_same]
      exact hphase _ (by decide) ht
    · rfl
  case drilling =>
    intro ht hmay r hrec dd
    let s1 : State := { s with seq := s.seq.set b q.aborting }
    let z : State := { s1.leaveDrilling b with seq := s.seq.set b q', arb := (s1.leaveDrilling b).arb }
    have hone : ∀ p, p = Phase.collaring ∨ p = .drilling → taken p → s.abortHole b = (z.report (phaseNote b q.state q'), .ok) := by
      intro p hp htp
      have hfacts : p.abortable = true ∧ p.reserves = false ∧ p ≠ .paused := by
        rcases hp with rfl | rfl <;> decide
      obtain ⟨hab, hres, hnp⟩ := hfacts
      have hleave : s1.leavePhase b .interrupted = s1.leaveDrilling b := by
        have hs1 : s1.phase b = p := by
          rw [State.phase, PerBoom.get_set_same]
          exact hphase p hnp htp
        unfold State.leavePhase
        rw [hs1]
        exact if_pos (by simpa using hp)
      refine (State.abortHole_eq (haborts p htp) hab hmay hw hleave).trans ?_
      simp only [hres, z]
      rfl
    have habort : s.abortHole b = (z.report (phaseNote b q.state q'), .ok) := by
      rcases ht with ht | ht
      · exact hone _ (.inl rfl) ht
      · exact hone _ (.inr rfl) ht
    have hnone : s.arb.waiting = [] := by
      rcases ht with ht | ht
      · exact hwait (by rw [hphase _ (by decide) ht]; decide)
      · exact hwait (by rw [hphase _ (by decide) ht]; decide)
    obtain ⟨l, pr, g, o, bs, hframe⟩ := (State.DrillOnly.leaveDrilling (b := b) s1).frame
    obtain ⟨t, he, hends⟩ := State.answered_ends hr hlen (State.answerAbort_taken hb habort) (kind := 0x14) (tag := tag) rfl
      (hstill _ (by show (s1.leaveDrilling b).arb.waiting = []; rw [hframe]; exact hnone)
        (by show (s1.leaveDrilling b).valve = s.valve; rw [hframe]))
    obtain ⟨n, hprof⟩ := State.leaveDrilling_prof s1 b
    obtain ⟨g', hgov⟩ := State.leaveDrilling_gov s1 b
    obtain ⟨r', -, -, hleft⟩ := State.leaveDrilling_rec (s := s1) (b := b) (r := r) (by exact hrec)
    have htgov := hends.gov_eq b
    obtain ⟨ft, hft⟩ := htgov
    have htrec : t.rec? b = (s1.leaveDrilling b).rec? b := hends.view fun s => s.rec? b
    have htprof : t.prof = (s1.leaveDrilling b).prof := hends.view State.prof
    refine ⟨t, he, hends.view State.seq, ?_, ?_, ?_, ?_, ?_, ?_, ?_, ?_⟩
    · rw [hft]
      exact congrArg Governor.stage hgov
    · rw [hft]
      exact congrArg Governor.flush hgov
    · rw [htprof, hprof, PerBoom.get_set_same]
    · rw [htprof, hprof, PerBoom.get_set_same]
    · rw [htrec, hleft]
      rfl
    · rw [htrec, hleft]
      rfl
    · rw [htrec, hleft]
      rfl
    · rw [hends.view fun s => s.link.replies, State.reply_replies]
      have hreplies : (s1.leaveDrilling b).link.replies = s.link.replies :=
        replies_of_outer (State.outer_leaveDrilling s1 b)
      rw [State.report_replies, ← hreplies]
  case resin =>
    intro ht hpend r hqueue hboom
    let m : Sequencer := { q.uncaused with abortPending := true }
    let s1 : State := { s with seq := s.seq.set b m }
    have habort : s.abortHole b = (s1.stopBurst b, .ok) := by
      rw [State.abortHole_resin (haborts _ ht)]
      unfold State.abortBurst
      rw [if_neg (by rw [PerBoom.get_set_same]; exact ne_true_of_eq_false hpend)]
      simp only [State.modSeq, PerBoom.get_set_same, PerBoom.set_set]
      rfl
    have hanswer := State.answerAbort_taken hb habort
    have hnone := hwait (by rw [hphase _ (by decide) ht]; decide)
    have hhead : (s1.idx.queue.head?.map Burst.boom) = some b := by
      rw [show s1.idx.queue = [r] from hqueue]
      exact congrArg some hboom
    refine ⟨?_, ?_⟩
    · intro hst m'
      refine State.answered_ends hr hlen hanswer ?_ (hstill _ hnone rfl)
      have hserving : s1.idx.serving = true := by
        rcases hst with hst | hst <;> simp [Indexer.serving, show s1.idx.state = _ from hst]
      unfold State.stopBurst
      rw [if_pos (by rw [hserving, hhead]; simp)]
      rcases hst with hst | hst
      · simp only [show s1.idx.state = _ from hst]
        rfl
      · simp only [show s1.idx.state = _ from hst]
        rfl
    · intro hst hmay m'
      refine State.answered_ends hr hlen hanswer ?_ (hstill _ hnone rfl)
      have hserving : s1.idx.serving = true := by
        rcases hst with hst | hst <;> simp [Indexer.serving, show s1.idx.state = _ from hst]
      have hstop : s1.stopBurst b = s1.endBurst .stopped := by
        unfold State.stopBurst
        rw [if_pos (by rw [hserving, hhead]; simp)]
        rcases hst with hst | hst
        · simp only [show s1.idx.state = _ from hst]
        · simp only [show s1.idx.state = _ from hst]
      let s2 : State := { s1 with idx := { x.unserved with queue := [], state := .idle } }
      have hq2 : s2.seq.get b = m := PerBoom.get_set_same _ _ _
      have hp2 : s2.phase b = .resinInsert := by
        rw [State.phase, hq2]
        exact hphase _ (by decide) ht
      have hend := State.seqBurstEnd_aborted (s := s2) .stopped hp2 (by rw [hq2]) hmay
      have hrel : { s2.releasedSeq b .aborted (s2.seq.get b) with abortPending := false } = m' := by
        rw [hq2]
        exact congrArg (fun q : Sequencer => { q with abortPending := false })
          (State.releasedSeq_map (s := s) (y := s2) (q := q) (q' := m) (c := .aborted) (f := fun q => { q with abortPending := true }) rfl rfl rfl rfl
            (fun _ => rfl) fun _ _ => rfl)
      rw [hrel, hq2] at hend
      rw [hstop, State.endBurst_alone (show s1.idx.queue = [r] from hqueue)]
      unfold State.notifyEnd
      rw [hboom, show State.seqBurstEnd { s1 with idx := _ } b .stopped = _ from hend]
      refine (State.takeHead_nil rfl).trans ?_
      simp only [s2, s1, PerBoom.set_set]
      rfl
  case halted =>
    intro hq hmay hstand h
    let s1 : State := { s with seq := s.seq.set b { q with closing := some .faulted, jogs := .zero } }
    have hq1 : s1.seq.get b = { q with closing := some .faulted, jogs := .zero } := PerBoom.get_set_same _ _ _
    have hp1 : s1.phase b = .halted := by
      rw [State.phase, hq1]
      exact (if_neg (by simp [hq])).trans hq
    have hrel : s1.releasedSeq b .faulted (s1.seq.get b) = h := by
      rw [hq1]
      exact State.releasedSeq_map (s := s) (f := fun q => { q with jogs := .zero }) rfl rfl rfl rfl (fun _ => rfl) fun _ _ => rfl
    have hto := State.toReleasing_unreserved (s := s1) (c := .faulted) hmay (State.leavePhase_unworked (by rw [hp1]; decide))
      (by rw [hq1]) (fun _ => hstand) (by rw [hp1]; rfl)
    have habort : s.abortHole b = (s.abortHalted b, .ok) := by
      simp only [State.abortHole, show (s.seq.get b).state = .halted from hq]
    refine State.answered_ends hr hlen (State.answerAbort_taken hb habort) ?_ (hstill _ (hwait ?_) rfl)
    · refine (show s.abortHalted b = s1.toReleasing b from rfl).trans (hto.trans ?_)
      rw [hrel, hq1]
      simp only [s1, PerBoom.set_set, hq]
    · rw [State.phase_eq (by rw [show (s.seq.get b).state = .halted from hq]; decide), show (s.seq.get b).state = .halted from hq]
      decide

end Sys2Proof.Machine
end

section
namespace Sys2Proof.Machine

/-! The proofs are elaborated one after another: side by side, so many ask for more threads than the memory holds. -/
set_option Elab.async false

/-- A halt whatever the phase: its Sequencer and its report, beside what the workers and the release leave. -/
theorem State.halt_frame {s : State} {b : Boom} {e : MixEnd} (reason : HaltReason) (hs : (s.seq.get b).state ≠ .halted)
    (hw : s.arb.waiting = []) : ∃ y : State, s.WorkersOnly b { y with arb := s.arb } ∧ y.arb.waiting = [] ∧
      y.outer = s.outer ∧ s.halt b reason e = ({ y with seq := s.seq.set b ((s.seq.get b).haltedWith reason) }).report
        (phaseNote b (s.seq.get b).state ((s.seq.get b).haltedWith reason)) := by
  have hworkers := State.WorkersOnly.leavePhase s b e
  have hout := State.outer_leavePhase s b e
  have harb : (s.leavePhase b e).arb = s.arb := by
    obtain ⟨l, p, g, c, o, bs, h⟩ := hworkers
    rw [h]
  by_cases hres : (s.phase b).reserves = true
  · refine ⟨{ s.leavePhase b e with arb := s.arb.freed b }, ?_, rfl, hout,
      (State.halt_reserved reason hs hres (by simp [hw]) rfl).trans rfl⟩
    rw [← harb]
    exact hworkers
  · refine ⟨s.leavePhase b e, ?_, by rw [harb, hw], hout,
      State.halt_unreserved reason hs (Bool.eq_false_iff.mpr hres) rfl⟩
    rw [← harb]
    exact hworkers

/-! ### RESUME (R19, R22) -/

section
variable {s : State} {b : Boom}

/-- The entry into BOLT_PUSH: the push origin and the push demands (R100). -/
theorem State.enterBoltPush_eq (hfree : s.blocked b .boltPush = false) :
    let q := (s.seq.get b).entering .boltPush true
    let c : Setting := { s.sett.get b with
      stage := .push, pushOrigin := some (s.head.get b).feed, pushAdvance := 0
      feedUp := s.hp b P.pushFeed * s.hp b P.feedFlowScale
      rotFwd := s.hp b P.pushRpm * s.hp b P.rotDisplacement / 100 }
    s.enterBoltPush b = ({ s with seq := s.seq.set b q, sett := s.sett.set b c }).report
      (phaseNote b (s.seq.get b).state q) := by
  intro q c
  unfold State.enterBoltPush
  rw [if_neg (ne_true_of_eq_false hfree), State.enterPhase_eq]
  rfl

/-- The entry into MIXING: the setting demands, the mix count and the stall seen mark at 0 (R105). -/
theorem State.enterMixing_eq (hfree : s.blocked b .mixing = false) :
    let q := (s.seq.get b).entering .mixing true
    let c : Setting := { s.sett.get b with
      stage := .mix, mixPulses := 0, stallSeen := false, feedUp := s.hp b P.holdFeedFlow
      rotFwd := s.hp b P.mixRpm * s.hp b P.rotDisplacement / 100 }
    s.enterMixing b = ({ s with seq := s.seq.set b q, sett := s.sett.set b c
                                rot := s.rot.set b (s.rot.get b).cleared }).report
      (phaseNote b (s.seq.get b).state q) := by
  intro q c
  unfold State.enterMixing
  rw [if_neg (ne_true_of_eq_false hfree), State.enterPhase_eq]
  rfl

/-- The boom back in its return phase, before what the phase puts and tests again (R19). -/
def State.backIn (s : State) (b : Boom) (p : Phase) : State :=
  let q := (s.seq.get b).returned p (s.timerReturns b p)
  ({ s with seq := s.seq.set b q }).report (phaseNote b .paused q)

theorem State.resumeBoom_eq {p : Phase} (hq : (s.seq.get b).state = .paused) (hret : (s.seq.get b).returnPhase = some p)
    (hm : p ≠ .mixing) (hfree : s.blocked b p = false) : s.resumeBoom b = (s.backIn b p).reenter b p := by
  simp only [State.resumeBoom, hret, if_neg hm]
  rw [if_neg (ne_true_of_eq_false hfree), State.goPhase_eq, hq]
  rfl

theorem State.resumeBoom_blocked {p : Phase} (hret : (s.seq.get b).returnPhase = some p) (hm : p ≠ .mixing)
    (hblocked : s.blocked b p = true) : s.resumeBoom b = s.halt b .valveFault .interrupted := by
  simp only [State.resumeBoom, hret, if_neg hm, if_pos hblocked]

/-- The return to MIXING enters it anew (R19, R105). -/
theorem State.resumeBoom_mixing (hret : (s.seq.get b).returnPhase = some .mixing) (hfree : s.blocked b .mixing = false)
    (hw : s.arb.waiting = []) : s.resumeBoom b = s.enterMixing b := by
  have henter := State.enterMixing_eq hfree
  have hlist : (s.enterMixing b).testList = s.enterMixing b := by
    refine State.testList_none (State.firstFit_nil ?_)
    rw [henter]
    exact hw
  have hstate : ((s.enterMixing b).seq.get b).state = .mixing := by
    rw [henter]
    exact congrArg Sequencer.state (PerBoom.get_set_same _ _ _)
  simp only [State.resumeBoom, hret, if_true, hlist]
  exact if_neg (by rw [hstate]; decide)

/-- A boom that counts as in MIX_WAIT asks nothing. -/
theorem State.asked_mixWait (h : s.phase b = .mixWait) (k : FnKind) : s.asked (.boom b k) = 0 := by
  have hstate : (s.seq.get b).state = .mixWait ∨ (s.seq.get b).state = .paused := by
    by_cases hp : (s.seq.get b).state = .paused
    · exact .inr hp
    · exact .inl ((State.phase_eq hp).symm.trans h)
  simp only [State.asked, h]
  split
  · rfl
  · rcases hstate with hs | hs
    · rw [hs]
      rfl
    · rw [hs]
      rfl

/-- The waiting reservation of a boom that moves within MIX_WAIT does not come to fit by the move. -/
theorem State.still_mixWait {q : Sequencer} {n : Report} (hbut : s.calmBut b = true) (hp : s.phase b = .mixWait)
    (hfits : s.fits (s.arb.res.get b).amount = false) (hq : q.phase = .mixWait) :
    (({ s with seq := s.seq.set b q } : State).report n).still = true := by
  let y : State := ({ s with seq := s.seq.set b q } : State).report n
  have hyp : y.phase b = .mixWait := by
    rw [State.phase, show y.seq.get b = q from PerBoom.get_set_same _ _ _]
    exact hq
  have hasked : ∀ c k, y.asked (.boom c k) = s.asked (.boom c k) := by
    intro c k
    by_cases hc : c = b
    · subst hc
      rw [State.asked_mixWait hyp, State.asked_mixWait hp]
    · let x : State := { s with seq := s.seq.set b q }
      have hagree : FlowAgree x y := ⟨rfl, rfl, rfl, rfl, rfl, rfl, rfl, fun _ _ => rfl⟩
      rw [hagree.asked]
      simp only [x, State.asked, State.phaseDemand, State.phase, PerBoom.get_set_ne _ hc]
      rfl
  have hsupport : y.supportTotal = s.supportTotal := by
    have heff : ∀ c k, y.effective (.boom c k) = s.effective (.boom c k) := by
      intro c k
      unfold State.effective
      rw [hasked]
      rfl
    simp only [State.supportTotal, heff]
  have hyfits : y.fits (s.arb.res.get b).amount = false := by
    rw [← hfits]
    simp only [State.fits, hsupport]
    rfl
  simp only [State.calmBut, Bool.and_eq_true, Bool.or_eq_true, List.isEmpty_iff, decide_eq_true_eq] at hbut
  have hw : ∀ x ∈ y.arb.waiting, x = b := by
    intro x hx
    have hx' : x ∈ s.arb.waiting := hx
    rcases hbut.1 with h | ⟨-, h⟩
    · rw [h] at hx'
      cases hx'
    · rw [h] at hx'
      exact List.mem_singleton.mp hx'
  show State.still y = true
  simp only [State.still, Bool.and_eq_true, List.all_eq_true]
  refine ⟨fun x hx => ?_, fun r hr => List.all_eq_true.mp hbut.2 r hr⟩
  rw [hw x hx, show y.arb = s.arb from rfl, hyfits]
  rfl

theorem State.answerResume_refused {body : List Byte} {r : Result} (hb : s.boomAt body 0 = some b)
    (h : ((s.seq.get b).state ≠ .paused ∧ r = .state) ∨
      ((s.seq.get b).state = .paused ∧ s.causeActive b = true ∧ r = .causeActive)) :
    s.answerResume body = (s, r, []) := by
  simp only [State.answerResume, hb]
  rcases h with ⟨h, rfl⟩ | ⟨h, hc, rfl⟩
  · exact if_pos h
  · exact (if_neg (by simp [h])).trans (if_pos hc)

theorem State.answerResume_taken {body : List Byte} (hb : s.boomAt body 0 = some b) (h : (s.seq.get b).state = .paused)
    (hc : s.causeActive b = false) : s.answerResume body = s.done (s.resumeBoom b) .ok [] := by
  simp only [State.answerResume, hb]
  exact (if_neg (by simp [h])).trans (if_neg (ne_true_of_eq_false hc))

end

/-- Settles O23. -/
theorem resumeReturnsToThePhase : Obligations.ResumeReturnsToThePhase := by
  intro tag body s b hr hbut hl hb q g c ok rotCleared flow rot ends goesOn
  have hlen := fixedLen_iff.mpr hl
  have hstill : ∀ y : State, y.arb.waiting = [] → y.valve = s.valve → y.still = true := by
    intro y hy hv
    refine State.still_of_calm ?_
    rw [State.calm, hy, hv]
    exact State.calmBut_routes hbut
  refine ⟨?outside, ?caused, ?returns⟩
  case outside =>
    exact fun h => State.answered hr hlen (State.answerResume_refused hb (.inl ⟨h, rfl⟩))
  case caused =>
    intro h hc
    exact State.answered hr hlen (State.answerResume_refused hb (.inr ⟨h, by simpa [State.causeActive] using hc, rfl⟩))
  case returns =>
    intro hq hgas hscan p hret
    have hans := State.answerResume_taken hb hq (show s.causeActive b = false by simp [State.causeActive, hgas, hscan])
    have hphase : s.phase b = p := (if_pos hq).trans (by rw [show (s.seq.get b).returnPhase = some p from hret]; rfl)
    have hwait : p ≠ .mixWait → s.arb.waiting = [] := fun h =>
      State.calm_waiting (State.calm_of_calmBut hbut (by rw [hphase]; exact h))
    refine ⟨?blocked, ?free⟩
    case blocked =>
      intro hm hbl
      have hne : (s.seq.get b).state ≠ .halted := by rw [show (s.seq.get b).state = .paused from hq]; decide
      have hused : p ≠ .mixWait := by
        rintro rfl
        cases hbl
      obtain ⟨y, hy, hyw, hyo, hhalt⟩ := State.halt_frame (s := s) (e := .interrupted) .valveFault hne (hwait hused)
      have hyv : y.valve = s.valve := by
        obtain ⟨l, pr, g', c', o, bs, h⟩ := hy
        exact (congrArg State.valve h :)
      obtain ⟨t, he, hends⟩ := State.answered_ends (kind := 0x13) (tag := tag) hr hlen hans
        ((State.resumeBoom_blocked hret hm hbl).trans hhalt) (hstill _ hyw hyv)
      refine ⟨t, he, hends.view State.seq, ?_⟩
      rw [hends.view fun s => s.link.replies, State.reply_replies, State.report_replies]
      exact congrArg (· ++ [ok]) (replies_of_outer hyo)
    case free =>
      intro hfree
      have hends : ∀ x : State, p ≠ .mixing → p ≠ .mixWait → (s.backIn b p).reenter b p = x →
          x.arb = s.arb → x.valve = s.valve →
          ∃ t, exec (.resume tag body) s = .next t ∧ (x.reply 0x13 tag .ok []).Ends t :=
        fun x hm hw hx ha hv => State.answered_ends hr hlen hans ((State.resumeBoom_eq hq hret hm hfree).trans hx)
          (hstill x (by rw [ha]; exact hwait hw) hv)
      have hact : ∀ k, (s.backIn b p).active b k = s.active b k := fun _ => rfl
      have hback : (s.backIn b p).seq.get b = q.returned p (s.timerReturns b p) := PerBoom.get_set_same _ _ _
      refine ⟨?jackSet, ?drill, ?retracting, ?decision, ?nothing, ?bolt, ?push, ?mixing, ?held, ?torquing, ?lowering, ?feeding,
        ?lowered⟩
      case jackSet =>
        rintro rfl ha
        refine hends _ (by decide) (by decide) ?_ rfl rfl
        refine (if_neg (ne_true_of_eq_false ha)).trans ?_
        simp only [State.modSeq, hback]
        simp only [State.backIn, State.report, State.modLink, PerBoom.set_set]
        rfl
      case drill =>
        intro hp g'
        have hm : p ≠ .mixing ∧ p ≠ .mixWait := by
          rcases hp with rfl | rfl <;> exact ⟨by decide, by decide⟩
        have hre : (s.backIn b p).reenter b p = (s.backIn b p).resumeGovernor b := by
          rcases hp with rfl | rfl <;> rfl
        have hrun : s.timerReturns b p = (p = .collaring && g.stage = .approach) := by
          rcases hp with rfl | rfl <;> simp [State.timerReturns, Phase.timed, g]
        have hgov : (s.backIn b p).resumeGovernor b =
            ((s.backIn b p).modGov b fun _ => g').clearRotation b := by
          unfold State.resumeGovernor
          simp only [State.modGov]
          rfl
        refine hends _ hm.1 hm.2 (hre.trans hgov) rfl rfl |>.imp fun t h => ?_
        rw [← hrun]
        exact h
      case retracting =>
        rintro rfl ha
        refine hends _ (by decide) (by decide) ?_ rfl rfl
        refine (if_neg (ne_true_of_eq_false ha)).trans ?_
        simp only [State.modSeq, hback]
        simp only [State.backIn, State.report, State.modLink, PerBoom.set_set]
        rfl
      case decision =>
        rintro rfl r hrec weak
        refine hends _ (by decide) (by decide) ?_ rfl rfl
        have hrec' : (s.backIn b .awaitDecision).rec? b = some r := hrec
        show State.sendDecision _ b = _
        simp only [State.sendDecision, hrec', hback]
        rfl
      case nothing =>
        intro hp
        have hstate : ((s.backIn b p).reenter b p = s.backIn b p ∧ p ≠ .mixing) ∧ s.timerReturns b p = false := by
          rcases hp with rfl | ⟨rfl, ha⟩ | ⟨rfl, hh⟩ | ⟨rfl, -⟩
          · exact ⟨⟨rfl, by decide⟩, rfl⟩
          · exact ⟨⟨if_neg (ne_true_of_eq_false ha), by decide⟩, rfl⟩
          · refine ⟨⟨if_neg ?_, by decide⟩, rfl⟩
            rw [hback]
            exact ne_true_of_eq_false hh
          · exact ⟨⟨rfl, by decide⟩, rfl⟩
        obtain ⟨⟨hre, hm⟩, hrun⟩ := hstate
        have hsame : s.backIn b p = ({ s with seq := s.seq.set b (q.returned p false) }).report
            (phaseNote b .paused (q.returned p false)) := by
          unfold State.backIn
          rw [hrun]
        refine State.answered_ends hr hlen hans ((State.resumeBoom_eq hq hret hm hfree).trans (hre.trans hsame)) ?_
        by_cases hw : p = .mixWait
        · subst hw
          have hfits : s.arb.waiting = [] ∨ s.fits (s.arb.res.get b).amount = false := by
            rcases hp with h | ⟨h, -⟩ | ⟨h, -⟩ | ⟨-, h⟩
            · cases h
            · cases h
            · cases h
            · exact h
          by_cases hnone : s.arb.waiting = []
          · exact hstill _ hnone rfl
          · exact State.still_mixWait hbut hphase (hfits.resolve_left hnone)
              (if_neg (by simp [Sequencer.returned]))
        · exact hstill _ (hwait hw) rfl
      case bolt =>
        rintro rfl ha hpush c'
        refine hends _ (by decide) (by decide) ?_ rfl rfl
        have hre : (s.backIn b .awaitBolt).reenter b .awaitBolt = (s.backIn b .awaitBolt).enterBoltPush b := by
          refine (if_pos ha).trans (if_pos ?_)
          rw [hback]
          rfl
        refine hre.trans ((State.enterBoltPush_eq (s := s.backIn b .awaitBolt) hpush).trans ?_)
        rw [hback]
        simp only [State.backIn, State.report, State.modLink, PerBoom.set_set]
        rfl
      case push =>
        rintro rfl
        exact hends _ (by decide) (by decide) rfl rfl rfl
      case mixing =>
        rintro rfl c'
        have henter := State.enterMixing_eq hfree
        rw [show (s.seq.get b).state = .paused from hq] at henter
        exact State.answered_ends hr hlen hans ((State.resumeBoom_mixing hret hfree (hwait (by decide))).trans henter)
          (hstill _ (hwait (by decide)) rfl)
      case held =>
        rintro rfl hcomplete htorque c'
        refine hends _ (by decide) (by decide) ?_ rfl rfl
        have hre : (s.backIn b .gelHold).reenter b .gelHold = (s.backIn b .gelHold).enterTorquing b := by
          refine if_pos ?_
          rw [hback]
          exact hcomplete
        refine hre.trans ((State.enterTorquing_eq (s := s.backIn b .gelHold) htorque).trans ?_)
        rw [hback]
        simp only [State.backIn, State.report, State.modLink, PerBoom.set_set]
        rfl
      case torquing =>
        rintro rfl c'
        exact hends _ (by decide) (by decide) rfl rfl rfl
      case lowering =>
        rintro rfl hj ha
        refine hends _ (by decide) (by decide) ?_ rfl rfl
        refine (if_pos (by rw [hback]; exact hj)).trans ((if_neg (ne_true_of_eq_false ha)).trans ?_)
        simp only [State.modSeq, hback]
        simp only [State.backIn, State.report, State.modLink, PerBoom.set_set]
        rfl
      case feeding =>
        rintro rfl hj ha
        refine hends _ (by decide) (by decide) ?_ rfl rfl
        refine (if_neg (by rw [hback]; exact ne_true_of_eq_false hj)).trans ((if_neg ?_).trans ?_)
        · simp only [Bool.and_eq_true]
          exact fun h => ne_true_of_eq_false ha h.2
        · simp only [State.modSeq, hback]
          simp only [State.backIn, State.report, State.modLink, PerBoom.set_set]
          rfl
      case lowered =>
        rintro rfl hj ha hlow
        refine hends _ (by decide) (by decide) ?_ rfl rfl
        let z : State := (s.backIn b .releasing).modSeq b fun q => { q with feedDown := flow P.approachFeed }
        have hz : z.seq.get b = { q.returned .releasing true with feedDown := flow P.approachFeed } := by
          simp only [z, State.modSeq, PerBoom.get_set_same, hback]
          rfl
        refine (if_neg (by rw [hback]; exact ne_true_of_eq_false hj)).trans
          ((State.testReleasing_eq (z := z) (by rw [hz]; rfl) (by rw [hz]; exact hj) fun _ => hlow).trans ((if_pos ha).trans ?_))
        rw [hz]
        simp only [z, State.modSeq, State.backIn, State.report, State.modLink, PerBoom.set_set]
        rfl

end Sys2Proof.Machine
end

section
namespace Sys2Proof.Machine

/-! The proofs are elaborated one after another: side by side, so many ask for more threads than the memory holds. -/
set_option Elab.async false

/-! ### The direct inputs (R184 to R186) -/

/-- An event that leaves a calm state and at which the Arbiter recomputes. -/
theorem State.computed_when {s x : State} {c : Prop} [Decidable c] (hc : c) (hx : x.calm = true) :
    ∃ t, Host.Outcome.next (ρ := Refusal) (φ := Fault) (if c then s.finishComputed x else s) = .next t ∧ x.Ends t :=
  ⟨_, congrArg Host.Outcome.next (if_pos hc), State.finishComputed_ends hx⟩

/-- Settles O38. -/
theorem directInputsQualified : Obligations.DirectInputsQualified := by
  intro s hpow
  have hon : s.power ≠ .off := by rw [hpow]; decide
  refine ⟨?_, ?_, fun he => ?_, fun hm => ?_, fun a => congrArg Host.Outcome.next (if_neg hon), fun hcalm hrun => ?_,
    fun hcalm hrun => ?_⟩
  · refine congrArg Host.Outcome.next ((if_neg hon).trans ?_)
    simp only [State.modDiu, Bool.and_eq_true]
    rfl
  · refine congrArg Host.Outcome.next ((if_neg hon).trans ?_)
    simp only [State.modDiu, Bool.and_eq_true]
    rfl
  · exact congrArg Host.Outcome.next ((if_neg hon).trans (if_neg (by simp [he])))
  · exact congrArg Host.Outcome.next ((if_neg hon).trans (if_neg (by simp [hm])))
  · exact State.computed_when (by simp [hpow, hrun]) hcalm
  · exact State.computed_when (by simp [hpow, hrun]) hcalm

/-! ### The records of a computation (R147) -/

/-- Each record of the computed grants: the cause that withholds its demand, its effective demand, and a grant
within it. -/
theorem State.FlowComputed.mem {t : State} (h : t.FlowComputed) {r : FlowRec} (hr : r ∈ t.arb.flow) :
    r.grant ≤ r.effective ∧ r.cause = t.withheld r.fn ∧ r.effective = if r.cause = .none then t.asked r.fn else 0 := by
  have hflow : t.arb.flow = (grantAll (t.live P.pumpFlow) t.flowInputs).1 := congrArg Prod.fst h
  rw [hflow] at hr
  have hkept : r.kept ∈ t.flowInputs.map FlowRec.kept := by
    rw [← map_kept_grantAll (pump := t.live P.pumpFlow)]
    exact List.mem_map_of_mem hr
  obtain ⟨x, hx, hxr⟩ := List.mem_map.mp hkept
  obtain ⟨hasked, -, hcause, heff⟩ := State.mem_flowInputs hx
  simp only [FlowRec.kept, Prod.mk.injEq] at hxr
  obtain ⟨hfn, ha, -, he, hc⟩ := hxr
  refine ⟨grant_le_of_mem_grantAll hr, ?_, ?_⟩
  · rw [← hc, hcause, hfn]
  · rw [← he, heff, hasked, hfn, hc]

/-! ### METHANE_HIGH (R25, R150) -/

/-- A boom's Sequencer as GAS leaves it (R17, R25). -/
def Sequencer.gassed (q : Sequencer) : Sequencer :=
  if q.state = .mixing then { q.haltedWith .mixInterrupted with deferred := .empty }
  else if q.state = .paused then { q with causes := { q.causes with gas := true } }
  else if q.state.automatic then q.suspended q.state .gas
  else q

/-- The state without the pieces that GAS moves at a boom. -/
def State.offGas (s : State) : State :=
  { s with seq := State.unpowered.seq, gov := State.unpowered.gov, sett := State.unpowered.sett, link := .quiet
           prof := State.unpowered.prof, bits := []
           arb := { s.arb with res := State.unpowered.arb.res }
           store := { s.store with opened := State.unpowered.store.opened } }

theorem State.WorkersOnly.offGas {s t : State} {b : Boom} (h : s.WorkersOnly b t) : t.offGas = s.offGas := by
  obtain ⟨l, p, g, c, o, bs, rfl⟩ := h
  rfl

theorem CauseSet.add_gas {c : CauseSet} (h : c.has .gas = true) : { c with gas := true } = c := by
  cases c
  simp only [CauseSet.has] at h
  simp [h]

/-- GAS reaches a boom: its Sequencer, and nothing but its workers, its record and its reservation. -/
theorem State.arrive_gas {s : State} {b : Boom} (hw : s.arb.waiting = []) (hd : (s.seq.get b).deferredAbort = false) :
    (s.arrive b .gas).seq = s.seq.set b (s.seq.get b).gassed ∧ (s.arrive b .gas).offGas = s.offGas := by
  have hself : ∀ q : Sequencer, q = s.seq.get b → s.seq = s.seq.set b q := fun q h => by
    rw [h, PerBoom.set_get]
  unfold Sequencer.gassed
  by_cases hm : (s.seq.get b).state = .mixing
  · have hphase : s.phase b = .mixing := (State.phase_eq (by simp [hm])).trans hm
    have hhalt := State.halt_reserved (s := s) (b := b) (e := .interrupted) .mixInterrupted (by simp [hm])
      (by rw [hphase]; rfl) (by simp [hw]) rfl
    have harrive : s.arrive b .gas = (s.halt b .mixInterrupted .interrupted).takeDeferred b := by
      simp only [State.arrive, hm, if_true, State.mixInterrupted]
    obtain ⟨l, p, g, c, o, bs, hy⟩ := State.WorkersOnly.leavePhase s b .interrupted
    rw [hy] at hhalt
    have hq : (s.halt b .mixInterrupted .interrupted).seq.get b = (s.seq.get b).haltedWith .mixInterrupted := by
      rw [hhalt]
      exact PerBoom.get_set_same _ _ _
    rw [harrive, State.takeDeferred_resting (by rw [hq]; exact hd) (by rw [hq]; rfl) (by rw [hq]; simp [Sequencer.haltedWith]),
      if_pos hm]
    refine ⟨?_, ?_⟩
    · simp only [State.modSeq, hq]
      rw [hhalt]
      exact PerBoom.set_set _ _ _ _
    · show (s.halt b .mixInterrupted .interrupted).offGas = s.offGas
      rw [hhalt]
      simp only [State.offGas, State.report, State.modLink, Arbiter.freed, ← hw]
  rw [if_neg hm]
  by_cases hp : (s.seq.get b).state = .paused
  · rw [State.arrive_paused hp, if_pos hp]
    split
    · next h => exact ⟨hself _ (by rw [CauseSet.add_gas h]), rfl⟩
    · exact ⟨rfl, rfl⟩
  rw [if_neg hp]
  by_cases ha : (s.seq.get b).state.automatic = true
  · rw [State.arrive_automatic ha hm, State.pauseBoom_eq, if_pos ha]
    exact ⟨rfl, rfl⟩
  · rw [State.arrive_resting (by simpa using ha) hp, if_neg ha]
    exact ⟨hself _ rfl, rfl⟩

/-- With no reservation waiting GAS reaches each present boom in turn. -/
theorem State.arriveAll_gas {s : State} (hw : s.arb.waiting = []) (hd : ∀ b, (s.seq.get b).deferredAbort = false) :
    (s.arriveAll .gas).offGas = s.offGas ∧ ∀ b ∈ s.booms, (s.arriveAll .gas).seq.get b = (s.seq.get b).gassed := by
  have hone : ∀ (y : State) (b : Boom), y.arb.waiting = [] → (y.seq.get b).deferredAbort = false →
      y.arriveTested .gas b = y.arrive b .gas ∧ (y.arrive b .gas).arb.waiting = [] := by
    intro y b hy hyd
    have harb : (y.arrive b .gas).arb.waiting = [] :=
      (congrArg (fun s => s.arb.waiting) (State.arrive_gas hy hyd).2).trans hy
    exact ⟨State.testList_none (State.firstFit_nil harb), harb⟩
  have hall : s.arriveAll .gas = s.booms.foldl (fun s b => s.arriveTested .gas b) s := by
    unfold State.arriveAll State.inOrder
    rw [hw]
    rfl
  obtain ⟨hA, hwA⟩ := hone s .A hw (hd .A)
  obtain ⟨hseqA, hoffA⟩ := State.arrive_gas hw (hd .A)
  have hdB : ((s.arrive .A .gas).seq.get .B).deferredAbort = false := by
    rw [hseqA]
    exact hd .B
  obtain ⟨hB, -⟩ := hone (s.arrive .A .gas) .B hwA hdB
  obtain ⟨hseqB, hoffB⟩ := State.arrive_gas hwA hdB
  rw [hall]
  unfold State.booms
  split
  · rw [List.foldl_cons, List.foldl_cons, List.foldl_nil, hA, hB]
    refine ⟨hoffB.trans hoffA, fun b _ => ?_⟩
    rw [hseqB, hseqA]
    cases b <;> rfl
  · rw [List.foldl_cons, List.foldl_nil, hA]
    refine ⟨hoffA, fun b hb => ?_⟩
    rw [List.mem_singleton.mp hb, hseqA]
    rfl

/-- Settles O40. -/
theorem methaneStopsRotation : Obligations.MethaneStopsRotation := by
  intro s hpow hm hcalm hd
  let s1 : State := { s with
    diu := { s.diu with rawMethane := true, methane := true, clearTimer := { running := false, ticks := 0 } }
    arb := { s.arb with methane := true } }
  let x := (s1.arriveAll .gas).report (.interlock (.methane true))
  obtain ⟨hoff, hseq⟩ := State.arriveAll_gas (s := s1) (State.calm_waiting hcalm) hd
  have hx : x.calm = true := (congrArg State.calm hoff).trans hcalm
  have hexec : exec .methaneActive s = .next (s.finishComputed x) :=
    congrArg Host.Outcome.next ((if_neg (by rw [hpow]; decide)).trans (if_pos (by simp [hpow, hm])))
  have hends : x.Ends (s.finishComputed x) := State.finishComputed_ends hx
  have hcomputed : (s.finishComputed x).FlowComputed :=
    State.finishComputed_computed (State.firstFit_nil (State.calm_waiting hx)) (State.calm_still hx)
  have houter : (s.finishComputed x).outer = s1.outer := by
    rw [State.outer_finishComputed, State.outer_report, State.outer_arriveAll]
  have harb : (s.finishComputed x).arb.methane = true :=
    (hends.view fun s => s.arb.methane).trans (congrArg (fun s => s.arb.methane) hoff)
  refine ⟨_, hexec, congrArg Direct.methane (outer_diu houter), harb, State.keeps_of_outer houter, fun r hr hrot => ?_,
    hcomputed, hends.slots_eq.trans (congrArg (fun s => s.idx.slots) hoff),
    (hends.view fun s => s.store.queue).trans (congrArg (fun s => s.store.queue) hoff), fun b hb => ?_⟩
  · obtain ⟨hle, hcause, heff⟩ := hcomputed.mem hr
    have hheld : r.cause ≠ .none := by
      rw [hcause, State.withheld, harb, hrot]
      (repeat' split) <;> simp_all
    rw [if_neg hheld] at heff
    exact ⟨by omega, heff⟩
  · rw [hends.view State.seq, show x.seq.get b = (s.seq.get b).gassed from hseq b hb]
    refine ⟨fun ha hm => ?_, fun hp => ?_, fun hm => ?_, fun ha hp => ?_⟩
    · have hp : (s.seq.get b).state ≠ .paused := fun h => by simp [h, Phase.automatic] at ha
      rw [Sequencer.gassed, if_neg hm, if_neg hp, if_pos ha]
    · rw [Sequencer.gassed, if_neg (by simp [hp]), if_pos hp]
    · rw [Sequencer.gassed, if_pos hm]
    · have hm : (s.seq.get b).state ≠ .mixing := fun h => by simp [h, Phase.automatic] at ha
      rw [Sequencer.gassed, if_neg hm, if_neg hp, if_neg (by simp [ha])]

end Sys2Proof.Machine
end

section
namespace Sys2Proof.Machine

/-! The proofs are elaborated one after another: side by side, so many ask for more threads than the memory holds. -/
set_option Elab.async false

/-! ### What a boom's Sequencer never moves: the Indexer, the Driver, the inputs and the waiting list -/

/-- The state without the pieces of the booms, their records and bits, and the queued reports. -/
def State.aside (s : State) : State :=
  { s with seq := State.unpowered.seq, prof := State.unpowered.prof, gov := State.unpowered.gov
           sett := State.unpowered.sett, rot := State.unpowered.rot, store := State.unpowered.store, bits := []
           link := .quiet, arb := { s.arb with res := State.unpowered.arb.res } }

/-- With no reservation waiting, `t` is `s` but for the booms' own pieces, the Sequencer of the boom other than `b` as it
was, and reports only added. -/
def State.Beside (s : State) (b : Boom) (t : State) : Prop :=
  s.arb.waiting = [] →
    t.aside = s.aside ∧ (∀ c, c ≠ b → t.seq.get c = s.seq.get c) ∧ s.link.reports <+: t.link.reports

theorem State.report_prefix (s : State) (r : Report) : s.link.reports <+: (s.report r).link.reports := by
  simp only [State.report, State.modLink]
  split
  · exact List.prefix_append _ _
  · exact List.prefix_refl _

namespace State.Beside
variable {s t u : State} {b : Boom}

theorem waiting (h : s.Beside b t) (hw : s.arb.waiting = []) : t.arb.waiting = [] :=
  (congrArg (fun s : State => s.arb.waiting) (h hw).1).trans hw

/-- A step that leaves the Sequencers. -/
theorem of_seq (haside : t.aside = s.aside) (hseq : t.seq = s.seq) (htold : s.link.reports <+: t.link.reports) :
    s.Beside b t :=
  fun _ => ⟨haside, fun c _ => by rw [hseq], htold⟩

/-- A step that sets the boom's own Sequencer. -/
theorem of_set {q : Sequencer} (haside : t.aside = s.aside) (hseq : t.seq = s.seq.set b q)
    (htold : s.link.reports <+: t.link.reports) : s.Beside b t :=
  fun _ => ⟨haside, fun _ hc => by rw [hseq, PerBoom.get_set_ne _ hc], htold⟩

theorem refl (s : State) : s.Beside b s := of_seq rfl rfl (List.prefix_refl _)

theorem trans (h : s.Beside b t) (k : t.Beside b u) : s.Beside b u := fun hw =>
  ⟨(k (h.waiting hw)).1.trans (h hw).1, fun c hc => ((k (h.waiting hw)).2.1 c hc).trans ((h hw).2.1 c hc),
    (h hw).2.2.trans (k (h.waiting hw)).2.2⟩

theorem report (s : State) (r : Report) : s.Beside b (s.report r) := of_seq rfl rfl (s.report_prefix r)

theorem modSeq (s : State) (b : Boom) (f : Sequencer → Sequencer) : s.Beside b (s.modSeq b f) :=
  fun _ => ⟨rfl, fun _ hc => PerBoom.get_set_ne _ hc _, List.prefix_refl _⟩

theorem notePhase (s : State) (b : Boom) : s.Beside b (s.notePhase b) := report s _

theorem goPhase (s : State) (b : Boom) (p : Phase) (f : Sequencer → Sequencer) : s.Beside b (s.goPhase b p f) :=
  (modSeq s b _).trans (report _ _)

theorem enterPhase (s : State) (b : Boom) (p : Phase) (f : Sequencer → Sequencer) : s.Beside b (s.enterPhase b p f) :=
  goPhase s b p _

theorem dropReservation (s : State) (b : Boom) : s.Beside b (s.dropReservation b) := by
  refine fun hw => ⟨?_, fun _ _ => rfl, List.prefix_refl _⟩
  simp only [State.dropReservation, State.modArb, State.aside, hw, List.filter_nil]

theorem testList (s : State) : s.Beside b s.testList := fun hw => by
  rw [State.testList_none (State.firstFit_nil hw)]
  exact ⟨rfl, fun _ _ => rfl, List.prefix_refl _⟩

theorem leavePhase (s : State) (b : Boom) (e : MixEnd) : s.Beside b (s.leavePhase b e) := by
  obtain ⟨m, htold, -⟩ := s.leavePhase_told b e
  have hprefix : s.link.reports <+: (s.leavePhase b e).link.reports := htold ▸ List.prefix_append _ _
  obtain ⟨l, p, g, c, o, bs, h⟩ := State.WorkersOnly.leavePhase s b e
  rw [h] at hprefix ⊢
  exact of_seq rfl rfl hprefix

theorem goHalted (s : State) (b : Boom) (r : HaltReason) : s.Beside b (s.goHalted b r) := by
  unfold State.goHalted
  split
  · exact modSeq s b _
  · exact goPhase s b _ _

theorem haltCore (s : State) (b : Boom) (r : HaltReason) (e : MixEnd) : s.Beside b (s.haltCore b r e) := by
  have h := (leavePhase s b e).trans (goHalted _ b r)
  unfold State.haltCore
  dsimp only
  split
  · exact h.trans (dropReservation _ b)
  · exact h

theorem halt (s : State) (b : Boom) (r : HaltReason) (e : MixEnd) : s.Beside b (s.halt b r e) := by
  unfold State.halt
  dsimp only
  split
  · exact (haltCore s b r e).trans (testList _)
  · exact haltCore s b r e

theorem releaseFrom (s : State) (b : Boom) (p : Phase) : s.Beside b (s.releaseFrom b p) := by
  unfold State.releaseFrom
  split
  · exact (dropReservation s b).trans (testList _)
  · exact refl s

theorem pauseBoom (s : State) (b : Boom) (c : Cause) : s.Beside b (s.pauseBoom b c) := by
  rw [State.pauseBoom_eq]
  exact of_set rfl rfl (State.report_prefix _ _)

theorem arriveBasic (s : State) (b : Boom) (c : Cause) : s.Beside b (s.arriveBasic b c) := by
  unfold State.arriveBasic
  dsimp only
  split
  · split
    · exact refl s
    · exact (modSeq s b _).trans (notePhase _ b)
  · split
    · exact pauseBoom s b c
    · exact refl s

theorem foldl_arriveBasic (l : List Cause) (s : State) : s.Beside b (l.foldl (fun s c => s.arriveBasic b c) s) := by
  induction l generalizing s with
  | nil => exact refl s
  | cons c l ih => exact (arriveBasic s b c).trans (ih _)

theorem takeStanding (s : State) (b : Boom) : s.Beside b (s.takeStanding b) := foldl_arriveBasic _ s

theorem bitClose (s : State) (b : Boom) (p : Nat) : s.Beside b (s.bitClose b p) := by
  unfold State.bitClose
  dsimp only
  split
  · exact of_seq rfl rfl (State.report_prefix _ _)
  · exact of_seq rfl rfl (List.prefix_refl _)

theorem modStore (s : State) (f : Store → Store) : s.Beside b (s.modStore f) := of_seq rfl rfl (List.prefix_refl _)

theorem closeRecord (s : State) (b : Boom) (c : Option Closing) (w : Option HaltReason) :
    s.Beside b (s.closeRecord b c w) := by
  unfold State.closeRecord
  split
  · exact refl s
  · exact ((modStore s _).trans (report _ _)).trans (bitClose _ b _)

theorem modProf (s : State) (b : Boom) (f : Profiler → Profiler) : s.Beside b (s.modProf b f) := of_seq rfl rfl (List.prefix_refl _)

theorem modGov (s : State) (b : Boom) (f : Governor → Governor) : s.Beside b (s.modGov b f) := of_seq rfl rfl (List.prefix_refl _)

theorem modSett (s : State) (b : Boom) (f : Setting → Setting) : s.Beside b (s.modSett b f) := of_seq rfl rfl (List.prefix_refl _)

theorem closeHole (s : State) (b : Boom) : s.Beside b (s.closeHole b) :=
  ((((closeRecord s b _ _).trans (modProf _ b _)).trans (modGov _ b _)).trans (modSett _ b _)).trans
    (goPhase _ b .idle _)

theorem jackLowered (s : State) (b : Boom) : s.Beside b (s.jackLowered b) := by
  unfold State.jackLowered
  dsimp only
  split
  · exact closeHole s b
  · exact refl s

theorem startJackDown (s : State) (b : Boom) : s.Beside b (s.startJackDown b) := by
  unfold State.startJackDown
  dsimp only
  split
  · exact (modSeq s b _).trans (jackLowered _ b)
  · exact modSeq s b _

theorem testReleasing (s : State) (b : Boom) : s.Beside b (s.testReleasing b) := by
  unfold State.testReleasing
  dsimp only
  split
  · exact startJackDown s b
  · exact refl s

theorem toReleasing (s : State) (b : Boom) : s.Beside b (s.toReleasing b) := by
  unfold State.toReleasing
  dsimp only
  split
  · exact halt s b _ _
  · split
    · exact ((((leavePhase s b .interrupted).trans (enterPhase _ b .releasing _)).trans (releaseFrom _ b _)).trans
        (takeStanding _ b)).trans (testReleasing _ b)
    · exact (((leavePhase s b .interrupted).trans (enterPhase _ b .releasing _)).trans (releaseFrom _ b _)).trans
        (testReleasing _ b)

theorem takeDeferred (s : State) (b : Boom) : s.Beside b (s.takeDeferred b) := by
  have habort : s.Beside b (if (s.seq.get b).deferredAbort then
      let s := s.modSeq b fun q => { q with deferredAbort := false }
      match (s.seq.get b).state with
      | .gelHold => s.abortFrom b
      | .halted => s.abortHalted b
      | _ => s
    else s) := by
    split
    · dsimp only
      split
      · exact (modSeq s b _).trans ((modSeq _ b _).trans (toReleasing _ b))
      · exact (modSeq s b _).trans ((modSeq _ b _).trans (toReleasing _ b))
      · exact modSeq s b _
    · exact refl s
  exact (habort.trans (modSeq _ b _)).trans (foldl_arriveBasic _ _)

theorem enterBoltPush (s : State) (b : Boom) : s.Beside b (s.enterBoltPush b) := by
  unfold State.enterBoltPush
  split
  · exact halt s b _ _
  · exact (enterPhase s b .boltPush id).trans (modSett _ b _)

theorem enterAwaitBolt (s : State) (b : Boom) : s.Beside b (s.enterAwaitBolt b) := by
  unfold State.enterAwaitBolt State.boltPresent
  dsimp only
  split
  · split
    · exact (goPhase s b _ _).trans (enterBoltPush _ b)
    · exact goPhase s b _ _
  · exact goPhase s b _ _

theorem seqBurstEnd (s : State) (b : Boom) (k : BurstEnd) : s.Beside b (s.seqBurstEnd b k) := by
  unfold State.seqBurstEnd
  dsimp only
  split
  · exact refl s
  · split
    · exact (modSeq s b _).trans (toReleasing _ b)
    · split
      · split
        · exact (modSeq s b _).trans (notePhase _ b)
        · exact enterAwaitBolt s b
      · exact halt s b _ _
      · exact halt s b _ _
      · exact refl s

theorem notifyEnd (s : State) (r : Burst) (k : BurstEnd) : s.Beside r.boom (s.notifyEnd r k) :=
  (seqBurstEnd s r.boom k).trans (report _ _)

theorem calm (h : s.Beside b t) (hs : s.calm = true) : t.calm = true :=
  (congrArg State.calm (h (State.calm_waiting hs)).1).trans hs

end State.Beside

end Sys2Proof.Machine
end

section
namespace Sys2Proof.Machine

/-! The proofs are elaborated one after another: side by side, so many ask for more threads than the memory holds. -/
set_option Elab.async false

/-! ### The ends of a burst without a waiting request (R137 to R140) -/

section
variable {s : State}

theorem State.Beside.idx_eq {s t : State} {b : Boom} (h : s.Beside b t) (hw : s.arb.waiting = []) : t.idx = s.idx :=
  (congrArg State.idx (h hw).1 :)

theorem State.injectorSeen_of_ne {s : State} (h : s.idx.state ≠ .awaitReady) : s.injectorSeen = s.idx := if_neg h

/-- The Indexer in FAULT (R139, R140). -/
def Indexer.faulted (x : Indexer) (c : IdxFault) : Indexer :=
  { x.unserved with state := .fault, fault := some c, queue := x.queue.tail }

/-- The boom of the burst in service. -/
def State.served (s : State) : Boom := (s.idx.queue.head?.map Burst.boom).getD .A

theorem State.idxFault_beside (s : State) (c : IdxFault) :
    State.Beside { s with idx := s.idx.faulted c } s.served (s.idxFault c) := by
  unfold State.idxFault State.served
  dsimp only
  split
  · next r hr =>
    rw [hr]
    exact (State.Beside.notifyEnd _ _ _).trans (State.Beside.report _ _)
  · exact State.Beside.report _ _

theorem State.calm_idxFault (c : IdxFault) (h : s.calm = true) : (s.idxFault c).calm = true :=
  (s.idxFault_beside c).calm h

theorem State.idxFault_idx (c : IdxFault) (hw : s.arb.waiting = []) : (s.idxFault c).idx = s.idx.faulted c :=
  (s.idxFault_beside c).idx_eq hw

/-- After an event that ends in FAULT the Indexer rests in it. -/
theorem State.Ends.faulted {s t : State} {c : IdxFault} (h : (s.idxFault c).Ends t) (hc : s.calm = true) :
    t.idx = s.idx.faulted c := by
  have hidx := State.idxFault_idx (s := s) c (State.calm_waiting hc)
  rw [h.idx_eq, State.injectorSeen_of_ne (by rw [hidx]; exact IdxState.noConfusion), hidx]

theorem State.of_phase_resinInsert {b : Boom} (hp : s.phase b = .resinInsert) : (s.seq.get b).state ≠ .halted := by
  intro h
  exact absurd (hp.symm.trans ((if_neg (by rw [h]; simp)).trans h)) (by decide)

/-- A burst that ends FAILED or READY_TIMEOUT halts a boom in RESIN_INSERT that awaits no abort (R20). -/
theorem State.seqBurstEnd_failed {b : Boom} {k : BurstEnd} (hk : k = .failed ∨ k = .readyTimeout)
    (hp : s.phase b = .resinInsert) (hpend : (s.seq.get b).abortPending = false) :
    let q := (s.seq.get b).haltedWith .burstFailed
    s.seqBurstEnd b k = ({ s with seq := s.seq.set b q }).report (phaseNote b (s.seq.get b).state q) := by
  have hhalt := State.halt_unreserved (s := s) (b := b) (e := .interrupted) .burstFailed (State.of_phase_resinInsert hp)
    (by rw [hp]; rfl) (State.leavePhase_unworked (by rw [hp]; decide))
  have hend : s.seqBurstEnd b k = s.halt b .burstFailed .interrupted := by
    unfold State.seqBurstEnd
    dsimp only
    rw [if_neg (by simp [hp]), if_neg (ne_true_of_eq_false hpend)]
    rcases hk with rfl | rfl
    · rfl
    · rfl
  rw [hend, hhalt]

theorem State.notifyEnd_failed {r : Burst} {k : BurstEnd} (hk : k = .failed ∨ k = .readyTimeout)
    (hp : s.phase r.boom = .resinInsert) (hpend : (s.seq.get r.boom).abortPending = false) :
    (s.notifyEnd r k).seq = s.seq.set r.boom ((s.seq.get r.boom).haltedWith .burstFailed) :=
  congrArg State.seq (State.seqBurstEnd_failed hk hp hpend)

/-- A fault without the stop mark halts the boom of the burst in service (R20, R140). -/
theorem State.idxFault_seq {r : Burst} (c : IdxFault) (hr : s.idx.queue.head? = some r) (hstop : s.idx.stopMark = false)
    (hp : s.phase r.boom = .resinInsert) (hpend : (s.seq.get r.boom).abortPending = false) :
    (s.idxFault c).seq = s.seq.set r.boom ((s.seq.get r.boom).haltedWith .burstFailed) := by
  unfold State.idxFault
  simp only [hr, hstop]
  exact State.notifyEnd_failed (s := { s with idx := s.idx.faulted c }) (.inl rfl) hp hpend

end

/-! ### A take that finds the carousel able to move touches the Indexer and the reports alone -/

/-- `t` is `s` but for the Indexer, its slots and queue as they were, and the Link Port. -/
def State.IndexerOnly (s t : State) : Prop :=
  ∃ x l, t = { s with idx := x, link := l } ∧ x.slots = s.idx.slots ∧ x.queue = s.idx.queue

namespace State.IndexerOnly
variable {s t u : State}

theorem refl (s : State) : s.IndexerOnly s := ⟨s.idx, s.link, rfl, rfl, rfl⟩

theorem trans (h : s.IndexerOnly t) (k : t.IndexerOnly u) : s.IndexerOnly u := by
  obtain ⟨x, l, rfl, hslots, hqueue⟩ := h
  obtain ⟨y, m, rfl, hslots', hqueue'⟩ := k
  exact ⟨y, m, rfl, hslots'.trans hslots, hqueue'.trans hqueue⟩

theorem modIdx (s : State) (f : Indexer → Indexer) (hslots : (f s.idx).slots = s.idx.slots := by rfl)
    (hqueue : (f s.idx).queue = s.idx.queue := by rfl) : s.IndexerOnly (s.modIdx f) :=
  ⟨f s.idx, s.link, rfl, hslots, hqueue⟩

theorem readySync (s : State) : s.IndexerOnly s.readySync := by
  obtain ⟨st, rt, pt, he⟩ := s.injectorSeen_frame
  rw [s.readySync_eq, he]
  exact modIdx s fun x => { x with state := st, readyTimer := rt, passTimer := pt }

theorem enterAwaitReady (s : State) : s.IndexerOnly s.enterAwaitReady := (modIdx s _).trans (readySync _)

theorem startStep (h : s.valve.isFailed .index = false) : s.IndexerOnly s.startStep := by
  unfold State.startStep
  rw [if_neg (ne_true_of_eq_false h)]
  exact modIdx s _

theorem startMove (h : s.valve.isFailed .index = false) : s.IndexerOnly s.startMove := by
  unfold State.startMove
  split
  · dsimp only
    split
    · exact (modIdx s _).trans (enterAwaitReady _)
    · exact (modIdx s _).trans (startStep h)
  · exact refl s

theorem homeFound (h : s.valve.isFailed .index = false) : s.IndexerOnly s.homeFound :=
  (modIdx s _).trans (startMove h)

theorem startPositioning (h : s.valve.isFailed .index = false) : s.IndexerOnly s.startPositioning := by
  unfold State.startPositioning
  dsimp only
  split
  · exact (modIdx s _).trans (startMove h)
  · split
    · exact ((modIdx s _).trans (modIdx _ _)).trans (homeFound h)
    · exact ((modIdx s _).trans (modIdx _ _)).trans (startStep h)

theorem takeSlot (n : Nat) (fresh : Bool) (h : s.valve.isFailed .index = false) : s.IndexerOnly (s.takeSlot n fresh) :=
  (modIdx s _).trans (startPositioning h)

/-- The take of a burst that is alone in the queue. -/
theorem takeHead_alone {r : Burst} (fresh : Bool) (hr : s.idx.queue = [r]) (h : s.valve.isFailed .index = false) :
    s.IndexerOnly (s.takeHead fresh) := by
  cases hslot : s.idx.slotFor r with
  | some n =>
    rw [State.takeHead_found fresh hr hslot]
    exact takeSlot n fresh h
  | none =>
    rw [State.takeHead_starved fresh hr hslot,
      State.trySetAside_alone (s := State.report { s with idx := s.idx.starving } _) (r := r) hr]
    exact ⟨_, _, rfl, rfl, rfl⟩

end State.IndexerOnly

/-! ### The timers of the Indexer (O49) -/

theorem Slot.failPass_eq (x : Slot) :
    x.failPass = if x.fails = 0 then { x with fails := 1 } else { x with state := .jammed, seq := none, fails := 2 } := by
  unfold Slot.failPass
  by_cases h : x.fails = 0
  · rw [if_pos h, if_neg (by omega), h]
  · rw [if_neg h, if_pos (by omega)]

/-- A failed pass of a burst alone in the queue, INDEX not FAILED and no stop under way (R134). -/
theorem State.passFailed_only {s : State} {r : Burst} {n : Nat} (hr : s.idx.queue = [r]) (hstop : s.idx.stopMark = false)
    (hn : s.idx.selected = some n) (h : s.valve.isFailed .index = false) :
    State.IndexerOnly { s with idx := { s.idx with slots := s.idx.slots.modify n Slot.failPass } } s.passFailed := by
  have htake : ∀ y : State, y.idx.queue = [r] → y.idx.stopMark = false → y.valve.isFailed .index = false →
      y.IndexerOnly (if y.idx.stopMark then y.endBurst .stopped else y.takeHead false) := by
    intro y hy hs hv
    rw [if_neg (ne_true_of_eq_false hs)]
    exact .takeHead_alone false hy hv
  unfold State.passFailed
  rw [hn]
  dsimp only
  let failed : State := { s with idx := { s.idx with slots := s.idx.slots.modify n Slot.failPass } }
  let y := failed.modIdx fun x => { x with passTimer := x.passTimer.hold, selected := none }
  have hy : failed.IndexerOnly y := .modIdx failed _
  split
  · exact (hy.trans ⟨_, _, rfl, rfl, rfl⟩).trans (htake (y.report (.magazine (.jam n ((y.idx.slot n).type.getD .fast)))) hr hstop h)
  · exact hy.trans (htake y hr hstop h)

/-- Settles O49: each expiry is the fault, the end or the failed pass of a burst that is alone in the queue. -/
theorem magazineTimersExpire : Obligations.MagazineTimersExpire := by
  unfold Obligations.MagazineTimersExpire
  intro s r hpow hcalm hqueue hstop hq hpend
  have hp : s.phase r.boom = .resinInsert := (if_neg (by simp [hq])).trans hq
  refine ⟨fun hst hrun => ?_, fun hst hrun => ?_, fun hst hrun hindex n x hn hx => ?_⟩
  · let s1 : State := { s with idx := { s.idx with stepTimer := s.idx.stepTimer.expire (s.live P.stepTimeout) } }
    obtain ⟨t, ht, hends⟩ := State.ends_when (s := s) (x := s.stepExpired) (y := s1.idxFault .stepTimeout)
      (c := (s.power = .running && s.idx.state = .positioning && s.idx.stepTimer.running) = true)
      (by simp [hpow, hst, hrun]) rfl (State.still_of_calm (State.calm_idxFault (s := s1) _ hcalm))
    have hidx := hends.faulted (s := s1) hcalm
    have hseq := (hends.view State.seq).trans (State.idxFault_seq (s := s1) _ (congrArg List.head? hqueue) hstop hp hpend)
    refine ⟨t, ht, State.keeps_of_outer ?_, ?_⟩
    · injection ht with ht
      rw [← ht]
      split <;> simp
    · rw [hidx]
      exact ⟨rfl, rfl, congrArg List.tail hqueue, rfl, rfl, rfl, rfl, rfl, hseq⟩
  · let s1 : State := { s with idx := { s.idx with readyTimer := s.idx.readyTimer.expire (s.live P.readyWait) } }
    let s2 : State := { s1 with idx := { s1.idx.unserved with queue := [], state := .idle } }
    have hbeside : s2.Beside r.boom (s2.notifyEnd r .readyTimeout) := .notifyEnd _ _ _
    have hidx2 := hbeside.idx_eq (State.calm_waiting hcalm)
    obtain ⟨t, ht, hends⟩ := State.ends_when (s := s) (x := s.readyExpired) (y := s2.notifyEnd r .readyTimeout)
      (c := (s.power = .running && s.idx.state = .awaitReady && s.idx.readyTimer.running) = true)
      (by simp [hpow, hst, hrun])
      ((State.endBurst_alone (s := s1) hqueue).trans (State.takeHead_nil (congrArg Indexer.queue hidx2)))
      (State.still_of_calm (hbeside.calm hcalm))
    have hidx : t.idx = s2.idx := by
      rw [hends.idx_eq, State.injectorSeen_of_ne (by rw [hidx2]; exact IdxState.noConfusion), hidx2]
    have hseq := (hends.view State.seq).trans (State.notifyEnd_failed (s := s2) (.inr rfl) hp hpend)
    refine ⟨t, ht, State.keeps_of_outer ?_, ?_⟩
    · injection ht with ht
      rw [← ht]
      split <;> simp
    · rw [hidx]
      exact ⟨rfl, rfl, rfl, rfl, rfl, rfl, hseq⟩
  · let s1 : State := { s with idx := { s.idx with passTimer := s.idx.passTimer.expire (s.live P.passTimeout) } }
    have honly := State.passFailed_only (s := s1) (n := n) hqueue hstop hn hindex
    obtain ⟨y, l, hy, hslots, hqueue'⟩ := honly
    obtain ⟨t, ht, hends⟩ := State.ends_when (s := s) (x := s.passExpired)
      (c := (s.power = .running && s.idx.state = .ejecting && s.idx.passTimer.running) = true)
      (by simp [hpow, hst, hrun]) hy (State.still_of_calm (s := { s with idx := y, link := l }) hcalm)
    have hmodify : s.idx.slots.modify n Slot.failPass = s.idx.slots.set n
        (if x.fails = 0 then { x with fails := 1 } else { x with state := .jammed, seq := none, fails := 2 }) := by
      rw [modify_of_getElem? hx, ← Slot.failPass_eq]
    obtain ⟨st, rt, pt, hidx⟩ := State.injectorSeen_frame { s with idx := y, link := l }
    refine ⟨t, ht, State.keeps_of_outer ?_, (hends.slots_eq.trans hslots).trans hmodify, ?_, hends.view State.store, hends.view State.seq⟩
    · injection ht with ht
      rw [← ht]
      split <;> simp
    · rw [hends.idx_eq, hidx]
      exact hqueue'.trans hqueue

end Sys2Proof.Machine
end

section
namespace Sys2Proof.Machine

/-! The proofs are elaborated one after another: side by side, so many ask for more threads than the memory holds. -/
set_option Elab.async false

/-! ### The move from the home position (R129, R130) -/

section
variable {s : State} {n : Nat}

theorem State.startMove_arrived {p : Nat} (hpos : s.idx.position = some p) (hsel : s.idx.selected = some n)
    (hk : stepsBetween s.idx.slots.length p n = 0) :
    s.startMove = (s.modIdx fun x => { x with remaining := 0 }).enterAwaitReady := by
  simp only [State.startMove, hpos, hsel, hk, if_true]

theorem State.startMove_steps {p : Nat} (hpos : s.idx.position = some p) (hsel : s.idx.selected = some n)
    (hk : stepsBetween s.idx.slots.length p n ≠ 0) :
    s.startMove = (s.modIdx fun x => { x with remaining := stepsBetween s.idx.slots.length p n }).startStep := by
  simp only [State.startMove, hpos, hsel, if_neg hk]

theorem stepsBetween_home (k n : Nat) : stepsBetween k 0 n = n % k := by
  simp [stepsBetween]

/-- From home the carousel moves to the selected slot, or waits there at once. -/
theorem State.homeFound_moves (hst : s.idx.state = .positioning) (hsel : s.idx.selected = some n)
    (h : n % s.idx.slots.length = 0 ∨ s.valve.isFailed .index = false) :
    s.homeFound = State.readySync { s with
      idx := Indexer.toward { s.idx with position := some 0, homing := false } (s.live P.indexFlow) n } := by
  let x : Indexer := { s.idx with position := some 0, homing := false }
  have hsteps := stepsBetween_home s.idx.slots.length n
  let home := s.modIdx fun x => { x with position := some 0, homing := false }
  by_cases hk : stepsBetween s.idx.slots.length 0 n = 0
  · have hto : x.toward (s.live P.indexFlow) n =
        { x with state := .awaitReady, remaining := 0, demand := 0, stepTimer := s.idx.stepTimer.hold
                 readyTimer := .zero } := if_pos hk
    refine (State.startMove_arrived (s := home) rfl hsel hk).trans ?_
    exact (congrArg (fun y => State.readySync { s with idx := y }) hto).symm
  · have hto : x.toward (s.live P.indexFlow) n =
        { x with state := .positioning, remaining := stepsBetween s.idx.slots.length 0 n
                 demand := s.live P.indexFlow, stepTimer := .start } := if_neg hk
    have hf : s.valve.isFailed .index = false := h.resolve_left (hsteps ▸ hk)
    have hrest : State.readySync { s with idx := x.toward (s.live P.indexFlow) n } =
        { s with idx := x.toward (s.live P.indexFlow) n } := if_neg (by rw [hto]; simp)
    refine (State.startMove_steps (s := home) rfl hsel hk).trans ?_
    rw [hrest, hto]
    refine (if_neg (ne_true_of_eq_false hf)).trans ?_
    rw [← hst]
    rfl

/-- From home a FAILED INDEX that must move is a fault (R131). -/
theorem State.homeFound_fails (hsel : s.idx.selected = some n) (hn : n % s.idx.slots.length ≠ 0)
    (hf : s.valve.isFailed .index = true) :
    s.homeFound = State.idxFault { s with
      idx := { s.idx with position := some 0, homing := false, remaining := n % s.idx.slots.length } } .indexFailed := by
  have hsteps := stepsBetween_home s.idx.slots.length n
  refine (State.startMove_steps (s := s.modIdx fun x => { x with position := some 0, homing := false }) rfl hsel
    (hsteps ▸ hn)).trans ?_
  rw [← hsteps]
  exact if_pos hf

end

/-! ### A step event (O48) -/

section
variable {s : State}

/-- A stray step in AWAIT_READY: the homing begins, and an active INDEX_HOME ends it (R131). -/
theorem State.idxStep_awaiting (hst : s.idx.state = .awaitReady) :
    let y : State := { s with idx := { s.idx with
      position := none, readyTimer := { s.idx.readyTimer with running := false }, state := .positioning
      homing := true, homeCount := 0 } }
    s.idxStep = if s.diu.indexHome then y.homeFound else y.startStep :=
  (if_neg (by simp [hst])).trans (if_pos hst)

/-- A step of a move (R130, R139). -/
theorem State.idxStep_moving {p : Nat} (hst : s.idx.state = .positioning) (hhom : s.idx.homing = false)
    (hp : s.idx.position = some p) :
    let p' := (p + 1) % s.idx.slots.length
    let y : State := { s with idx := { s.idx with position := some p', remaining := s.idx.remaining - 1 } }
    s.idxStep = if ¬ (s.diu.indexHome = true ↔ p' = 0) then y.idxFault .homeMismatch
      else if s.idx.stopMark then y.endBurst .stopped
      else if s.idx.remaining - 1 = 0 then y.enterAwaitReady
      else y.modIdx fun x => { x with stepTimer := .start } := by
  intro p' y
  have hy : (s.modIdx fun x => { x with
      position := x.position.map (fun p => (p + 1) % x.slots.length), remaining := x.remaining - 1 }) = y := by
    simp only [State.modIdx, hp]
    rfl
  have hagree : (y.diu.indexHome != (y.idx.position == some 0)) = true ↔ ¬ (s.diu.indexHome = true ↔ p' = 0) := by
    show (s.diu.indexHome != (some p' == some 0)) = true ↔ _
    cases s.diu.indexHome <;> simp
  refine (if_pos hst).trans ((if_neg (ne_true_of_eq_false hhom)).trans ?_)
  unfold State.moveStep
  rw [hy]
  dsimp only
  rw [ite_congr (propext hagree) (fun _ => rfl) (fun _ => rfl)]

/-- A step of a homing (R129, R139). -/
theorem State.idxStep_homing (hst : s.idx.state = .positioning) (hhom : s.idx.homing = true) :
    let y : State := { s with idx := { s.idx with homeCount := s.idx.homeCount + 1 } }
    s.idxStep = if s.diu.indexHome then
        if s.idx.stopMark then State.endBurst { y with idx := { y.idx with position := some 0 } } .stopped
        else y.homeFound
      else if s.idx.slots.length ≤ s.idx.homeCount + 1 then y.idxFault .homeNotFound
      else if s.idx.stopMark then y.endBurst .stopped
      else y.modIdx fun x => { x with stepTimer := .start } :=
  (if_pos hst).trans (if_pos hhom)

end

/-- The state at an INDEX_STEP edge. -/
def State.atStep (s : State) : State := { s with diu := { s.diu with rawIndexStep := true, indexStep := true } }

section
variable {s : State} {y : Indexer} (hpow : s.power = .running) (hcalm : s.calm = true)
include hpow

theorem exec_indexStep : exec (.indexStep true) s = .next (s.finish s.atStep.idxStep) :=
  congrArg Host.Outcome.next ((if_neg (by simp [hpow])).trans (if_pos (by simp [hpow])))

include hcalm

theorem State.stepped_ends (h : s.atStep.idxStep = { s.atStep with idx := y }) :
    ∃ t, exec (.indexStep true) s = .next t ∧ State.Ends { s.atStep with idx := y } t := by
  refine ⟨_, exec_indexStep hpow, ?_⟩
  rw [h]
  exact State.finish_ends (s := { s.atStep with idx := y }) hcalm

theorem State.stepped_waits (h : s.atStep.idxStep = State.readySync { s.atStep with idx := y }) :
    ∃ t, exec (.indexStep true) s = .next t ∧ State.Ends { s.atStep with idx := y } t := by
  refine ⟨_, exec_indexStep hpow, State.Ends.of_readySync ?_⟩
  rw [h]
  refine State.finish_ends ?_
  rw [State.readySync_eq]
  exact hcalm

theorem State.stepped_faults {c : IdxFault} (h : s.atStep.idxStep = State.idxFault { s.atStep with idx := y } c)
    (hstop : y.stopMark = s.idx.stopMark) (hqueue : y.queue = s.idx.queue) :
    ∃ t, exec (.indexStep true) s = .next t ∧
      t.idx = { y.unserved with state := .fault, fault := some c, queue := s.idx.queue.tail } ∧
      (s.idx.stopMark = false → ∀ r, s.idx.queue = [r] → (s.seq.get r.boom).state = .resinInsert →
        (s.seq.get r.boom).abortPending = false →
        t.seq = s.seq.set r.boom ((s.seq.get r.boom).haltedWith .burstFailed)) := by
  have hends : (State.idxFault { s.atStep with idx := y } c).Ends (s.finish s.atStep.idxStep) := by
    rw [h]
    exact State.finish_ends (State.calm_idxFault (s := { s.atStep with idx := y }) c hcalm)
  refine ⟨_, exec_indexStep hpow, ?_, fun hs r hr hq hpend => ?_⟩
  · rw [hends.faulted (s := { s.atStep with idx := y }) hcalm, ← hqueue]
    rfl
  · have hp : s.phase r.boom = .resinInsert := (if_neg (by simp [hq])).trans hq
    exact (hends.view State.seq).trans (State.idxFault_seq (s := { s.atStep with idx := y }) c
      (by rw [hqueue, hr]; rfl) (hstop.trans hs) hp hpend)

/-- A stop that awaited the step ends the burst, and releases the boom that aborts (R29, R139). -/
theorem State.stepped_stops (h : s.atStep.idxStep = State.endBurst { s.atStep with idx := y } .stopped)
    (hqueue : y.queue = s.idx.queue) {r : Burst} (hr : s.idx.queue = [r]) (hq : (s.seq.get r.boom).state = .resinInsert)
    (hpend : (s.seq.get r.boom).abortPending = true) (hmay : s.mayRelease r.boom = true) :
    ∃ t, exec (.indexStep true) s = .next t ∧ t.idx = { y.unserved with state := .idle, queue := [] } ∧
      t.seq = s.seq.set r.boom
        { s.releasedSeq r.boom .aborted (s.seq.get r.boom) with abortPending := false } := by
  let z : State := { s.atStep with idx := { y.unserved with queue := [], state := .idle } }
  have hbeside : z.Beside r.boom (z.notifyEnd r .stopped) := .notifyEnd _ _ _
  have hidx := hbeside.idx_eq (State.calm_waiting (s := s) hcalm)
  have hend : s.atStep.idxStep = z.notifyEnd r .stopped := by
    rw [h, State.endBurst_alone (hqueue.trans hr)]
    exact State.takeHead_nil (congrArg Indexer.queue hidx)
  have hends : (z.notifyEnd r .stopped).Ends (s.finish s.atStep.idxStep) := by
    rw [hend]
    exact State.finish_ends (hbeside.calm hcalm)
  have hp : s.phase r.boom = .resinInsert := (if_neg (by simp [hq])).trans hq
  have hseq := State.seqBurstEnd_aborted (s := z) (b := r.boom) .stopped hp hpend hmay
  refine ⟨_, exec_indexStep hpow, ?_, ?_⟩
  · rw [hends.idx_eq, State.injectorSeen_of_ne (by rw [hidx]; exact IdxState.noConfusion), hidx]
  · exact (hends.view State.seq).trans (congrArg State.seq hseq)

end

/-- Settles O48. -/
theorem indexStepCounted : Obligations.IndexStepCounted := by
  unfold Obligations.IndexStepCounted
  intro s hpow hcalm
  refine ⟨congrArg Host.Outcome.next ((if_neg (by simp [hpow])).trans (if_neg Bool.false_ne_true)), fun hst => ?_,
    fun hst => ⟨fun hhome hf => ?_, fun hhome hf => ?_, fun hhome n hn => ⟨fun hmove => ?_, fun hmove hf => ?_⟩⟩,
    fun hst hhom p hp => ⟨fun hagree hstop => ⟨fun hrem => ?_, fun hrem => ?_⟩, fun hagree => ?_, fun hagree hstop r hr hq hpend hmay => ?_⟩,
    fun hst hhom => ⟨fun hhome hlt hstop => ?_, fun hhome hle => ?_, fun hhome hstop n hn => ⟨fun hmove => ?_, fun hmove hf => ?_⟩,
      fun hhome hstop r hr hq hpend hmay => ?_, fun hhome hlt hstop r hr hq hpend hmay => ?_⟩⟩
  · refine State.stepped_ends hpow hcalm ?_
    have hout : s.atStep.idx.state ≠ .positioning ∧ s.atStep.idx.state ≠ .awaitReady := by
      rcases hst with h | h | h | h <;> simp [State.atStep, h]
    exact (if_neg hout.1).trans (if_neg hout.2)
  · exact State.stepped_ends hpow hcalm ((State.idxStep_awaiting (s := s.atStep) hst).trans
      ((if_neg (ne_true_of_eq_false hhome)).trans (if_neg (ne_true_of_eq_false hf))))
  · exact State.stepped_faults hpow hcalm ((State.idxStep_awaiting (s := s.atStep) hst).trans
      ((if_neg (ne_true_of_eq_false hhome)).trans (if_pos hf))) rfl rfl
  · exact State.stepped_waits hpow hcalm ((State.idxStep_awaiting (s := s.atStep) hst).trans
      ((if_pos hhome).trans (State.homeFound_moves rfl hn hmove)))
  · exact State.stepped_faults hpow hcalm ((State.idxStep_awaiting (s := s.atStep) hst).trans
      ((if_pos hhome).trans (State.homeFound_fails hn hmove hf))) rfl rfl
  · exact State.stepped_ends hpow hcalm ((State.idxStep_moving (s := s.atStep) hst hhom hp).trans
      ((if_neg (Classical.not_not.2 hagree)).trans ((if_neg (ne_true_of_eq_false hstop)).trans (if_neg (Nat.sub_ne_zero_of_lt hrem)))))
  · exact State.stepped_waits hpow hcalm ((State.idxStep_moving (s := s.atStep) hst hhom hp).trans
      ((if_neg (Classical.not_not.2 hagree)).trans ((if_neg (ne_true_of_eq_false hstop)).trans
        (if_pos (Nat.sub_eq_zero_of_le hrem)))))
  · exact State.stepped_faults hpow hcalm ((State.idxStep_moving (s := s.atStep) hst hhom hp).trans (if_pos hagree)) rfl rfl
  · exact State.stepped_stops hpow hcalm ((State.idxStep_moving (s := s.atStep) hst hhom hp).trans
      ((if_neg (Classical.not_not.2 hagree)).trans (if_pos hstop))) rfl hr hq hpend hmay
  · exact State.stepped_ends hpow hcalm ((State.idxStep_homing (s := s.atStep) hst hhom).trans
      ((if_neg (ne_true_of_eq_false hhome)).trans ((if_neg (Nat.not_le.2 hlt)).trans (if_neg (ne_true_of_eq_false hstop)))))
  · exact State.stepped_faults hpow hcalm ((State.idxStep_homing (s := s.atStep) hst hhom).trans
      ((if_neg (ne_true_of_eq_false hhome)).trans (if_pos hle))) rfl rfl
  · exact State.stepped_waits hpow hcalm ((State.idxStep_homing (s := s.atStep) hst hhom).trans
      ((if_pos hhome).trans ((if_neg (ne_true_of_eq_false hstop)).trans (State.homeFound_moves hst hn hmove))))
  · exact State.stepped_faults hpow hcalm ((State.idxStep_homing (s := s.atStep) hst hhom).trans
      ((if_pos hhome).trans ((if_neg (ne_true_of_eq_false hstop)).trans (State.homeFound_fails hn hmove hf)))) rfl rfl
  · exact State.stepped_stops hpow hcalm ((State.idxStep_homing (s := s.atStep) hst hhom).trans
      ((if_pos hhome).trans (if_pos hstop))) rfl hr hq hpend hmay
  · exact State.stepped_stops hpow hcalm ((State.idxStep_homing (s := s.atStep) hst hhom).trans
      ((if_neg (ne_true_of_eq_false hhome)).trans ((if_neg (Nat.not_le.2 hlt)).trans (if_pos hstop)))) rfl hr hq hpend hmay

end Sys2Proof.Machine
end

section
namespace Sys2Proof.Machine

/-! The proofs are elaborated one after another: side by side, so many ask for more threads than the memory holds. -/
set_option Elab.async false

/-! ### The items of LOAD_SLOTS (R123) -/

/-- The items change the slots and the counter alone. -/
theorem Indexer.loadItems_eq (items : List (Nat × CartType)) (x : Indexer) :
    ∃ sl c, (x.loadItems items).1 = { x with slots := sl, seqCounter := c } := by
  induction items generalizing x with
  | nil => exact ⟨_, _, rfl⟩
  | cons i rest ih =>
    obtain ⟨sl, c, h⟩ : ∃ sl c, (x.loadItem i.1 i.2).1 = { x with slots := sl, seqCounter := c } := by
      unfold Indexer.loadItem
      split
      · exact ⟨_, _, rfl⟩
      · split
        · exact ⟨_, _, rfl⟩
        · exact ⟨_, _, rfl⟩
    obtain ⟨sl', c', h'⟩ := ih (x.loadItem i.1 i.2).1
    refine ⟨sl', c', h'.trans ?_⟩
    rw [h]

theorem Indexer.loadItems_state (x : Indexer) (items : List (Nat × CartType)) : (x.loadItems items).1.state = x.state := by
  obtain ⟨sl, c, h⟩ := x.loadItems_eq items
  rw [h]

theorem Indexer.loadItems_queue (x : Indexer) (items : List (Nat × CartType)) : (x.loadItems items).1.queue = x.queue := by
  obtain ⟨sl, c, h⟩ := x.loadItems_eq items
  rw [h]

theorem Indexer.loadItems_length (items : List (Nat × CartType)) (x : Indexer) :
    (x.loadItems items).2.length = items.length := by
  induction items generalizing x with
  | nil => rfl
  | cons i rest ih => exact congrArg (· + 1) (ih _)

theorem Indexer.loadItems_cons {x y : Indexer} {n : Nat} {ty : CartType} {k : LoadResult} (rest : List (Nat × CartType))
    (h : x.loadItem n ty = (y, k)) :
    x.loadItems ((n, ty) :: rest) = ((y.loadItems rest).1, k :: (y.loadItems rest).2) := by
  simp only [Indexer.loadItems, h]

theorem itemList_length (body : List Byte) : (itemList body).length = byteAt body 0 := by
  simp [itemList, chunks_length]

/-! ### A take with INDEX_HOME active (R128 to R130) -/

section
variable {s : State} {n : Nat}

/-- The Indexer on its way to slot `n`, an active INDEX_HOME ending a homing at once. -/
def State.towards (s : State) (y : Indexer) (n : Nat) : Indexer :=
  if y.position = none ∧ s.diu.indexHome = true then
    Indexer.toward { y with position := some 0, homing := false, homeCount := 0 } (s.live P.indexFlow) n
  else y.toward (s.live P.indexFlow) n

theorem State.startPositioning_homed (hpos : s.idx.position = none) (hhome : s.diu.indexHome = true) :
    s.startPositioning =
      State.homeFound { s with idx := { s.idx with state := .positioning, homing := true, homeCount := 0 } } := by
  simp only [State.startPositioning, State.modIdx_idx, hpos]
  exact if_pos hhome

theorem State.takeSlot_towards (fresh : Bool) (hf : s.valve.isFailed .index = false) :
    s.takeSlot n fresh = State.readySync { s with
      idx := s.towards { s.idx with selected := some n, stopMark := if fresh then false else s.idx.stopMark } n } := by
  let y := s.modIdx fun x => { x with selected := some n, stopMark := if fresh then false else x.stopMark }
  by_cases h : s.idx.position = none ∧ s.diu.indexHome = true
  · unfold State.towards
    rw [if_pos h]
    exact (State.startPositioning_homed (s := y) h.1 h.2).trans (State.homeFound_moves
      (s := { y with idx := { y.idx with state := .positioning, homing := true, homeCount := 0 } }) rfl rfl (.inr hf))
  · unfold State.towards
    rw [if_neg h]
    exact State.takeSlot_eq fresh hf fun hpos => by simpa [hpos] using h

/-- A take of a burst with a LOADED slot of its type. -/
theorem State.takeHead_towards {r : Burst} {rest : List Burst} (fresh : Bool) (hq : s.idx.queue = r :: rest)
    (hslot : s.idx.slotFor r = some n) (hf : s.valve.isFailed .index = false) :
    s.takeHead fresh = State.readySync { s with
      idx := s.towards { s.idx with selected := some n, stopMark := if fresh then false else s.idx.stopMark } n } :=
  (State.takeHead_found fresh hq hslot).trans (State.takeSlot_towards fresh hf)

/-- A take of a burst without a LOADED slot of its type. -/
theorem State.takeHead_starves {r : Burst} {rest : List Burst} {ty : CartType} (fresh : Bool)
    (hq : s.idx.queue = r :: rest) (hty : r.wanted = some ty) (hsel : s.idx.select ty = none) :
    s.takeHead fresh = (State.report { s with idx := s.idx.starving } (.magazine (.starved r.boom ty))).trySetAside := by
  have hnone : s.idx.slotFor r = none := (congrArg (Option.bind · s.idx.select) hty).trans hsel
  rw [State.takeHead_starved fresh hq hnone, hty]
  rfl

/-- The set-aside of a starved burst for the waiting one (R135). -/
theorem State.trySetAside_towards {r : Burst} {rest : List Burst} (hq : s.idx.queue = r :: rest)
    (hslot : (rest.head?.bind Burst.wanted).bind s.idx.select = some n) (hf : s.valve.isFailed .index = false) :
    s.trySetAside = State.readySync { s with
      idx := s.towards { s.idx with queue := rest ++ [r], selected := some n, stopMark := false } n } := by
  cases rest with
  | nil => exact absurd hslot (by simp)
  | cons w rest =>
    have hw : s.idx.slotFor w = some n := hslot
    simp only [State.trySetAside, hq, hw]
    exact State.takeSlot_towards (s := { s with idx := { s.idx with queue := w :: rest ++ [r] } }) true hf

theorem State.trySetAside_stays {r : Burst} {rest : List Burst} (hq : s.idx.queue = r :: rest)
    (hslot : (rest.head?.bind Burst.wanted).bind s.idx.select = none) : s.trySetAside = s := by
  cases rest with
  | nil => exact State.trySetAside_alone hq
  | cons w rest =>
    have hw : s.idx.slotFor w = none := hslot
    simp only [State.trySetAside, hq, hw]

/-- A starved burst whose type is LOADED again resumes (R136). -/
theorem State.retestStarved_resumes {r : Burst} {rest : List Burst} (hst : s.idx.state = .starved)
    (hq : s.idx.queue = r :: rest) (hslot : s.idx.slotFor r = some n) (hf : s.valve.isFailed .index = false) :
    s.retestStarved = State.readySync { s with idx := s.towards { s.idx with selected := some n } n } := by
  have htake : s.retestStarved = s.takeSlot n false := by
    simp only [State.retestStarved, if_pos hst, hq, List.head?_cons, hslot]
  exact htake.trans (State.takeSlot_towards false hf)

theorem State.retestStarved_waits {r : Burst} {rest : List Burst} (hst : s.idx.state = .starved)
    (hq : s.idx.queue = r :: rest) (hslot : s.idx.slotFor r = none) : s.retestStarved = s.trySetAside := by
  simp only [State.retestStarved, if_pos hst, hq, List.head?_cons, hslot]

end

/-! ### LOAD_SLOTS and CLEAR_MAGAZINE (O47) -/

section
variable {s : State} {tag : Byte}

/-- A LOAD_SLOTS without items, with more than 24, or with a type that is neither, is refused (R123). -/
theorem exec_loadSlots_refused {body : List Byte} (hr : s.ready = true) (hlen : slotsLen body = true)
    (h : byteAt body 0 = 0 ∨ 24 < byteAt body 0 ∨ ∃ x ∈ itemList body, x.2 = none) :
    exec (.loadSlots tag body) s = .next (s.reply 0x28 tag .range []) := by
  refine State.answered hr hlen (if_pos ?_)
  rcases h with h | h | ⟨x, hx, hn⟩
  · simp [List.length_eq_zero_iff.1 ((itemList_length body).trans h)]
  · simp [itemList_length, h]
  · simp only [Bool.or_eq_true, List.any_eq_true]
    exact .inr ⟨x, hx, by rw [hn]; rfl⟩

theorem answerLoadSlots_taken {body : List Byte} {items : List (Nat × CartType)} (h0 : 0 < byteAt body 0)
    (h24 : byteAt body 0 ≤ 24) (hitems : itemList body = items.map fun x => (x.1, some x.2)) :
    s.answerLoadSlots body = s.done (State.retestStarved { s with idx := (s.idx.loadItems items).1 }) .ok
      (listOf (fun r => u8 (LoadResult.code r)) (s.idx.loadItems items).2) := by
  have hfilter : (itemList body).filterMap (fun x => x.2.map fun t => (x.1, t)) = items := by
    rw [hitems, List.filterMap_map]
    exact List.filterMap_some
  have hlen := itemList_length body
  refine (if_neg ?_).trans ?_
  · simp only [Bool.or_eq_true, List.any_eq_true, not_or, not_exists, not_and]
    refine ⟨⟨?_, ?_⟩, ?_⟩
    · simp only [List.isEmpty_iff_length_eq_zero]
      omega
    · simp only [decide_eq_true_eq]
      omega
    · intro x hx
      rw [hitems] at hx
      obtain ⟨y, -, rfl⟩ := List.mem_map.1 hx
      simp
  · rw [hfilter]
    rfl

end

/-- Settles O47. -/
theorem magazineLoadedAndCleared : Obligations.MagazineLoadedAndCleared := by
  unfold Obligations.MagazineLoadedAndCleared
  intro tag body s hr hcalm
  refine ⟨fun hlen => ⟨exec_loadSlots_refused hr hlen, fun h0 h24 items hitems => ⟨fun hst => ?_, fun hst r rest hq =>
      ⟨fun n hn hf => ?_, fun hn hw => ?_, fun n hw hn hf => ?_⟩⟩⟩,
    fun x n ty rest => ⟨?_, fun hle => ?_, fun hlt hst => ?_, fun hlt hst => ?_⟩, fun hst => ?_, fun hst => ⟨fun hq => ?_,
    fun r rest hq => ⟨fun n hn hf => ?_, fun ty hty hsel => ⟨fun hw => ?_, fun n hw hf => ?_⟩⟩⟩⟩
  · exact State.answered_ends hr hlen (answerLoadSlots_taken h0 h24 hitems)
      (if_neg (by exact fun h => hst ((s.idx.loadItems_state items).symm.trans h))) (State.still_of_calm hcalm)
  · exact State.answered_seen hr hlen (answerLoadSlots_taken h0 h24 hitems)
      (State.retestStarved_resumes ((s.idx.loadItems_state items).trans hst) ((s.idx.loadItems_queue items).trans hq) hn hf)
      (State.still_of_calm hcalm)
  · have hq' := (s.idx.loadItems_queue items).trans hq
    exact State.answered_ends hr hlen (answerLoadSlots_taken h0 h24 hitems)
      ((State.retestStarved_waits (s := { s with idx := (s.idx.loadItems items).1 }) ((s.idx.loadItems_state items).trans hst) hq' hn).trans
        (State.trySetAside_stays (s := { s with idx := (s.idx.loadItems items).1 }) hq' hw))
      (State.still_of_calm hcalm)
  · have hq' := (s.idx.loadItems_queue items).trans hq
    exact State.answered_seen hr hlen (answerLoadSlots_taken h0 h24 hitems)
      ((State.retestStarved_waits (s := { s with idx := (s.idx.loadItems items).1 }) ((s.idx.loadItems_state items).trans hst) hq' hn).trans
        (State.trySetAside_towards (s := { s with idx := (s.idx.loadItems items).1 }) hq' hw hf))
      (State.still_of_calm hcalm)
  · exact Indexer.loadItems_length _ _
  · exact Indexer.loadItems_cons rest (if_pos hle)
  · exact Indexer.loadItems_cons rest ((if_neg (Nat.not_le.2 hlt)).trans (if_pos hst))
  · exact Indexer.loadItems_cons rest ((if_neg (Nat.not_le.2 hlt)).trans (if_neg hst))
  · exact State.answered hr rfl (if_neg hst)
  · exact State.answered_ends hr rfl (if_pos hst) (State.takeHead_nil hq) (State.still_of_calm hcalm)
  · exact State.answered_seen hr rfl (if_pos hst) (State.takeHead_towards true hq hn hf) (State.still_of_calm hcalm)
  · let y : State := { s with idx := { s.idx with fault := none, position := none, state := .idle } }
    let z : State := State.report { y with idx := y.idx.starving } (.magazine (.starved r.boom ty))
    exact State.answered_ends hr rfl (if_pos hst) ((State.takeHead_starves (s := y) true hq hty hsel).trans
      (State.trySetAside_stays (s := z) hq hw)) (State.still_of_calm (s := z) hcalm)
  · let y : State := { s with idx := { s.idx with fault := none, position := none, state := .idle } }
    let z : State := State.report { y with idx := y.idx.starving } (.magazine (.starved r.boom ty))
    exact State.answered_seen hr rfl (if_pos hst) ((State.takeHead_starves (s := y) true hq hty hsel).trans
      (State.trySetAside_towards (s := z) hq hw hf)) (State.still_of_calm (s := z) hcalm)

end Sys2Proof.Machine
end

section
namespace Sys2Proof.Machine

/-! The proofs are elaborated one after another: side by side, so many ask for more threads than the memory holds. -/
set_option Elab.async false

/-! ### The test of the waiting list (R153 to R156) -/

section
variable {s : State} {b : Boom}

/-- `t` is `s` but for the Sequencer, the Controller, the rotation timer and the reservation of boom `b`, which is off
the waiting list, and the reports. -/
def State.OffList (b : Boom) (s t : State) : Prop := ∃ q c o l r, t = { s with
  seq := s.seq.set b q, sett := s.sett.set b c, rot := s.rot.set b o, link := l
  arb := { s.arb with res := s.arb.res.set b r, waiting := s.arb.waiting.filter (fun x => x ≠ b) } }

theorem State.OffList.markAdmitted (s : State) (b : Boom) : s.OffList b (s.markAdmitted b) :=
  ⟨s.seq.get b, s.sett.get b, s.rot.get b, s.link, _, by simp only [PerBoom.set_get]; rfl⟩

theorem State.OffList.modSett {t : State} (h : s.OffList b t) (f : Setting → Setting) : s.OffList b (t.modSett b f) := by
  obtain ⟨q, c, o, l, r, rfl⟩ := h
  refine ⟨q, f c, o, l, r, ?_⟩
  simp only [State.modSett, PerBoom.set_set, PerBoom.get_set_same]

theorem State.OffList.clearRotation {t : State} (h : s.OffList b t) : s.OffList b (t.clearRotation b) := by
  obtain ⟨q, c, o, l, r, rfl⟩ := h
  refine ⟨q, c, o.cleared, l, r, ?_⟩
  simp only [State.clearRotation, State.modRot, PerBoom.set_set, PerBoom.get_set_same]
  rfl

theorem State.OffList.modSeq {t : State} (h : s.OffList b t) (f : Sequencer → Sequencer) : s.OffList b (t.modSeq b f) := by
  obtain ⟨q, c, o, l, r, rfl⟩ := h
  refine ⟨f q, c, o, l, r, ?_⟩
  simp only [State.modSeq, PerBoom.set_set, PerBoom.get_set_same]

theorem State.OffList.notePhase {t : State} (h : s.OffList b t) : s.OffList b (t.notePhase b) := by
  obtain ⟨q, c, o, l, r, rfl⟩ := h
  exact ⟨q, c, o, _, r, rfl⟩

theorem State.OffList.goPhase {t : State} (h : s.OffList b t) (p : Phase) (f : Sequencer → Sequencer) :
    s.OffList b (t.goPhase b p f) := by
  obtain ⟨q, c, o, l, r, rfl⟩ := h
  rw [State.goPhase_eq]
  simp only [PerBoom.set_set]
  exact ⟨_, c, o, _, r, rfl⟩

theorem State.OffList.goHalted {t : State} (h : s.OffList b t) (r : HaltReason) : s.OffList b (t.goHalted b r) := by
  unfold State.goHalted
  split
  · exact h.modSeq _
  · exact h.goPhase _ _

theorem State.OffList.dropReservation {t : State} (h : s.OffList b t) : s.OffList b (t.dropReservation b) := by
  obtain ⟨q, c, o, l, r, rfl⟩ := h
  refine ⟨q, c, o, l, { mark := .none, amount := 0 }, ?_⟩
  simp only [State.dropReservation, State.modArb, PerBoom.set_set, List.filter_filter, Bool.and_self]

/-- An admission moves the boom's own pieces alone (R156). -/
theorem State.admitBoom_offList (s : State) (b : Boom) : s.OffList b (s.admitBoom b) := by
  let m := s.markAdmitted b
  have hm : s.OffList b m := .markAdmitted s b
  unfold State.admitBoom
  dsimp only
  split
  · next hq =>
    unfold State.enterMixing
    split
    · have hphase : m.phase b = .mixWait := (if_neg (by rw [hq]; simp)).trans hq
      have hleave : (m.leavePhase b .interrupted) = m.modSett b Setting.off := State.leavePhase_push (.inr hphase)
      unfold State.haltCore
      dsimp only
      rw [hleave]
      have hgo := (hm.modSett Setting.off).goHalted .valveFault
      split
      · exact hgo.dropReservation
      · exact hgo
    · exact ((hm.goPhase _ _).modSett _).clearRotation
  · split
    · exact (hm.modSeq _).notePhase
    · exact hm

theorem State.admitBoom_waiting (s : State) (b : Boom) :
    (s.admitBoom b).arb.waiting = s.arb.waiting.filter (fun x => x ≠ b) := by
  obtain ⟨q, c, o, l, r, h⟩ := s.admitBoom_offList b
  rw [h]

theorem State.mem_of_firstFit (h : s.firstFit = some b) : b ∈ s.arb.waiting := List.mem_of_find?_eq_some h

/-- With a round for each entry the test ends with none that fits. -/
theorem State.testWaiting_firstFit (n : Nat) (s : State) (h : s.arb.waiting.length ≤ n) :
    (State.testWaiting n s).firstFit = none := by
  induction n generalizing s with
  | zero => exact State.firstFit_nil (List.length_eq_zero_iff.1 (Nat.le_zero.1 h))
  | succ n ih =>
    unfold State.testWaiting
    cases hf : s.firstFit with
    | none => exact hf
    | some b =>
      refine ih _ ?_
      have hlt : (s.arb.waiting.filter fun x => x ≠ b).length < s.arb.waiting.length :=
        List.length_filter_lt_length_iff_exists.2 ⟨b, State.mem_of_firstFit hf, by simp⟩
      rw [State.admitBoom_waiting]
      omega

theorem State.testList_firstFit (s : State) : s.testList.firstFit = none := State.testWaiting_firstFit _ s (Nat.le_refl _)

/-- The first entry that fits, and the rest of the list when it is admitted. -/
theorem State.testList_admits {pre post : List Boom} (hw : s.arb.waiting = pre ++ b :: post) (hb : b ∉ pre ++ post)
    (hpre : ∀ x ∈ pre, s.fits (s.arb.res.get x).amount = false) (hfit : s.fits (s.arb.res.get b).amount = true) :
    s.testList = (s.admitBoom b).testList ∧ (s.admitBoom b).arb.waiting = pre ++ post := by
  simp only [List.mem_append, not_or] at hb
  have hfirst : s.firstFit = some b := by
    rw [State.firstFit, hw, List.find?_append, List.find?_eq_none.2 fun x hx => ne_true_of_eq_false (hpre x hx)]
    exact List.find?_cons_of_pos (p := fun b => s.fits (s.arb.res.get b).amount) hfit
  have hrest : (s.admitBoom b).arb.waiting = pre ++ post := by
    rw [State.admitBoom_waiting, hw, List.filter_append, List.filter_cons_of_neg (by simp)]
    congr 1
    · exact List.filter_eq_self.2 fun x hx => by simpa using ne_of_mem_of_not_mem hx hb.1
    · exact List.filter_eq_self.2 fun x hx => by simpa using ne_of_mem_of_not_mem hx hb.2
  refine ⟨?_, hrest⟩
  unfold State.testList
  rw [hrest, hw]
  simp only [List.length_append, List.length_cons, ← Nat.add_assoc]
  conv => lhs; unfold State.testWaiting
  rw [hfirst]

end

/-! ### A good frame without an event (R178, R183) -/

section
variable {s : State} {b : Boom} {frame : BitVec 80} {v : FrameValues}

/-- The state once the Head Scan Unit has taken a good frame's values. -/
def State.sampled (s : State) (b : Boom) (v : FrameValues) : State :=
  { s with head := s.head.set b ((s.head.get b).takeGood v (s.live P.debounce)) }

theorem State.takeFrame_good (hv : judgeFrame frame = some v) (hlost : (s.head.get b).scanLost = false) :
    s.takeFrame b frame = s.sampled b v := by
  unfold State.takeFrame
  dsimp only
  rw [if_neg (by simp [Head.losesScan, hv]), if_neg (by simp [hlost]), hv]
  rfl

theorem State.active_of_outer {t : State} (h : t.outer = s.outer) (k : Nat) : t.active b k = s.active b k := by
  have hhead : t.head = s.head := congrArg Outer.head h
  have hparams : t.params = s.params := congrArg Outer.params h
  simp only [State.active, State.polarity, State.live, hhead, hparams]

/-- A good frame with the guard closed and no new input is a sample alone. -/
theorem State.scanArrival_sample (hv : judgeFrame frame = some v) (hlost : (s.head.get b).scanLost = false)
    (hguard : (s.sampled b v).active b Input.guardClosed = true) (hnew : s.newInputs (s.sampled b v) b = []) :
    s.scanArrival b frame = ((s.sampled b v).modRot b fun r => { r with samplePulses := 0 }).workSample b
      (s.rot.get b).samplePulses := by
  unfold State.scanArrival
  dsimp only
  rw [State.takeFrame_good hv hlost, hnew, ite_self, State.takeInputs_nil]
  have hset : (s.head.get b).losesScan frame = false := by simp [Head.losesScan, hv]
  rw [hset, if_neg Bool.false_ne_true]
  refine if_pos ((State.active_of_outer ?_ _).trans hguard)
  simp

/-- A good frame's command and its end, where the frame is a sample alone. -/
theorem exec_sample {x : State} (hpow : s.power = .running) (hpres : s.present b = true) (hv : judgeFrame frame = some v)
    (hlost : (s.head.get b).scanLost = false) (hguard : (s.sampled b v).active b Input.guardClosed = true)
    (hnew : s.newInputs (s.sampled b v) b = [])
    (hwork : ((s.sampled b v).modRot b fun r => { r with samplePulses := 0 }).workSample b (s.rot.get b).samplePulses = x)
    (hstill : x.still = true) : ∃ t, exec (.scanFrameArrival b frame) s = .next t ∧ x.Ends t :=
  State.ends_when (by simp [State.sees, hpow, hpres])
    ((State.scanArrival_sample hv hlost hguard hnew).trans hwork) hstill

end

/-! ### The push and the reservation (R100 to R103) -/

section
variable {s : State} {b : Boom} {r : HoleRecord}

theorem State.workSample_push (hq : (s.seq.get b).state = .boltPush) (n : Nat) :
    s.workSample b n = (s.pushSample b).1.takeSetReport b (s.pushSample b).2 := by
  simp only [State.workSample, hq]

/-- The push advance of the latest sample (R100). -/
def State.pushed (s : State) (b : Boom) : Nat := (s.head.get b).feed - (s.sett.get b).pushOrigin.getD (s.head.get b).feed

theorem State.pushSample_on (hrec : s.rec? b = some r) (h : (s.head.get b).thrust < r.param P.seatThrust) :
    s.pushSample b = (s.modSett b fun c => { c with pushAdvance := s.pushed b }, .none) :=
  if_pos (Nat.lt_of_lt_of_eq h
    (State.hp_of_rec (s := s.modSett b fun c => { c with pushAdvance := s.pushed b }) hrec _).symm)

theorem State.pushSample_seats (hrec : s.rec? b = some r) (h : r.param P.seatThrust ≤ (s.head.get b).thrust) :
    s.pushSample b = (s.modSett b fun c => { c with pushAdvance := s.pushed b, feedUp := 0, rotFwd := 0 },
      if (r.spec.boltLen - 200) * 10 ≤ s.pushed b then .seated else .blocked) := by
  let y := s.modSett b fun c => { c with pushAdvance := s.pushed b }
  have hadvance : (y.sett.get b).pushAdvance = s.pushed b := congrArg Setting.pushAdvance (PerBoom.get_set_same _ _ _)
  have hsample : s.pushSample b = if (s.head.get b).thrust < y.hp b P.seatThrust then (y, .none) else
      (y.modSett b fun c => { c with feedUp := 0, rotFwd := 0 },
        if seatDistance (((y.rec? b).map fun r => r.spec.boltLen).getD 0) ≤ (y.sett.get b).pushAdvance then
          .seated else .blocked) := rfl
  rw [hsample, hadvance, if_neg (Nat.not_lt.2 (Nat.le_trans (Nat.le_of_eq (State.hp_of_rec (s := y) hrec _)) h)),
    show y.rec? b = some r from hrec]
  refine Prod.ext ?_ rfl
  simp only [y, State.modSett, PerBoom.set_set, PerBoom.get_set_same, State.pushed]

/-- A boom that does not work its jacks asks no SUPPORT flow. -/
def State.unjacked (s : State) (b : Boom) : Prop := s.asked (.boom b .jackUp) = 0 ∧ s.asked (.boom b .jackDown) = 0

theorem State.unjacked_push (hp : s.phase b = .boltPush) (hq : (s.seq.get b).state = .boltPush) : s.unjacked b := by
  constructor
  · simp only [State.asked, hq, hp]
    exact ite_self _
  · simp only [State.asked, hq, hp]
    exact ite_self _

/-- The SUPPORT total where only a boom has moved that works its jacks neither before nor after. -/
theorem State.supportTotal_of_unjacked {t : State} (hs : s.unjacked b) (ht : t.unjacked b)
    (hother : ∀ c, c ≠ b → ∀ k, t.asked (.boom c k) = s.asked (.boom c k)) (harb : t.arb.estop = s.arb.estop)
    (hmeth : t.arb.methane = s.arb.methane) (hv : t.valve = s.valve) : t.supportTotal = s.supportTotal := by
  have heff : ∀ c k, k = .jackUp ∨ k = .jackDown → t.effective (.boom c k) = s.effective (.boom c k) := by
    intro c k hk
    have hasked : t.asked (.boom c k) = s.asked (.boom c k) := by
      by_cases hc : c = b
      · subst hc
        rcases hk with rfl | rfl
        · exact ht.1.trans hs.1.symm
        · exact ht.2.trans hs.2.symm
      · exact hother c hc k
    simp only [State.effective, State.withheld, hasked, harb, hmeth, hv]
    rfl
  simp only [State.supportTotal, heff _ _ (.inl rfl), heff _ _ (.inr rfl)]

theorem Arbiter.admittedSum_waiting {a : Arbiter} {n : Nat} (h : (a.res.get b).mark = .none) (w : List Boom) :
    ({ a with res := a.res.set b { mark := .waiting, amount := n }, waiting := w } : Arbiter).admittedSum = a.admittedSum := by
  cases b with
  | A =>
    have h : a.res.a.mark = .none := h
    simp [Arbiter.admittedSum, PerBoom.set, h]
    rfl
  | B =>
    have h : a.res.b.mark = .none := h
    simp [Arbiter.admittedSum, PerBoom.set, h]
    rfl

/-- The boom in MIX_WAIT with its reservation put, before the list is tested (R103, R153). -/
def State.waitingMix (s : State) (b : Boom) (n : Nat) : State :=
  let q := (s.seq.get b).entering .mixWait false
  ({ s with seq := s.seq.set b q, sett := s.sett.set b { s.sett.get b with stage := .wait, feedUp := 0, rotFwd := 0 }
            arb := { s.arb with res := s.arb.res.set b { mark := .waiting, amount := n }, waiting := [b] } }).report
    (phaseNote b (s.seq.get b).state q)

theorem State.enterMixWait_eq (hrec : s.rec? b = some r) (hw : s.arb.waiting = []) :
    let n := r.param P.mixRpm * r.param P.rotDisplacement / 100 + r.param P.holdFeedFlow
    s.enterMixWait b = (s.waitingMix b n).testList := by
  intro n
  let y := (s.enterPhase b .mixWait id).modSett b fun c => { c with stage := .wait, feedUp := 0, rotFwd := 0 }
  have hn : y.reservationOf b = n := by
    simp only [State.reservationOf, State.rotFlow, State.hp_of_rec (s := y) hrec]
    rfl
  have hput : y.putReservation b n = s.waitingMix b n := by
    let q := (s.seq.get b).entering .mixWait false
    have hy : y = ({ s with
        seq := s.seq.set b q, sett := s.sett.set b { s.sett.get b with stage := .wait, feedUp := 0, rotFwd := 0 } } : State).report
        (phaseNote b (s.seq.get b).state q) := by
      simp only [y, State.enterPhase_eq]
      rfl
    have hlist : s.arb.waiting.filter (fun x => x ≠ b) ++ [b] = [b] := by
      rw [hw]
      rfl
    rw [hy]
    exact congrArg (fun w => State.report { s with
      seq := s.seq.set b q, sett := s.sett.set b { s.sett.get b with stage := .wait, feedUp := 0, rotFwd := 0 }
      arb := { s.arb with res := s.arb.res.set b { mark := .waiting, amount := n }, waiting := w } }
      (phaseNote b (s.seq.get b).state q)) hlist
  unfold State.enterMixWait
  dsimp only
  rw [hn, hput]

theorem State.waitingMix_asked {c : Boom} (hc : c ≠ b) (n : Nat) (k : FnKind) :
    (s.waitingMix b n).asked (.boom c k) = s.asked (.boom c k) := by
  let x : State := { s with seq := s.seq.set b ((s.seq.get b).entering .mixWait false)
                            sett := s.sett.set b { s.sett.get b with stage := .wait, feedUp := 0, rotFwd := 0 }
                            arb := { s.arb with res := s.arb.res.set b { mark := .waiting, amount := n }, waiting := [b] } }
  have hagree : FlowAgree x (x.report (phaseNote b (s.seq.get b).state ((s.seq.get b).entering .mixWait false))) :=
    ⟨rfl, rfl, rfl, rfl, rfl, rfl, rfl, fun _ _ => rfl⟩
  refine (hagree.asked (.boom c k)).trans ?_
  simp only [x, State.asked, State.phaseDemand, State.phase, PerBoom.get_set_ne _ hc]
  rfl

/-- The reservation is tested against the flow as it stood before the boom waited for it (R154). -/
theorem State.waitingMix_fits (hq : (s.seq.get b).state = .boltPush) (hres : (s.arb.res.get b).mark = .none) (n : Nat) :
    (s.waitingMix b n).fits n = s.fits n := by
  have hwait : (s.waitingMix b n).phase b = .mixWait := by
    rw [State.phase, show (s.waitingMix b n).seq.get b = _ from PerBoom.get_set_same _ _ _]
    rfl
  have hsupport : (s.waitingMix b n).supportTotal = s.supportTotal :=
    State.supportTotal_of_unjacked (State.unjacked_push ((State.phase_eq (by rw [hq]; simp)).trans hq) hq)
      ⟨State.asked_mixWait hwait _, State.asked_mixWait hwait _⟩ (fun c hc k => State.waitingMix_asked hc n k) rfl rfl rfl
  have hadmitted : (s.waitingMix b n).arb.admittedSum = s.arb.admittedSum := Arbiter.admittedSum_waiting hres _
  simp only [State.fits, hsupport, hadmitted]
  rfl

/-- The entry into MIX_WAIT, and at once into MIXING where the reservation fits (R103, R154, R156). -/
theorem State.enterMixWait_ends {n : Nat} (hcalm : s.calm = true) (hq : (s.seq.get b).state = .boltPush)
    (hres : (s.arb.res.get b).mark = .none) (hfree : s.blocked b .mixing = false)
    (hrec : s.rec? b = some r) (hn : r.param P.mixRpm * r.param P.rotDisplacement / 100 + r.param P.holdFeedFlow = n) :
    let z := s.enterMixWait b
    let fit := s.supportTotal + s.arb.admittedSum + n ≤ s.live P.pumpFlow
    z.still = true ∧ z.seq = s.seq.set b (if fit then (s.seq.get b).entering .mixing true
        else (s.seq.get b).entering .mixWait false) ∧
      z.arb.res.get b = { mark := if fit then .admitted else .waiting, amount := n } ∧
      z.arb.waiting = (if fit then [] else [b]) ∧
      (z.sett.get b).pushAdvance = (s.sett.get b).pushAdvance ∧
      (z.sett.get b).stage = (if fit then .mix else .wait) ∧ z.store = s.store := by
  intro z fit
  let m := s.waitingMix b n
  have hz : z = m.testList := (State.enterMixWait_eq hrec (State.calm_waiting hcalm)).trans (by rw [hn])
  have hmres : m.arb.res.get b = { mark := .waiting, amount := n } := PerBoom.get_set_same _ _ _
  have hadvance : (m.sett.get b).pushAdvance = (s.sett.get b).pushAdvance := by
    have hsett : m.sett.get b = { s.sett.get b with stage := .wait, feedUp := 0, rotFwd := 0 } := PerBoom.get_set_same _ _ _
    rw [hsett]
  by_cases hfit : fit
  · have hmfit : m.fits (m.arb.res.get b).amount = true := by
      rw [hmres, State.waitingMix_fits hq hres]
      exact decide_eq_true hfit
    obtain ⟨hadmit, hnone⟩ := State.testList_admits (s := m) (pre := []) (post := []) rfl (by simp) (by simp) hmfit
    rw [hz, hadmit, State.testList_nil hnone]
    let k := m.markAdmitted b
    have hk : k.seq.get b = (s.seq.get b).entering .mixWait false := PerBoom.get_set_same _ _ _
    have henter : m.admitBoom b = k.enterMixing b := if_pos (congrArg Sequencer.state hk)
    rw [henter] at hnone ⊢
    rw [State.enterMixing_eq (s := k) hfree] at hnone ⊢
    simp only [if_pos hfit]
    have hkcalm : k.calm = true := by
      rw [State.calm, show k.arb.waiting = [] from hnone]
      simp only [State.calm, Bool.and_eq_true] at hcalm ⊢
      exact ⟨rfl, hcalm.2⟩
    refine ⟨State.still_of_calm (by exact hkcalm), ?_, ?_, hnone, ?_, ?_, rfl⟩
    · show (s.seq.set b ((s.seq.get b).entering .mixWait false)).set b ((k.seq.get b).entering .mixing true) = _
      rw [hk, PerBoom.set_set]
      rfl
    · show (m.arb.res.set b { m.arb.res.get b with mark := .admitted }).get b = _
      rw [PerBoom.get_set_same, hmres]
    · refine Eq.trans ?_ hadvance
      show ((k.sett.set b _).get b).pushAdvance = _
      rw [PerBoom.get_set_same]
      rfl
    · exact congrArg Setting.stage (PerBoom.get_set_same k.sett b _)
  · have hmfit : m.fits (m.arb.res.get b).amount = false := by
      rw [hmres, State.waitingMix_fits hq hres]
      exact decide_eq_false hfit
    have hnone : m.firstFit = none := by
      rw [State.firstFit]
      exact List.find?_cons_of_neg (by simp [hmfit])
    rw [hz, State.testList_none hnone]
    simp only [if_neg hfit]
    refine ⟨?_, rfl, hmres, rfl, hadvance,
      congrArg Setting.stage (PerBoom.get_set_same s.sett b _), rfl⟩
    rw [State.still, show m.arb.waiting = [b] from rfl]
    simp only [List.all_cons, List.all_nil, hmfit, Bool.not_false, Bool.and_true, Bool.true_and, List.all_eq_true,
      decide_eq_true_eq]
    exact fun r hr => State.calm_routes hcalm r hr

end

/-- Settles O42. -/
theorem nothingThatFitsWaits : Obligations.NothingThatFitsWaits := by
  unfold Obligations.NothingThatFitsWaits
  refine ⟨fun s b hb => ?_, fun s b b' pre post hw hne hb hpre hfit => ?_, ?_⟩
  · have hnone := List.find?_eq_none.1 s.testList_firstFit b hb
    simpa [State.fits] using hnone
  · obtain ⟨hadmits, hrest⟩ := State.testList_admits hw hb (fun x hx => decide_eq_false (Nat.not_le.2 (hpre x hx)))
      (decide_eq_true hfit)
    obtain ⟨q, c, o, l, r, heq⟩ := s.admitBoom_offList b
    have hmark : ((s.markAdmitted b).arb.res.get b) = { mark := .admitted, amount := (s.arb.res.get b).amount } :=
      PerBoom.get_set_same _ _ _
    refine ⟨hadmits, hrest, ?_, ?_, ?_, fun hq hfree => ?_, fun hq hret => ?_⟩
    · rw [heq]
      exact PerBoom.get_set_ne _ hne _
    · rw [heq]
      exact PerBoom.get_set_ne _ hne _
    · rw [heq]
    · have henter : s.admitBoom b = (s.markAdmitted b).enterMixing b := if_pos hq
      rw [henter, State.enterMixing_eq (s := s.markAdmitted b) hfree]
      exact ⟨PerBoom.get_set_same _ _ _, congrArg Setting.stage (PerBoom.get_set_same _ _ _), hmark⟩
    · have hstate : s.admitBoom b = ((s.markAdmitted b).modSeq b fun q => { q with returnPhase := some .mixing }).notePhase b :=
        (if_neg (by exact (by rw [hq]; simp : (s.seq.get b).state ≠ .mixWait))).trans
          (if_pos (by exact (by simp [hq, hret] : ((s.seq.get b).state = .paused && (s.seq.get b).returnPhase = some .mixWait) = true)))
      rw [hstate]
      exact ⟨PerBoom.get_set_same _ _ _, hmark⟩
  · intro s b frame v r hpow hpres hcalm hv hlost hrec hq u q c advance amount fit far pushed hguard hnew
    let y := u.modRot b fun r => { r with samplePulses := 0 }
    have hyq : (y.seq.get b).state = .boltPush := hq
    have hfeed : y.head.get b = (s.head.get b).takeGood v (s.live P.debounce) := PerBoom.get_set_same _ _ _
    have hadvance : y.pushed b = advance := by
      rw [State.pushed, hfeed]
      rfl
    have hthrust : (y.head.get b).thrust = v.thrust := congrArg Head.thrust hfeed
    have hwork := State.workSample_push hyq (s.rot.get b).samplePulses
    refine ⟨fun h => ?_, fun h hfar => ?_, fun h hfar hres hfree => ?_⟩
    · refine exec_sample hpow hpres hv hlost hguard hnew ?_ (State.still_of_calm hcalm)
      refine hwork.trans ?_
      rw [State.pushSample_on (s := y) hrec (Nat.lt_of_le_of_lt (Nat.le_of_eq hthrust) h), hadvance]
      rfl
    · let c' : Setting := { c with pushAdvance := advance, feedUp := 0, rotFwd := 0 }
      let z := pushed c'
      have hzp : z.phase b = .boltPush := (State.phase_eq (by exact (by rw [hq]; simp))).trans hq
      have hoff : z.sett.set b (z.sett.get b).off = s.sett.set b c'.off := by
        rw [show z.sett.get b = c' from PerBoom.get_set_same _ _ _]
        exact PerBoom.set_set _ _ _ _
      have hhalt := State.halt_unreserved (s := z) (e := .interrupted) .boltBlocked (by exact (by rw [hq]; simp))
        (by rw [hzp]; rfl) ((State.leavePhase_push (.inl hzp)).trans (congrArg (fun x => { z with sett := x }) hoff))
      refine exec_sample hpow hpres hv hlost hguard hnew (hwork.trans ?_) (State.still_of_calm (by exact hcalm))
      rw [State.pushSample_seats (s := y) hrec (Nat.le_trans h (Nat.le_of_eq hthrust.symm)), hadvance, if_neg hfar]
      refine hhalt.trans ?_
      rw [show (z.seq.get b).state = .boltPush from hq]
      rfl
    · let z := pushed { c with pushAdvance := advance, feedUp := 0, rotFwd := 0 }
      obtain ⟨hstill, hseq, hres', hwait, hadv, hstage, hstore⟩ := State.enterMixWait_ends (s := z) (b := b) hcalm hq hres
        hfree hrec rfl
      obtain ⟨t, ht, hends⟩ := exec_sample (x := z.enterMixWait b) hpow hpres hv hlost hguard hnew (hwork.trans (by
        rw [State.pushSample_seats (s := y) hrec (Nat.le_trans h (Nat.le_of_eq hthrust.symm)), hadvance, if_pos hfar]
        rfl)) hstill
      have hsupport : z.supportTotal = s.supportTotal :=
        State.supportTotal_of_unjacked (State.unjacked_push ((State.phase_eq (by rw [hq]; simp)).trans hq) hq)
          (State.unjacked_push ((State.phase_eq (by exact (by rw [hq]; simp))).trans hq) hq) (fun b' hb' k => by
            simp only [z, pushed, State.asked, State.phaseDemand, PerBoom.get_set_ne _ hb']
            rfl) rfl rfl rfl
      have hfit : (z.supportTotal + z.arb.admittedSum + amount ≤ z.live P.pumpFlow) = fit := by
        rw [hsupport]
        rfl
      have harb : t.arb.res = (z.enterMixWait b).arb.res := hends.view fun s => s.arb.res
      have hlist : t.arb.waiting = (z.enterMixWait b).arb.waiting := hends.view fun s => s.arb.waiting
      have hcpush : (z.sett.get b).pushAdvance = advance := congrArg Setting.pushAdvance (PerBoom.get_set_same _ _ _)
      refine ⟨t, ht, ?_⟩
      rw [hends.view State.seq, harb, hlist, hends.view State.sett, hends.view State.store, hadv, hcpush, hstore]
      by_cases hf : fit
      · rw [if_pos (hfit.mpr hf)] at hseq hres' hwait hstage
        simp only [if_pos hf]
        exact ⟨hseq, hres', hwait, trivial, hstage, rfl⟩
      · rw [if_neg (fun h => hf (hfit.mp h))] at hseq hres' hwait hstage
        simp only [if_neg hf]
        exact ⟨hseq, hres', hwait, trivial, hstage, rfl⟩

end Sys2Proof.Machine
end

section
namespace Sys2Proof.Machine

/-! The proofs are elaborated one after another: side by side, so many ask for more threads than the memory holds. -/
set_option Elab.async false

/-! ### The free order is an order of the same list (log entry 2) -/

/-- A place of a list put before the rest is an order of the list. -/
theorem getElem_cons_eraseIdx_order {α : Type} (l : List α) (i : Nat) (h : i < l.length) :
    (l[i] :: l.eraseIdx i).Perm l := by
  induction l generalizing i with
  | nil => exact absurd h (Nat.not_lt_zero i)
  | cons x xs ih =>
    cases i with
    | zero => exact List.Perm.refl _
    | succ i => exact (List.Perm.swap ..).trans ((ih i (Nat.lt_of_succ_lt_succ h)).cons x)

theorem freePermute_perm {α : Type} (k : Nat) (l : List α) (n : Nat) : (freePermute k l n).Perm l := by
  induction k generalizing l n with
  | zero => exact List.Perm.refl l
  | succ k ih =>
    cases l with
    | nil => exact List.Perm.refl []
    | cons x xs =>
      have hlt : Config.freeOrder n % (x :: xs).length < (x :: xs).length := Nat.mod_lt _ (Nat.succ_pos _)
      refine ((ih _ _).cons _).trans ?_
      rw [← List.getElem_eq_getD (h := hlt)]
      exact getElem_cons_eraseIdx_order _ _ hlt

/-- An event in an open order folds some order of the list, from a state that differs in the free count at most. -/
theorem State.inOrder_perm {α : Type} (s : State) (free : Bool) (l : List α) (f : State → α → State) :
    ∃ (l' : List α) (n : Nat), l'.Perm l ∧ s.inOrder free l f = l'.foldl f { s with freeCount := n } := by
  unfold State.inOrder
  split
  · exact ⟨_, _, freePermute_perm _ _ _, rfl⟩
  · exact ⟨l, s.freeCount, List.Perm.refl l, rfl⟩

/-! ### What a boom's stop leaves (R30, R107) -/

section
variable {s : State} {b : Boom}

/-- The number and the mix result of a record. -/
def HoleRecord.mixed (r : HoleRecord) : Nat × Option MixResult := (r.number, r.mix)

/-- The mix result of boom `b`'s record once the boom has stopped: a mix under way ends STOPPED. -/
def State.stoppedMix (s : State) (b : Boom) (r : HoleRecord) : Nat × Option MixResult :=
  let c := s.sett.get b
  (r.number, if (s.seq.get b).state = .mixing then
      some { pulses := c.mixPulses, revs := c.mixPulses / 60, timeMs := (s.seq.get b).timer.ticks / 40
             stallSeen := c.stallSeen, ending := .stopped }
    else r.mix)

theorem State.stoppedMix_factors (s : State) (b : Boom) :
    s.stoppedMix b = (fun p => (p.1, if (s.seq.get b).state = .mixing then
      some { pulses := (s.sett.get b).mixPulses, revs := (s.sett.get b).mixPulses / 60
             timeMs := (s.seq.get b).timer.ticks / 40, stallSeen := (s.sett.get b).stallSeen, ending := .stopped }
      else p.2)) ∘ HoleRecord.mixed := rfl

theorem State.modRec_mixed (s : State) (b : Boom) (f : HoleRecord → HoleRecord) (h : ∀ r, (f r).mixed = r.mixed) (c : Boom) :
    ((s.modRec b f).rec? c).map HoleRecord.mixed = (s.rec? c).map HoleRecord.mixed := by
  by_cases hc : c = b
  · subst hc
    rw [show (s.modRec c f).rec? c = (s.rec? c).map f from PerBoom.get_set_same _ _ _, Option.map_map]
    exact congrArg (Option.map · _) (funext h)
  · exact congrArg _ (PerBoom.get_set_ne _ hc _)

theorem State.cutHold_mixed (s : State) (b c : Boom) :
    ((s.cutHold b).rec? c).map HoleRecord.mixed = (s.rec? c).map HoleRecord.mixed := by
  unfold State.cutHold
  dsimp only
  split
  · refine State.modRec_mixed s b _ ?_ c
    exact fun _ => rfl
  · rfl

/-- A boom that does not mix leaves the mix results of the records, and any boom those of the other boom. -/
theorem State.leavePhase_mixed {c : Boom} (h : (s.seq.get b).state ≠ .mixing ∨ c ≠ b) (e : MixEnd) :
    ((s.leavePhase b e).rec? c).map HoleRecord.mixed = (s.rec? c).map HoleRecord.mixed := by
  unfold State.leavePhase
  dsimp only
  split
  · have hrec := congrArg (Option.map HoleRecord.mixed) ((State.DrillOnly.leaveDrilling (b := b) s).record c)
    rwa [Option.map_map, Option.map_map] at hrec
  · unfold State.leaveSetting
    split
    · rfl
    · rfl
    · split
      · next hm => exact congrArg _ (State.modRec_other s (h.resolve_left (Classical.not_not.2 hm)) _)
      · rfl
    · exact State.cutHold_mixed s b c
    · refine State.modRec_mixed s b _ ?_ c
      exact fun _ => rfl
    · rfl

theorem State.leavePhase_stopped_mixed (s : State) (b : Boom) :
    ((s.leavePhase b .stopped).rec? b).map HoleRecord.mixed = (s.rec? b).map (s.stoppedMix b) := by
  by_cases h : (s.seq.get b).state = .mixing
  · have hphase : s.phase b = .mixing := (State.phase_eq (by simp [h])).trans h
    have hleave : s.leavePhase b .stopped = (s.writeMix b .stopped).modSett b Setting.off := by
      simp only [State.leavePhase, hphase, State.leaveSetting, h]
      rfl
    have hget : ((s.writeMix b .stopped).modSett b Setting.off).rec? b = (s.rec? b).map _ := PerBoom.get_set_same _ _ _
    rw [hleave, hget, Option.map_map]
    exact congrArg (Option.map · _) (funext fun r => by simp only [State.stoppedMix, if_pos h]; rfl)
  · rw [State.leavePhase_mixed (.inl h)]
    exact congrArg (Option.map · _) (funext fun r => by simp [HoleRecord.mixed, State.stoppedMix, h])

/-- A Sequencer that the E-stop has stopped (R30). -/
def State.stoppedSeq (s : State) (b : Boom) : Sequencer :=
  { s.seq.get b with
    state := .stopped, stoppedFrom := some (s.phase b), returnPhase := none, causes := .empty
    deferred := .empty, deferredAbort := false, abortPending := false, choices := .empty
    jogs := .zero, timer := { running := false, ticks := 0 }, jackUp := 0, jackDown := 0
    feedDown := 0, jackDownStarted := false }

/-- A boom that is not yet STOPPED leaves its phase and releases its reservation (R30, R120). -/
theorem State.stopBoom_eq (hs : (s.seq.get b).state ≠ .stopped) (hw : s.arb.waiting = []) :
    ∃ a, s.stopBoom b = ({ s.leavePhase b .stopped with
      seq := s.seq.set b (s.stoppedSeq b), arb := { s.arb with res := a } }).report
        (phaseNote b (s.seq.get b).state (s.stoppedSeq b)) := by
  obtain ⟨l, p, g, c, o, bs, hy⟩ := State.WorkersOnly.leavePhase s b .stopped
  unfold State.stopBoom State.releaseFrom
  rw [if_neg hs, hy]
  dsimp only
  rw [State.goPhase_eq]
  split
  · refine ⟨s.arb.res.set b { mark := .none, amount := 0 }, ?_⟩
    rw [State.testList_nil (by simp [State.dropReservation, State.modArb, State.report, hw])]
    simp only [State.dropReservation, State.modArb, State.report, State.modLink, hw, List.filter_nil]
    rfl
  · exact ⟨s.arb.res, rfl⟩

end

/-! ### The blocks that take the stop, in any order (R30, R141, R149) -/

/-- The Indexer that the E-stop has stopped (R141). -/
def Indexer.stopped (x : Indexer) : Indexer :=
  { x.unserved with state := .idle, position := none, fault := none, queue := [] }

/-- The BURST report of a request that ends STOPPED (R137). -/
def Burst.stoppedNote (r : Burst) : Report := .burst r.boom r.hole .stopped r.types.length r.delivered

/-- The reports a block may send at the stop. -/
def StopBlock.told (s : State) : StopBlock → Nat
  | .arbiter => 0
  | .seq _ => 3
  | .indexer => s.idx.queue.length

/-- What no block that takes the stop moves. -/
def State.offStop (s : State) : State :=
  { s with seq := State.unpowered.seq, prof := State.unpowered.prof, gov := State.unpowered.gov
           sett := State.unpowered.sett, rot := State.unpowered.rot
           store := { s.store with opened := State.unpowered.store.opened }, bits := [], link := .quiet
           idx := State.unpowered.idx, freeCount := 0
           arb := { s.arb with res := State.unpowered.arb.res, estop := false } }

/-- The blocks `l` of state `s` have taken the stop in `x`. -/
structure State.Stopped (s : State) (l : List StopBlock) (x : State) : Prop where
  off : x.offStop = s.offStop
  estop : .arbiter ∈ l → x.arb.estop = true
  idx : x.idx = if .indexer ∈ l then s.idx.stopped else s.idx
  seq : ∀ b, x.seq.get b = if .seq b ∈ l ∧ (s.seq.get b).state ≠ .stopped then s.stoppedSeq b else s.seq.get b
  sett : ∀ b, .seq b ∉ l → x.sett.get b = s.sett.get b
  mix : ∀ b, (x.rec? b).map HoleRecord.mixed =
    (s.rec? b).map (if .seq b ∈ l then s.stoppedMix b else HoleRecord.mixed)
  told : ∃ m, x.link.reports = s.link.reports ++ m ∧ m.length ≤ (l.map (StopBlock.told s)).sum ∧
    (.indexer ∈ l → s.link.reports.length + (l.map (StopBlock.told s)).sum ≤ 12 →
      ∀ r ∈ s.idx.queue, r.stoppedNote ∈ m)

/-- No block of a state ends its burst's abort, so an end STOPPED is a report alone. -/
def State.Abortless (s : State) : Prop :=
  ∀ r ∈ s.idx.queue, s.phase r.boom = .resinInsert → (s.seq.get r.boom).abortPending = false

theorem State.notifyEnd_stopped {s : State} {r : Burst}
    (h : s.phase r.boom = .resinInsert → (s.seq.get r.boom).abortPending = false) :
    s.notifyEnd r .stopped = s.report r.stoppedNote := by
  have hend : s.seqBurstEnd r.boom .stopped = s := by
    unfold State.seqBurstEnd
    dsimp only
    split
    · rfl
    · next hp => rw [if_neg (ne_true_of_eq_false (h (Classical.not_not.1 hp)))]
  exact congrArg (State.report · r.stoppedNote) hend

/-- A report is told while a place is free. -/
theorem State.report_told (s : State) (r : Report) :
    ∃ m, (s.report r).link.reports = s.link.reports ++ m ∧ m.length ≤ 1 ∧ (s.link.reports.length < 12 → r ∈ m) := by
  simp only [State.report, State.modLink]
  split
  · exact ⟨[r], rfl, Nat.le_refl _, fun _ => List.mem_singleton.2 rfl⟩
  · next h => exact ⟨[], (List.append_nil _).symm, Nat.zero_le _, fun hlt => absurd hlt h⟩

/-- The ends of the queued bursts are their reports (R141). -/
theorem State.foldl_notifyEnd {s : State} (l : List Burst)
    (h : ∀ r ∈ l, s.phase r.boom = .resinInsert → (s.seq.get r.boom).abortPending = false) :
    ∃ k : Link, l.foldl (fun s r => s.notifyEnd r .stopped) s = { s with link := k } ∧
      ∃ m, k.reports = s.link.reports ++ m ∧ m.length ≤ l.length ∧
        (s.link.reports.length + l.length ≤ 12 → ∀ r ∈ l, r.stoppedNote ∈ m) := by
  induction l generalizing s with
  | nil => exact ⟨s.link, rfl, [], (List.append_nil _).symm, Nat.le_refl _, fun _ _ hr => absurd hr List.not_mem_nil⟩
  | cons r l ih =>
    obtain ⟨m, hm, hlen, hin⟩ := s.report_told r.stoppedNote
    obtain ⟨k, hk, m', hm', hlen', hin'⟩ := ih (s := s.report r.stoppedNote) fun r' hr' => h r' (List.mem_cons_of_mem _ hr')
    rw [List.foldl_cons, State.notifyEnd_stopped (h r List.mem_cons_self)]
    refine ⟨k, hk, m ++ m', by rw [hm', hm, List.append_assoc], ?_, fun hroom x hx => ?_⟩
    · rw [List.length_append, List.length_cons]
      omega
    · rw [List.length_cons] at hroom
      rcases List.mem_cons.1 hx with rfl | hx
      · exact List.mem_append_left _ (hin (by omega))
      · refine List.mem_append_right _ (hin' ?_ x hx)
        rw [hm, List.length_append]
        omega

namespace State.Stopped
variable {s x : State} {l : List StopBlock}

theorem waiting (h : s.Stopped l x) (hw : s.arb.waiting = []) : x.arb.waiting = [] :=
  (congrArg (fun s => s.arb.waiting) h.off).trans hw

theorem nil (s : State) (n : Nat) : s.Stopped [] { s with freeCount := n } :=
  ⟨rfl, fun h => absurd h List.not_mem_nil, (if_neg List.not_mem_nil).symm,
    fun _ => (if_neg fun h => absurd h.1 List.not_mem_nil).symm, fun _ _ => rfl,
    fun _ => congrArg (Option.map · _) (if_neg List.not_mem_nil).symm,
    [], (List.append_nil _).symm, Nat.le_refl _, fun h => absurd h List.not_mem_nil⟩

theorem arbiter (h : s.Stopped l x) (hw : s.arb.waiting = []) : s.Stopped (.arbiter :: l) (x.takeStop .arbiter) := by
  have hx : x.takeStop .arbiter = { x with arb := { x.arb with estop := true } } :=
    State.testList_nil (h.waiting hw)
  obtain ⟨hoff, hestop, hidx, hseq, hsett, hmix, m, hm, hlen, hin⟩ := h
  rw [hx]
  refine ⟨hoff, fun _ => rfl, ?_, fun b => ?_, fun _ hb => hsett _ fun h => hb (List.mem_cons_of_mem _ h), fun b => ?_,
    m, hm, ?_, fun hi => ?_⟩
  · simpa using hidx
  · simpa using hseq b
  · refine (hmix b).trans ?_
    simp
  · simpa [StopBlock.told] using hlen
  · simpa [StopBlock.told] using hin (by simpa using hi)

theorem indexer (h : s.Stopped l x) (hw : s.arb.waiting = []) (hs : s.Abortless) (hl : .indexer ∉ l) :
    s.Stopped (.indexer :: l) (x.takeStop .indexer) := by
  have hwx := h.waiting hw
  obtain ⟨hoff, hestop, hidx, hseq, hsett, hmix, m, hm, hlen, hin⟩ := h
  rw [if_neg hl] at hidx
  let y : State := { x with idx := x.idx.stopped }
  have hfree : ∀ r ∈ x.idx.queue, y.phase r.boom = .resinInsert → (y.seq.get r.boom).abortPending = false := by
    intro r hr hp
    rw [hidx] at hr
    rw [State.phase, show y.seq.get r.boom = _ from hseq r.boom] at hp
    rw [show y.seq.get r.boom = _ from hseq r.boom]
    split
    · rfl
    · next hc =>
      rw [if_neg hc] at hp
      exact hs r hr hp
  obtain ⟨k, hk, m', hm', hlen', hin'⟩ := State.foldl_notifyEnd (s := y) x.idx.queue hfree
  have hx : x.takeStop .indexer = { y with link := k } := by
    refine (congrArg State.testList hk).trans (State.testList_nil hwx)
  rw [hx]
  rw [hidx] at hlen' hin'
  refine ⟨hoff, fun hi => hestop (by simpa using hi), ?_, fun b => ?_, fun b hb => hsett b fun h => hb (List.mem_cons_of_mem _ h),
    fun b => ?_, m ++ m', ?_, ?_, fun _ hroom r hr => ?_⟩
  · rw [if_pos List.mem_cons_self, ← hidx]
  · simpa using hseq b
  · refine (hmix b).trans ?_
    simp
  · rw [hm', show y.link.reports = _ from hm, List.append_assoc]
  · simp only [List.length_append, List.map_cons, List.sum_cons, StopBlock.told]
    omega
  · simp only [List.map_cons, List.sum_cons, StopBlock.told] at hroom
    refine List.mem_append_right _ (hin' ?_ r hr)
    rw [show y.link.reports = _ from hm, List.length_append]
    omega

theorem boom (h : s.Stopped l x) (hw : s.arb.waiting = []) {b : Boom} (hl : .seq b ∉ l) :
    s.Stopped (.seq b :: l) (x.takeStop (.seq b)) := by
  have hwx := h.waiting hw
  obtain ⟨hoff, hestop, hidx, hseq, hsett, hmix, m, hm, hlen, hin⟩ := h
  have hb : x.seq.get b = s.seq.get b := (hseq b).trans (if_neg fun h => hl h.1)
  have hother : ∀ {c}, c ≠ b → (StopBlock.seq c ∈ StopBlock.seq b :: l ↔ .seq c ∈ l) := fun hc => by simp [hc]
  by_cases hst : (s.seq.get b).state = .stopped
  · have hx : x.takeStop (.seq b) = x := by
      have hstop : x.stopBoom b = x := if_pos ((congrArg Sequencer.state hb).trans hst)
      exact (congrArg State.testList hstop).trans (State.testList_nil hwx)
    rw [hx]
    refine ⟨hoff, fun hi => hestop (by simpa using hi), by simpa using hidx, fun c => ?_,
      fun c hc => hsett c fun h => hc (List.mem_cons_of_mem _ h), fun c => ?_, m, hm, ?_, fun hi hroom => ?_⟩
    · by_cases hc : c = b
      · subst hc
        rw [hb, if_neg fun h => h.2 hst]
      · simp only [hseq c, hother hc]
    · by_cases hc : c = b
      · subst hc
        rw [hmix c, if_neg hl, if_pos List.mem_cons_self]
        exact congrArg (Option.map · _) (funext fun r => by simp [HoleRecord.mixed, State.stoppedMix, hst])
      · simp only [hmix c, hother hc]
    · simp only [List.map_cons, List.sum_cons, StopBlock.told]
      omega
    · simp only [List.map_cons, List.sum_cons, StopBlock.told] at hroom
      exact hin (by simpa using hi) (by omega)
  · obtain ⟨a, heq⟩ := State.stopBoom_eq (s := x) (b := b) (by rw [hb]; exact hst) hwx
    have hstopped : x.stoppedSeq b = s.stoppedSeq b := by
      simp only [State.stoppedSeq, State.phase, hb]
    have hmixed : x.stoppedMix b = s.stoppedMix b := by
      unfold State.stoppedMix
      rw [hb, hsett b hl]
    have hrec := State.leavePhase_stopped_mixed x b
    have hrecs : ∀ c, c ≠ b → ((x.leavePhase b .stopped).rec? c).map HoleRecord.mixed =
        (x.rec? c).map HoleRecord.mixed := fun c hc => State.leavePhase_mixed (.inr hc) _
    obtain ⟨m1, hm1, hlen1⟩ := x.leavePhase_told b .stopped
    obtain ⟨k, p, g, c, o, bs, hy⟩ := State.WorkersOnly.leavePhase x b .stopped
    rw [hstopped, hy] at heq
    rw [hy] at hrec hrecs hm1
    let z : State := { x with seq := x.seq.set b (s.stoppedSeq b), link := k, prof := x.prof.set b p, gov := x.gov.set b g
                              sett := x.sett.set b c, store := { x.store with opened := o }, bits := bs
                              arb := { x.arb with res := a } }
    obtain ⟨m2, hm2, hlen2, -⟩ := z.report_told (phaseNote b (x.seq.get b).state (s.stoppedSeq b))
    have hx : x.takeStop (.seq b) = z.report (phaseNote b (x.seq.get b).state (s.stoppedSeq b)) :=
      (congrArg State.testList heq).trans (State.testList_nil hwx)
    rw [hx]
    refine ⟨hoff, fun hi => hestop (by simpa using hi), ?_, fun d => ?_, fun d hd => ?_, fun d => ?_, m ++ m1 ++ m2, ?_, ?_,
      fun hi hroom r hr => ?_⟩
    · refine hidx.trans ?_
      simp
    · by_cases hd : d = b
      · subst hd
        rw [if_pos ⟨List.mem_cons_self, hst⟩]
        exact PerBoom.get_set_same _ _ _
      · refine (PerBoom.get_set_ne _ hd _).trans ((hseq d).trans ?_)
        simp only [hother hd]
    · have hne : d ≠ b := fun h => hd (h ▸ List.mem_cons_self)
      exact (PerBoom.get_set_ne _ hne _).trans (hsett d fun h => hd (List.mem_cons_of_mem _ h))
    · by_cases hd : d = b
      · subst hd
        have hfactor : (x.rec? d).map (s.stoppedMix d) = (s.rec? d).map (s.stoppedMix d) := by
          have hsame := hmix d
          rw [if_neg hl] at hsame
          rw [s.stoppedMix_factors d, ← Option.map_map, hsame, Option.map_map]
        rw [if_pos List.mem_cons_self, ← hfactor, ← hmixed]
        exact hrec
      · refine (hrecs d hd).trans ((hmix d).trans ?_)
        simp only [hother hd]
    · rw [hm2, show z.link.reports = _ from hm1, hm, List.append_assoc, List.append_assoc, List.append_assoc]
    · simp only [List.length_append, List.map_cons, List.sum_cons, StopBlock.told]
      omega
    · simp only [List.map_cons, List.sum_cons, StopBlock.told] at hroom
      exact List.mem_append_left _ (List.mem_append_left _ (hin (by simpa using hi) (by omega) r hr))

/-- The blocks take the stop one after another, each once. -/
theorem foldl {m : List StopBlock} (hw : s.arb.waiting = []) (hs : s.Abortless) (h : s.Stopped l x) (hnd : (m.reverse ++ l).Nodup) :
    s.Stopped (m.reverse ++ l) (m.foldl State.takeStop x) := by
  induction m generalizing l x with
  | nil => exact h
  | cons k m ih =>
    rw [List.reverse_cons, List.append_assoc] at hnd ⊢
    have hk : k ∉ l := (List.nodup_cons.1 (List.nodup_append.1 hnd).2.1).1
    refine ih ?_ hnd
    cases k with
    | arbiter => exact h.arbiter hw
    | seq b => exact h.boom hw hk
    | indexer => exact h.indexer hw hs hk

end State.Stopped

/-- The blocks that take the assertion of E_STOP. -/
def State.stopBlocks (s : State) : List StopBlock := [.arbiter] ++ s.booms.map .seq ++ [.indexer]

theorem State.stopBlocks_nodup (s : State) : s.stopBlocks.Nodup := by
  unfold State.stopBlocks State.booms
  split
  · decide
  · decide

theorem State.mem_stopBlocks (s : State) :
    .arbiter ∈ s.stopBlocks ∧ .indexer ∈ s.stopBlocks ∧ ∀ b ∈ s.booms, .seq b ∈ s.stopBlocks := by
  simp [State.stopBlocks]

theorem State.stopBlocks_told (s : State) : (s.stopBlocks.map (StopBlock.told s)).sum ≤ 6 + s.idx.queue.length := by
  unfold State.stopBlocks State.booms
  split
  · simp [StopBlock.told]
    omega
  · simp [StopBlock.told]

/-- The assertion reaches every block, in whatever order (R30, R141, R149). -/
theorem State.assertStop_stopped {s : State} (hw : s.arb.waiting = []) (hs : s.Abortless) :
    let z : State := { s with diu := { s.diu with estop := true }, tram := false, indexJog := 0 }
    ∃ l : List StopBlock, l.Perm s.stopBlocks ∧ z.Stopped l s.assertStop := by
  intro z
  obtain ⟨m, n, hperm, heq⟩ := State.inOrder_perm z (!z.arb.waiting.isEmpty || !z.idx.queue.isEmpty) z.stopBlocks State.takeStop
  have hrev : m.reverse.Perm s.stopBlocks := m.reverse_perm.trans hperm
  have hnd : (m.reverse ++ []).Nodup := by
    rw [List.append_nil]
    exact hrev.nodup_iff.2 s.stopBlocks_nodup
  have hstop := State.Stopped.foldl (s := z) hw hs (State.Stopped.nil z n) hnd
  rw [List.append_nil] at hstop
  exact ⟨m.reverse, hrev, (show s.assertStop = _ from heq) ▸ hstop⟩

/-- Settles O39. -/
theorem emergencyStopStopsAll : Obligations.EmergencyStopStopsAll := by
  unfold Obligations.EmergencyStopStopsAll
  intro s hpow he hcalm hfree
  let s1 : State := { s with diu := { s.diu with rawEstop := true, releaseTimer := { running := false, ticks := 0 } } }
  let z : State := { s1 with diu := { s1.diu with estop := true }, tram := false, indexJog := 0 }
  obtain ⟨l, hl, hstop⟩ := State.assertStop_stopped (s := s1) (State.calm_waiting hcalm) hfree
  let x := s1.assertStop.report (.interlock (.eStop true))
  have hx : x.calm = true := (congrArg State.calm hstop.off).trans hcalm
  have hexec : exec .eStopAssert s = .next (s.finishComputed x) :=
    congrArg Host.Outcome.next ((if_neg (by rw [hpow]; decide)).trans (if_pos (by simp [hpow, he])))
  have hends : x.Ends (s.finishComputed x) := State.finishComputed_ends hx
  have hcomputed : (s.finishComputed x).FlowComputed :=
    State.finishComputed_computed (State.firstFit_nil (State.calm_waiting hx)) (State.calm_still hx)
  have houter : (s.finishComputed x).outer = z.outer := by
    rw [State.outer_finishComputed, State.outer_report]
    exact State.outer_inOrder z _ _ _ State.outer_takeStop
  obtain ⟨harbiter, hindexer, hbooms⟩ := s.mem_stopBlocks
  have hmem : ∀ {k}, k ∈ s.stopBlocks → k ∈ l := fun h => hl.mem_iff.2 h
  have hestop : (s.finishComputed x).arb.estop = true := (hends.view fun s => s.arb.estop).trans (hstop.estop (hmem harbiter))
  have hdiu : (s.finishComputed x).diu.estop = true := congrArg Direct.estop (outer_diu houter)
  have htram : x.tram = false := congrArg State.tram hstop.off
  have hidx : (s.finishComputed x).idx = s.idx.stopped := by
    have hxidx : x.idx = s.idx.stopped := hstop.idx.trans (if_pos (hmem hindexer))
    rw [hends.idx_eq, State.injectorSeen_of_ne (by rw [hxidx]; exact IdxState.noConfusion), hxidx]
  have hseq := fun b => (congrArg (PerBoom.get · b) (hends.view State.seq)).trans (hstop.seq b)
  have hrec : ∀ b ∈ s.booms, ((s.finishComputed x).rec? b).map HoleRecord.mixed = (s.rec? b).map (s.stoppedMix b) :=
    fun b hb => (congrArg (Option.map _) (hends.view fun s => s.rec? b)).trans
      ((hstop.mix b).trans (congrArg (Option.map · _) (if_pos (hmem (hbooms b hb)))))
  refine ⟨_, hexec, hdiu, State.keeps_of_outer houter, hestop, hends.tram_eq.trans ?_,
    (hends.view State.indexJog).trans (congrArg State.indexJog hstop.off), fun r hr => ?_, hcomputed, fun c hc => ?_,
    congrArg Indexer.queue hidx, fun hroom r hr => ?_, congrArg Indexer.state hidx, congrArg Indexer.position hidx,
    congrArg Indexer.fault hidx, congrArg Indexer.selected hidx, congrArg Indexer.demand hidx, (congrArg Indexer.slots hidx :),
    congrArg (fun x => x.stepTimer.running) hidx, congrArg (fun x => x.readyTimer.running) hidx,
    congrArg (fun x => x.passTimer.running) hidx,
    (hends.view fun s => s.store.queue).trans (congrArg (fun s => s.store.queue) hstop.off),
    (hends.view fun s => s.store.counter).trans (congrArg (fun s => s.store.counter) hstop.off), fun b hb => ⟨?_, ?_, fun hs => ?_, fun hs => ?_⟩⟩
  · exact (congrArg State.tram (if_neg (by simp [htram]) : x.tramCheck = x)).trans htram
  · obtain ⟨hle, hcause, heff⟩ := hcomputed.mem hr
    have hheld : r.cause = .estop := by
      rw [hcause, State.withheld, if_pos hestop]
    rw [if_neg (by rw [hheld]; decide)] at heff
    exact ⟨by omega, heff, hheld⟩
  · rw [hends.2.2 c hc]
    exact if_pos hdiu
  · obtain ⟨m, hm, hlen, hin⟩ := hstop.told
    have hsum : (l.map (StopBlock.told z)).sum = (s.stopBlocks.map (StopBlock.told s)).sum := (hl.map _).sum_nat
    have htold := s.stopBlocks_told
    obtain ⟨m', hm', -, -⟩ := s1.assertStop.report_told (.interlock (.eStop true))
    rw [hends.view fun s => s.link.reports, show x.link.reports = _ from hm', hm]
    refine List.mem_append_left _ (List.mem_append_right _ (hin (hmem hindexer) ?_ r hr))
    rw [hsum]
    show s.link.reports.length + _ ≤ 12
    omega
  · have hmix := congrArg (Option.map Prod.fst) (hrec b hb)
    rwa [Option.map_map, Option.map_map] at hmix
  · have hmix := congrArg (Option.map Prod.snd) (hrec b hb)
    rwa [Option.map_map, Option.map_map] at hmix
  · exact (hseq b).trans (if_pos ⟨hmem (hbooms b hb), hs⟩)
  · exact (hseq b).trans (if_neg fun h => h.2 hs)

end Sys2Proof.Machine
end

section
namespace Sys2Proof.Machine

/-! The proofs are elaborated one after another: side by side, so many ask for more threads than the memory holds. -/
set_option Elab.async false

/-! ### The Layer List (R57 to R60) -/

section
variable {α β : Type} {R S : α → α → Prop}

theorem adjacent_cons (x : α) (l : List α) : Adjacent R (x :: l) ↔ (∀ y ∈ l.head?, R x y) ∧ Adjacent R l := by
  cases l with
  | nil => exact ⟨fun _ => ⟨nofun, trivial⟩, fun _ => trivial⟩
  | cons y l =>
    refine ⟨fun ⟨hxy, hl⟩ => ⟨fun z hz => ?_, hl⟩, fun ⟨hx, hl⟩ => ⟨hx y rfl, hl⟩⟩
    exact Option.some.inj (Option.mem_def.1 hz) ▸ hxy

theorem adjacent_of_forall {l : List α} (h : ∀ x ∈ l, ∀ y ∈ l, R x y) : Adjacent R l := by
  induction l with
  | nil => trivial
  | cons x l ih =>
    refine (adjacent_cons x l).2 ⟨fun y hy => ?_, ih fun y hy z hz => h y (.tail _ hy) z (.tail _ hz)⟩
    exact h x List.mem_cons_self y (.tail _ (List.mem_of_mem_head? hy))

theorem adjacent_append (l l' : List α) :
    Adjacent R (l ++ l') ↔ Adjacent R l ∧ Adjacent R l' ∧ ∀ x ∈ l.getLast?, ∀ y ∈ l'.head?, R x y := by
  induction l with
  | nil => exact ⟨fun h => ⟨trivial, h, nofun⟩, fun h => h.2.1⟩
  | cons x l ih =>
    cases l with
    | nil =>
      refine (adjacent_cons x l').trans ⟨fun ⟨hx, hl⟩ => ⟨trivial, hl, fun z hz => ?_⟩, fun ⟨_, hl, hx⟩ => ⟨hx x rfl, hl⟩⟩
      exact Option.some.inj (Option.mem_def.1 hz) ▸ hx
    | cons y l =>
      rw [List.getLast?_cons_cons]
      exact (and_congr_right fun _ => ih).trans and_assoc.symm

theorem Adjacent.imp_of_mem {l : List α} (h : Adjacent R l) (himp : ∀ x ∈ l, ∀ y ∈ l, R x y → S x y) :
    Adjacent S l := by
  induction l with
  | nil => trivial
  | cons x l ih =>
    obtain ⟨hx, hl⟩ := (adjacent_cons x l).1 h
    refine (adjacent_cons x l).2 ⟨fun y hy => ?_, ih hl fun y hy z hz => himp y (.tail _ hy) z (.tail _ hz)⟩
    exact himp x List.mem_cons_self y (.tail _ (List.mem_of_mem_head? hy)) (hx y hy)

theorem adjacent_map (f : β → α) (l : List β) : Adjacent R (l.map f) ↔ Adjacent (fun x y => R (f x) (f y)) l := by
  induction l with
  | nil => exact Iff.rfl
  | cons x l ih =>
    cases l with
    | nil => exact Iff.rfl
    | cons y l => exact and_congr_right fun _ => ih

theorem head?_append_left {l : List α} (h : l ≠ []) (l' : List α) : (l ++ l').head? = l.head? := by
  rw [List.head?_append, List.head?_eq_some_head h, Option.some_or]

theorem getLast?_append_right {l' : List α} (h : l' ≠ []) (l : List α) : (l ++ l').getLast? = l'.getLast? := by
  rw [List.getLast?_append, List.getLast?_eq_some_getLast h, Option.some_or]

theorem length_mul_le_sum {l : List Nat} {n : Nat} (h : ∀ x ∈ l, n ≤ x) : l.length * n ≤ l.sum := by
  induction l with
  | nil => exact Nat.le_of_eq (Nat.zero_mul n)
  | cons x l ih =>
    rw [List.length_cons, Nat.succ_mul, Nat.add_comm, List.sum_cons]
    exact Nat.add_le_add (h x List.mem_cons_self) (ih fun y hy => h y (.tail _ hy))

theorem sum_le_length_mul {l : List Nat} {n : Nat} (h : ∀ x ∈ l, x ≤ n) : l.sum ≤ l.length * n := by
  induction l with
  | nil => exact Nat.zero_le _
  | cons x l ih =>
    rw [List.length_cons, Nat.succ_mul, Nat.add_comm, List.sum_cons]
    exact Nat.add_le_add (h x List.mem_cons_self) (ih fun y hy => h y (.tail _ hy))

end

/-- A layer of the first step: every segment has its class. -/
def RawLayer.Uniform (x : RawLayer) : Prop := x.2 ≠ [] ∧ ∀ y ∈ x.2, y.cls = x.1

/-- A layer of the second step: it begins and ends in its class, and a segment of another stands alone in it. -/
def RawLayer.Run (x : RawLayer) : Prop :=
  x.2 ≠ [] ∧ (x.2.head?.map Segment.cls) = some x.1 ∧ (x.2.getLast?.map Segment.cls) = some x.1 ∧
    (∀ y ∈ x.2, y.cls ≠ x.1 → y.cls ≠ .void) ∧ Adjacent (fun y z => y.cls = x.1 ∨ z.cls = x.1) x.2

theorem RawLayer.Uniform.head {x : RawLayer} (h : x.Uniform) : (x.2.head?.map Segment.cls) = some x.1 := by
  obtain ⟨hne, hall⟩ := h
  rw [List.head?_eq_some_head hne]
  exact congrArg some (hall _ (List.head_mem hne))

theorem RawLayer.Uniform.last {x : RawLayer} (h : x.Uniform) : (x.2.getLast?.map Segment.cls) = some x.1 := by
  obtain ⟨hne, hall⟩ := h
  rw [List.getLast?_eq_some_getLast hne]
  exact congrArg some (hall _ (List.getLast_mem hne))

theorem RawLayer.Uniform.run {x : RawLayer} (h : x.Uniform) : x.Run := by
  refine ⟨h.1, h.head, h.last, fun y hy hne => absurd (h.2 y hy) hne, ?_⟩
  exact adjacent_of_forall fun y hy z _ => .inl (h.2 y hy)

/-- The first step cuts the table into uniform layers, neighbours of different classes (R57). -/
theorem layerRuns_spec (segs : List Segment) :
    (layerRuns segs).flatMap Prod.snd = segs ∧ (∀ x ∈ layerRuns segs, x.Uniform) ∧
      Adjacent (fun x y => x.1 ≠ y.1) (layerRuns segs) := by
  induction segs with
  | nil => exact ⟨rfl, nofun, trivial⟩
  | cons s segs ih =>
    obtain ⟨hflat, hall, hchain⟩ := ih
    cases hruns : layerRuns segs with
    | nil =>
      rw [hruns] at hflat
      obtain rfl : segs = [] := hflat.symm
      have hone : layerRuns [s] = [(s.cls, [s])] := rfl
      rw [hone]
      exact ⟨rfl, by simp [RawLayer.Uniform], trivial⟩
    | cons l rest =>
      rw [hruns] at hflat hall hchain
      by_cases hs : s.cls = l.1
      · have heq : layerRuns (s :: segs) = (l.1, s :: l.2) :: rest := by
          simp only [layerRuns, hruns]
          exact if_pos hs
        rw [heq, ← hflat]
        refine ⟨by simp, fun x hx => ?_, ?_⟩
        · rcases List.mem_cons.1 hx with rfl | hx
          · refine ⟨List.cons_ne_nil _ _, fun y hy => ?_⟩
            rcases List.mem_cons.1 hy with rfl | hy
            · exact hs
            · exact (hall l List.mem_cons_self).2 y hy
          · exact hall x (List.mem_cons_of_mem _ hx)
        · exact (adjacent_cons _ rest).2 ((adjacent_cons l rest).1 hchain)
      · have heq : layerRuns (s :: segs) = (s.cls, [s]) :: l :: rest := by
          simp only [layerRuns, hruns]
          exact if_neg hs
        rw [heq, ← hflat]
        refine ⟨by simp, fun x hx => ?_, hs, hchain⟩
        rcases List.mem_cons.1 hx with rfl | hx
        · simp [RawLayer.Uniform]
        · exact hall x hx

/-! ### The pass over the spikes (R58) -/

section
variable {above cur below : RawLayer} {rest : List RawLayer}

theorem absorbFrom_spike (h : isSpike above cur below = true) :
    absorbFrom above (cur :: below :: rest) = absorbFrom (above.1, above.2 ++ cur.2 ++ below.2) rest := by
  rw [absorbFrom]
  exact if_pos h

theorem absorbFrom_keeps (h : isSpike above cur below = false) :
    absorbFrom above (cur :: below :: rest) = above :: absorbFrom cur (below :: rest) := by
  conv => lhs; rw [absorbFrom]
  exact if_neg (ne_true_of_eq_false h)

theorem isSpike_iff : isSpike above cur below = true ↔ cur.2.length = 1 ∧ cur.1 ≠ .void ∧ above.1 = below.1 := by
  simp [isSpike, and_assoc]

/-- The pass keeps the segments and their order. -/
theorem absorbFrom_flat (above : RawLayer) (rest : List RawLayer) :
    (absorbFrom above rest).flatMap Prod.snd = above.2 ++ rest.flatMap Prod.snd := by
  induction above, rest using absorbFrom.induct with
  | case1 above => simp [absorbFrom]
  | case2 above cur => simp [absorbFrom]
  | case3 above cur below rest h ih =>
    rw [absorbFrom_spike h, ih]
    simp
  | case4 above cur below rest h ih =>
    rw [absorbFrom_keeps (eq_false_of_ne_true h), List.flatMap_cons, ih]
    simp

/-- What the pass leaves begins with the layer above, as it is or longer. -/
theorem absorbFrom_head (above : RawLayer) (rest : List RawLayer) :
    ∃ g l, absorbFrom above rest = (above.1, g) :: l ∧ above.2.length ≤ g.length := by
  induction above, rest using absorbFrom.induct with
  | case1 above => exact ⟨above.2, [], rfl, Nat.le_refl _⟩
  | case2 above cur => exact ⟨above.2, [cur], rfl, Nat.le_refl _⟩
  | case3 above cur below rest h ih =>
    obtain ⟨g, l, heq, hle⟩ := ih
    refine ⟨g, l, (absorbFrom_spike h).trans heq, ?_⟩
    simp only [List.length_append] at hle
    omega
  | case4 above cur below rest h ih =>
    exact ⟨above.2, _, absorbFrom_keeps (eq_false_of_ne_true h), Nat.le_refl _⟩

/-- A spike between two layers of one class joins them to a run. -/
theorem RawLayer.Run.absorb (ha : above.Run) (hc : cur.Uniform) (hb : below.Uniform)
    (h : isSpike above cur below = true) : RawLayer.Run (above.1, above.2 ++ cur.2 ++ below.2) := by
  obtain ⟨hlen, hvoid, hcls⟩ := isSpike_iff.1 h
  obtain ⟨c, hcur⟩ := List.length_eq_one_iff.1 hlen
  obtain ⟨hne, hfirst, hlast, hmem, hadj⟩ := ha
  have hclsc : c.cls = cur.1 := hc.2 c (by simp [hcur])
  have hbelow := hb.run.2.2.2.2
  have hends : ∀ {l : List Segment} {k : Cls}, (l.getLast?.map Segment.cls) = some k → ∀ y ∈ l.getLast?, y.cls = k := by
    intro l k hk y hy
    simpa [Option.mem_def.1 hy] using hk
  unfold RawLayer.Run
  dsimp only
  rw [hcur]
  refine ⟨by simp, ?_, ?_, fun y hy hy' => ?_, ?_⟩
  · rwa [List.append_assoc, head?_append_left hne]
  · rw [getLast?_append_right hb.1, hcls]
    exact hb.last
  · simp only [List.mem_append, List.mem_singleton] at hy
    rcases hy with (hy | rfl) | hy
    · exact hmem y hy hy'
    · rw [hclsc]
      exact hvoid
    · exact absurd ((hb.2 y hy).trans hcls.symm) hy'
  · refine (adjacent_append _ _).2 ⟨(adjacent_append _ _).2 ⟨hadj, trivial, fun x hx _ _ => .inl (hends hlast x hx)⟩,
      ?_, fun x hx y hy => .inr ?_⟩
    · rwa [hcls]
    · exact (hb.2 y (List.mem_of_mem_head? hy)).trans hcls.symm

theorem absorbFrom_run (ha : above.Run) (hall : ∀ x ∈ rest, x.Uniform) : ∀ x ∈ absorbFrom above rest, x.Run := by
  induction above, rest using absorbFrom.induct with
  | case1 above => simpa [absorbFrom] using ha
  | case2 above cur => simpa [absorbFrom] using ⟨ha, (hall cur (by simp)).run⟩
  | case3 above cur below rest h ih =>
    rw [absorbFrom_spike h]
    exact ih (ha.absorb (hall cur (by simp)) (hall below (by simp)) h) fun x hx => hall x (by simp [hx])
  | case4 above cur below rest h ih =>
    rw [absorbFrom_keeps (eq_false_of_ne_true h)]
    intro x hx
    rcases List.mem_cons.1 hx with rfl | hx
    · exact ha
    · exact ih (hall cur (by simp)).run (fun x hx => hall x (List.mem_cons_of_mem _ hx)) x hx

/-- Neighbours in the result: of different classes, and no spike absorbed from below that `x` above would have
absorbed. -/
def RawLayer.Over (x y : RawLayer) : Prop :=
  x.1 ≠ y.1 ∧ ∀ s1 s2 rest, y.2 = s1 :: s2 :: rest → s2.cls = x.1 → s1.cls = .void

theorem RawLayer.Uniform.over {x y : RawLayer} (h : y.Uniform) (hne : x.1 ≠ y.1) : x.Over y :=
  ⟨hne, fun s1 s2 rest hy hs => absurd (hs.symm.trans (h.2 s2 (by simp [hy]))) hne⟩

/-- Layer `above` of the pass, below layer `x` of the result: with the layer that follows it, it is no spike. -/
def RawLayer.Awaits (x above : RawLayer) (rest : List RawLayer) : Prop :=
  x.Over above ∧ ∀ s, above.2 = [s] → ∀ c ∈ rest.head?, c.1 = x.1 → s.cls = .void

theorem RawLayer.Uniform.awaits (hc : cur.Uniform) (hne : above.1 ≠ cur.1) (h : isSpike above cur below = false) :
    above.Awaits cur (below :: rest) := by
  refine ⟨hc.over hne, fun s hs c hb hcls => ?_⟩
  obtain rfl : c = below := by simpa using hb.symm
  have hscls : s.cls = cur.1 := hc.2 s (by simp [hs])
  refine Classical.byContradiction fun hvoid => ?_
  rw [hscls] at hvoid
  exact absurd (isSpike_iff.2 ⟨by simp [hs], hvoid, hcls.symm⟩) (ne_true_of_eq_false h)

theorem absorbFrom_over {x : RawLayer} (hx : x.Awaits above rest) (hne : above.2 ≠ []) (hall : ∀ y ∈ rest, y.Uniform)
    (hchain : Adjacent (fun x y => x.1 ≠ y.1) (above :: rest)) : Adjacent RawLayer.Over (x :: absorbFrom above rest) := by
  induction above, rest using absorbFrom.induct generalizing x with
  | case1 above => exact ⟨hx.1, trivial⟩
  | case2 above cur =>
    have hcur := (hall cur (by simp)).over hchain.1
    exact ⟨hx.1, hcur, trivial⟩
  | case3 above cur below rest h ih =>
    obtain ⟨hlen, hvoid, hcls⟩ := isSpike_iff.1 h
    obtain ⟨c, hcur⟩ := List.length_eq_one_iff.1 hlen
    have hclsc : c.cls = cur.1 := (hall cur (by simp)).2 c (by simp [hcur])
    obtain ⟨⟨hxne, hover⟩, hspike⟩ := hx
    rw [absorbFrom_spike h]
    refine ih ⟨⟨hxne, fun s1 s2 tl hg hs => ?_⟩, fun s hg => ?_⟩ (by simp [hne]) (fun y hy => hall y (by simp [hy])) ?_
    · simp only [hcur] at hg
      rcases habove : above.2 with _ | ⟨a, _ | ⟨a', tl'⟩⟩
      · exact absurd habove hne
      · rw [habove] at hg
        obtain ⟨rfl, rfl⟩ : a = s1 ∧ c = s2 := by simpa using ⟨(List.cons.inj hg).1, (List.cons.inj (List.cons.inj hg).2).1⟩
        exact hspike a habove cur rfl (hclsc.symm.trans hs)
      · rw [habove] at hg
        obtain ⟨rfl, rfl⟩ : a = s1 ∧ a' = s2 := ⟨(List.cons.inj hg).1, (List.cons.inj (List.cons.inj hg).2).1⟩
        exact hover a a' tl' habove hs
    · have hlength := congrArg List.length hg
      have habove := List.length_pos_iff.2 hne
      simp only [List.length_append, List.length_singleton, hlen] at hlength
      omega
    · have hbelow := (adjacent_cons below rest).1 hchain.2.2
      refine (adjacent_cons _ rest).2 ⟨?_, hbelow.2⟩
      exact fun y hy => fun h => hbelow.1 y hy (hcls.symm.trans h)
  | case4 above cur below rest h ih =>
    rw [absorbFrom_keeps (eq_false_of_ne_true h)]
    have hcur := hall cur (by simp)
    have hrest := ih (hcur.awaits hchain.1 (eq_false_of_ne_true h)) hcur.1
      (fun y hy => hall y (List.mem_cons_of_mem _ hy)) hchain.2
    exact ⟨hx.1, hrest⟩

/-- A layer between two of one class that is one segment is VOID: no spike is left (R58). -/
def NoSpike : List RawLayer → Prop
  | x :: y :: z :: rest => (y.2.length = 1 → x.1 = z.1 → y.1 = .void) ∧ NoSpike (y :: z :: rest)
  | _ => True

theorem NoSpike.between {l pre post : List RawLayer} {x y z : RawLayer} (h : NoSpike l)
    (hl : l = pre ++ x :: y :: z :: post) (hy : y.2.length = 1) (hxz : x.1 = z.1) : y.1 = .void := by
  subst hl
  induction pre with
  | nil => exact h.1 hy hxz
  | cons p pre ih =>
    refine ih ?_
    rcases pre with _ | ⟨q, _ | ⟨r, pre⟩⟩
    · exact h.2
    · exact h.2
    · exact h.2

theorem absorbFrom_noSpike {x : RawLayer} (hx : above.2.length = 1 → ∀ c ∈ rest.head?, x.1 = c.1 → above.1 = .void)
    (hne : above.2 ≠ []) (hall : ∀ y ∈ rest, y.Uniform) : NoSpike (x :: absorbFrom above rest) := by
  induction above, rest using absorbFrom.induct generalizing x with
  | case1 above => exact trivial
  | case2 above cur => exact ⟨fun hlen hcls => hx hlen cur rfl hcls, trivial⟩
  | case3 above cur below rest h ih =>
    rw [absorbFrom_spike h]
    refine ih (fun hlen => ?_) (by simp [hne]) fun y hy => hall y (by simp [hy])
    have habove := List.length_pos_iff.2 hne
    simp only [List.length_append, (isSpike_iff.1 h).1] at hlen
    omega
  | case4 above cur below rest h ih =>
    rw [absorbFrom_keeps (eq_false_of_ne_true h)]
    obtain ⟨g, l, heq, -⟩ := absorbFrom_head cur (below :: rest)
    have hrest : NoSpike (above :: absorbFrom cur (below :: rest)) := by
      refine ih (fun hlen c hc hcls => ?_) (hall cur (by simp)).1 fun y hy => hall y (List.mem_cons_of_mem _ hy)
      obtain rfl : below = c := by simpa using hc
      refine Classical.byContradiction fun hvoid => ?_
      exact h (isSpike_iff.2 ⟨hlen, hvoid, hcls⟩)
    rw [heq] at hrest ⊢
    exact ⟨fun hlen hcls => hx hlen cur rfl hcls, hrest⟩

end

theorem NoSpike.tail {x : RawLayer} {l : List RawLayer} (h : NoSpike (x :: l)) : NoSpike l := by
  rcases l with _ | ⟨y, _ | ⟨z, l⟩⟩
  · exact trivial
  · exact trivial
  · exact h.2

theorem Cls.exists_other (a b : Cls) : ∃ k : Cls, k ≠ a ∧ k ≠ b := by
  refine Classical.byContradiction fun h => ?_
  simp only [not_exists, Classical.not_and_iff_not_or_not, Classical.not_not] at h
  have hvoid := h .void
  have hsoft := h .soft
  have hmedium := h .medium
  grind

/-- What the pass over the spikes leaves of the first step's layers (R58). -/
theorem absorbSpikes_spec {runs : List RawLayer} (hall : ∀ x ∈ runs, x.Uniform)
    (hchain : Adjacent (fun x y => x.1 ≠ y.1) runs) :
    (absorbSpikes runs).flatMap Prod.snd = runs.flatMap Prod.snd ∧ (∀ x ∈ absorbSpikes runs, x.Run) ∧
      Adjacent RawLayer.Over (absorbSpikes runs) ∧ NoSpike (absorbSpikes runs) := by
  cases runs with
  | nil => exact ⟨rfl, nofun, trivial, trivial⟩
  | cons first rest =>
    have hfirst := hall first List.mem_cons_self
    have hrest := fun x hx => hall x (List.mem_cons_of_mem first hx)
    obtain ⟨k, hk, hk'⟩ := Cls.exists_other first.1 ((rest.head?.map Prod.fst).getD .void)
    have hnext : ∀ c ∈ rest.head?, c.1 ≠ k := fun c hc h => hk' (by rw [Option.mem_def.1 hc]; exact h.symm)
    let x : RawLayer := (k, [])
    have hawaits : x.Awaits first rest := ⟨hfirst.over hk, fun s _ c hc hcls => absurd hcls (hnext c hc)⟩
    exact ⟨absorbFrom_flat first rest, absorbFrom_run hfirst.run hrest,
      ((adjacent_cons _ _).1 (absorbFrom_over hawaits hfirst.1 hrest hchain)).2,
      (absorbFrom_noSpike (x := x) (fun _ c hc hcls => absurd hcls.symm (hnext c hc)) hfirst.1 hrest).tail⟩

/-! ### The cap and the figures (R59, R60) -/

theorem Cls.rank_zero {c : Cls} (h : c.rank = 0) : c = .void := by
  cases c with
  | void => rfl
  | soft | medium | hard | veryHard => exact absurd h (by decide)

theorem foldl_hardest (ls : List RawLayer) (c : Cls) :
    let h := ls.foldl (fun c l => if c.rank < l.1.rank then l.1 else c) c
    (h = c ∨ ∃ x ∈ ls, x.1 = h) ∧ c.rank ≤ h.rank ∧ ∀ x ∈ ls, x.1.rank ≤ h.rank := by
  induction ls generalizing c with
  | nil => simp
  | cons l ls ih =>
    obtain ⟨hin, hle, hall⟩ := ih (if c.rank < l.1.rank then l.1 else c)
    have hstep : c.rank ≤ (if c.rank < l.1.rank then l.1 else c).rank ∧ l.1.rank ≤ (if c.rank < l.1.rank then l.1 else c).rank := by
      split
      · next h => exact ⟨Nat.le_of_lt h, Nat.le_refl _⟩
      · next h => exact ⟨Nat.le_refl _, Nat.not_lt.1 h⟩
    refine ⟨?_, Nat.le_trans hstep.1 hle, fun x hx => ?_⟩
    · rcases hin with hin | ⟨x, hx, hin⟩
      · by_cases h : c.rank < l.1.rank
        · rw [if_pos h] at hin
          exact .inr ⟨l, List.mem_cons_self, (hin.symm.trans (by rw [List.foldl_cons, if_pos h]))⟩
        · rw [if_neg h] at hin
          exact .inl ((by rw [List.foldl_cons, if_neg h] : _ = _).trans hin)
      · exact .inr ⟨x, List.mem_cons_of_mem _ hx, hin⟩
    · rcases List.mem_cons.1 hx with rfl | hx
      · exact Nat.le_trans hstep.2 hle
      · exact hall x hx

theorem hardest_spec {ls : List RawLayer} (hne : ls ≠ []) :
    (∃ x ∈ ls, x.1 = hardest ls) ∧ ∀ x ∈ ls, x.1.rank ≤ (hardest ls).rank := by
  obtain ⟨hin, -, hall⟩ := foldl_hardest ls .void
  refine ⟨hin.elim (fun hvoid => ?_) id, hall⟩
  obtain ⟨x, l, rfl⟩ := List.exists_cons_of_ne_nil hne
  have hvoid' : hardest (x :: l) = .void := hvoid
  have hx := hall x List.mem_cons_self
  refine ⟨x, List.mem_cons_self, ?_⟩
  rw [hvoid']
  exact Cls.rank_zero (Nat.le_zero.1 (Nat.le_trans hx (Nat.le_of_eq (congrArg Cls.rank hvoid))))

theorem capLayers_flat (ls : List RawLayer) : (capLayers ls).flatMap Prod.snd = ls.flatMap Prod.snd := by
  unfold capLayers
  split
  · rfl
  · rw [List.flatMap_append, List.flatMap_singleton, ← List.flatMap_append, List.take_append_drop]

theorem capLayers_length (ls : List RawLayer) : (capLayers ls).length ≤ 32 := by
  unfold capLayers
  split
  · assumption
  · rw [List.length_append, List.length_take]
    exact Nat.add_le_add_right (Nat.min_le_left 31 _) 1

theorem capLayers_ne_nil {ls : List RawLayer} (h : ∀ x ∈ ls, x.2 ≠ []) : ∀ x ∈ capLayers ls, x.2 ≠ [] := by
  unfold capLayers
  split
  · exact h
  · next hlen =>
    intro x hx
    rcases List.mem_append.1 hx with hx | hx
    · exact h x (List.mem_of_mem_take hx)
    · rw [List.mem_singleton.1 hx]
      have hdrop : ls.drop 31 ≠ [] := by
        rw [Ne, List.drop_eq_nil_iff]
        omega
      obtain ⟨y, l, hy⟩ := List.exists_cons_of_ne_nil hdrop
      have hmem : y ∈ ls := List.mem_of_mem_drop (hy ▸ List.mem_cons_self : y ∈ ls.drop 31)
      dsimp only
      rw [hy, List.flatMap_cons]
      exact List.append_ne_nil_of_left_ne_nil (h y hmem) _

/-- The layers of a contiguous table share their boundaries. -/
theorem adjacent_layers {R : Segment → Segment → Prop} {ls : List RawLayer} (h : ∀ x ∈ ls, x.2 ≠ [])
    (hchain : Adjacent R (ls.flatMap Prod.snd)) :
    Adjacent (fun x y => ∀ a ∈ x.2.getLast?, ∀ b ∈ y.2.head?, R a b) ls := by
  induction ls with
  | nil => trivial
  | cons x ls ih =>
    rw [List.flatMap_cons, adjacent_append] at hchain
    obtain ⟨-, hrest, hjoin⟩ := hchain
    have htail := ih (fun y hy => h y (List.mem_cons_of_mem _ hy)) hrest
    refine (adjacent_cons x ls).2 ⟨fun y hy a ha b hb => hjoin a ha b ?_, htail⟩
    obtain ⟨l, rfl⟩ := List.head?_eq_some_iff.1 hy
    have hy2 := h y (by simp)
    rwa [List.flatMap_cons, head?_append_left hy2]

theorem foldl_min_le (l : List Nat) (a : Nat) : l.foldl min a ≤ a ∧ ∀ x ∈ l, l.foldl min a ≤ x := by
  induction l generalizing a with
  | nil => simp
  | cons y l ih =>
    obtain ⟨hle, hall⟩ := ih (min a y)
    refine ⟨Nat.le_trans hle (Nat.min_le_left _ _), fun x hx => ?_⟩
    rcases List.mem_cons.1 hx with rfl | hx
    · exact Nat.le_trans hle (Nat.min_le_right _ _)
    · exact hall x hx

theorem le_foldl_max (l : List Nat) (a : Nat) : a ≤ l.foldl max a ∧ ∀ x ∈ l, x ≤ l.foldl max a := by
  induction l generalizing a with
  | nil => simp
  | cons y l ih =>
    obtain ⟨hle, hall⟩ := ih (max a y)
    refine ⟨Nat.le_trans (Nat.le_max_left _ _) hle, fun x hx => ?_⟩
    rcases List.mem_cons.1 hx with rfl | hx
    · exact Nat.le_trans (Nat.le_max_right _ _) hle
    · exact hall x hx

/-- The mean of the figures of a layer lies between the least and the greatest. -/
theorem RawLayer.toLayer_bounds {x : RawLayer} (h : x.2 ≠ []) :
    1 ≤ x.toLayer.count ∧ x.toLayer.minSe ≤ x.toLayer.meanSe ∧ x.toLayer.meanSe ≤ x.toLayer.maxSe := by
  have hlen := List.length_pos_iff.2 h
  let ses := x.2.map Segment.se
  have hses : ses.length = x.2.length := List.length_map _
  have hmin : x.2.length * x.toLayer.minSe ≤ ses.sum :=
    hses ▸ length_mul_le_sum fun y hy => (foldl_min_le ses _).2 y hy
  have hmax : ses.sum ≤ x.2.length * x.toLayer.maxSe :=
    hses ▸ sum_le_length_mul fun y hy => (le_foldl_max ses _).2 y hy
  refine ⟨hlen, (Nat.le_div_iff_mul_le hlen).2 (by rwa [Nat.mul_comm]), ?_⟩
  exact Nat.div_le_of_le_mul hmax

theorem flat_head {ls : List RawLayer} {x : RawLayer} (h : ls.head? = some x) (hx : x.2 ≠ []) :
    (ls.flatMap Prod.snd).head? = x.2.head? := by
  obtain ⟨l, rfl⟩ := List.head?_eq_some_iff.1 h
  rw [List.flatMap_cons, head?_append_left hx]

theorem flat_last {ls : List RawLayer} {x : RawLayer} (h : ls.getLast? = some x) (hx : x.2 ≠ []) :
    (ls.flatMap Prod.snd).getLast? = x.2.getLast? := by
  obtain ⟨l, rfl⟩ := List.getLast?_eq_some_iff.1 h
  rw [List.flatMap_append, List.flatMap_singleton, getLast?_append_right hx]

/-- A spike between two segments of one class is absorbed, a VOID one is not (R58). -/
theorem buildLayers_three {x y z : Segment} (hxz : x.cls = z.cls) (hy : y.cls ≠ x.cls) :
    (buildLayers [x, y, z]).map (fun l => (l.cls, l.count)) =
      if y.cls = .void then [(x.cls, 1), (y.cls, 1), (x.cls, 1)] else [(x.cls, 3)] := by
  have hruns : layerRuns [x, y, z] = [(x.cls, [x]), (y.cls, [y]), (z.cls, [z])] := by
    simp [layerRuns, hy.symm, hxz ▸ hy]
  have hbuild : buildLayers [x, y, z] =
      (capLayers (absorbFrom (x.cls, [x]) [(y.cls, [y]), (z.cls, [z])])).map RawLayer.toLayer := by
    rw [buildLayers, hruns]
    rfl
  rw [hbuild]
  by_cases hvoid : y.cls = .void
  · rw [if_pos hvoid, absorbFrom_keeps (by simp [isSpike, hvoid]), hxz]
    rfl
  · rw [if_neg hvoid, absorbFrom_spike (by simp [isSpike, hvoid, hxz])]
    rfl

/-- Settles O32. -/
theorem layersCoverTheTable : Obligations.LayersCoverTheTable := by
  unfold Obligations.LayersCoverTheTable
  intro segs
  obtain ⟨hflat, huniform, hchain⟩ := layerRuns_spec segs
  obtain ⟨hflat', hrun, hover, hspike⟩ := absorbSpikes_spec huniform hchain
  let raw := absorbSpikes (layerRuns segs)
  have hraw : raw.flatMap Prod.snd = segs := hflat'.trans hflat
  have hcap : (capLayers raw).flatMap Prod.snd = segs := (capLayers_flat raw).trans hraw
  have hne : ∀ x ∈ capLayers raw, x.2 ≠ [] := capLayers_ne_nil fun x hx => (hrun x hx).1
  refine ⟨⟨raw, hraw, hrun, hover, fun pre x y z post hl => hspike.between hl, rfl⟩,
    fun ls => hardest_spec, ?_, ?_, ?_, ?_, ?_, ?_, ?_⟩
  · exact Nat.le_trans (Nat.le_of_eq (List.length_map _)) (capLayers_length raw)
  · refine Eq.trans ?_ (List.length_flatMap.symm.trans (congrArg List.length hcap))
    rw [buildLayers, List.map_map]
    rfl
  · rw [buildLayers, List.map_eq_nil_iff]
    refine ⟨fun h => hcap.symm.trans (by rw [h]; rfl), fun h => ?_⟩
    rcases hls : capLayers raw with _ | ⟨x, l⟩
    · rfl
    · rw [hls, List.flatMap_cons, h] at hcap
      exact absurd (List.append_eq_nil_iff.1 hcap).1 (hne x (by simp [hls]))
  · intro x y hx hy
    have hnil : capLayers raw ≠ [] := fun h => by simp [← hcap, h] at hx
    have hfirst := flat_head (List.head?_eq_some_head hnil) (hne _ (List.head_mem hnil))
    have hlast := flat_last (List.getLast?_eq_some_getLast hnil) (hne _ (List.getLast_mem hnil))
    rw [hcap] at hfirst hlast
    rw [buildLayers, List.head?_map, List.getLast?_map]
    rw [List.head?_eq_some_head hnil, List.getLast?_eq_some_getLast hnil]
    simp only [Option.map_some, RawLayer.toLayer, ← hfirst, ← hlast, hx, hy, Option.getD_some, and_self]
  · rw [buildLayers, adjacent_map]
    intro hsegs
    rw [← hcap] at hsegs
    refine (adjacent_layers hne hsegs).imp_of_mem fun x hx y hy hxy => ?_
    have hjoin := hxy _ (List.getLast?_eq_some_getLast (hne x hx)) _ (List.head?_eq_some_head (hne y hy))
    simp only [RawLayer.toLayer, List.getLast?_eq_some_getLast (hne x hx), List.head?_eq_some_head (hne y hy),
      Option.map_some, Option.getD_some, hjoin]
  · intro l hl
    obtain ⟨x, hx, rfl⟩ := List.mem_map.1 hl
    exact RawLayer.toLayer_bounds (hne x hx)
  · rintro x y z rfl hxz hy
    exact buildLayers_three hxz hy

end Sys2Proof.Machine
end

section
namespace Sys2Proof.Machine

/-! The proofs are elaborated one after another: side by side, so many ask for more threads than the memory holds. -/
set_option Elab.async false

/-! ### The functions that become FAILED (R131, R172) -/

section
variable {s : State} {b : Boom}

theorem State.Beside.mixInterrupted (s : State) (b : Boom) : s.Beside b (s.mixInterrupted b) :=
  (State.Beside.halt s b _ _).trans (State.Beside.takeDeferred _ b)

theorem State.Beside.boomFailed (s : State) (b : Boom) (k : FnKind) : s.Beside b (s.boomFailed b k) := by
  unfold State.boomFailed
  dsimp only
  split
  · split
    · exact .mixInterrupted s b
    · split
      · exact (State.Beside.halt s b _ _).trans (State.Beside.takeDeferred _ b)
      · exact .halt s b _ _
  · exact .refl s

/-- Whether boom `b` stands in a state that a FAILED function of its phase takes it out of (R172). -/
def Sequencer.working (q : Sequencer) : Bool := q.state.automatic || q.state = .paused

/-- A boom that rests uses no function. -/
theorem State.uses_resting (h : (s.seq.get b).working = false) : (s.phase b).uses = [] := by
  have hnot : (s.seq.get b).state ≠ .paused ∧ (s.seq.get b).state.automatic = false := by
    simpa [Sequencer.working, and_comm] using h
  rw [State.phase_eq hnot.1]
  cases hq : (s.seq.get b).state with
  | idle | manual | halted | stopped | paused => rfl
  | _ => exact absurd hnot.2 (by rw [hq]; decide)

theorem State.boomFailed_spared {k : FnKind} (h : k ∉ (s.phase b).uses) : s.boomFailed b k = s :=
  if_neg (by simp [h])

/-- A function of the boom's phase that has become FAILED halts it (R172). -/
theorem State.boomFailed_halts {k : FnKind} (h : k ∈ (s.phase b).uses) (hw : s.arb.waiting = [])
    (hp : s.phase b ≠ .mixing) : (s.boomFailed b k).seq.get b = (s.seq.get b).haltedWith .valveFault := by
  have hwork : (s.seq.get b).working = true := by
    refine Classical.byContradiction fun hno => ?_
    rw [State.uses_resting (eq_false_of_ne_true hno)] at h
    exact absurd h List.not_mem_nil
  have hmix : (s.seq.get b).state ≠ .mixing := fun hm => hp ((State.phase_eq (by rw [hm]; simp)).trans hm)
  have hhalted : (s.seq.get b).state ≠ .halted := fun hh => by simp [Sequencer.working, hh, Phase.automatic] at hwork
  have hfail : s.boomFailed b k = s.halt b .valveFault .interrupted := by
    unfold State.boomFailed
    dsimp only
    rw [if_pos (by simpa [h, Sequencer.working] using hwork), if_neg hmix, if_neg hp]
  obtain ⟨y, -, -, -, heq⟩ := State.halt_frame (s := s) (e := .interrupted) .valveFault hhalted hw
  rw [hfail, heq]
  exact PerBoom.get_set_same _ _ _

/-- In MIXING it ends the mix with MIX_INTERRUPTED (R109). -/
theorem State.boomFailed_mixing {k : FnKind} (h : k ∈ (s.phase b).uses) (hw : s.arb.waiting = [])
    (hm : (s.seq.get b).state = .mixing) (hd : (s.seq.get b).deferredAbort = false) :
    (s.boomFailed b k).seq.get b = { (s.seq.get b).haltedWith .mixInterrupted with deferred := .empty } := by
  have hfail : s.boomFailed b k = s.arrive b .gas := by
    simp only [State.boomFailed, State.arrive, hm, if_true, List.contains_iff_mem, h, Phase.automatic, Bool.true_or, Bool.and_true]
  rw [hfail, (State.arrive_gas hw hd).1, PerBoom.get_set_same, Sequencer.gassed, if_pos hm]

end

/-! #### All of them, in number order -/

/-- A FAILED function of a boom is taken. -/
def State.takeBoomFailed (s : State) (f : Fn) : State :=
  match f with
  | .boom b k => s.boomFailed b k
  | _ => s

/-- What the functions `l` of the booms that have become FAILED leave of boom `b`'s Sequencer. -/
def State.FailedSeq (s : State) (l : List Fn) (b : Boom) (q : Sequencer) : Prop :=
  let hit := ∃ k ∈ (s.phase b).uses, Fn.boom b k ∈ l
  (¬ hit → q = s.seq.get b) ∧
  (hit → s.phase b ≠ .mixing → q = (s.seq.get b).haltedWith .valveFault) ∧
  (hit → (s.seq.get b).state = .mixing → (s.seq.get b).deferredAbort = false →
    q = { (s.seq.get b).haltedWith .mixInterrupted with deferred := .empty })

/-- The Sequencer of a boom that a list does not name more of than another. -/
theorem State.FailedSeq.congr {s x : State} {l m : List Fn} {b : Boom} {q : Sequencer} (h : x.FailedSeq l b q)
    (hq : x.seq.get b = s.seq.get b) (hl : ∀ k ∈ (s.phase b).uses, Fn.boom b k ∈ m ↔ .boom b k ∈ l) : s.FailedSeq m b q := by
  have hphase : x.phase b = s.phase b := by rw [State.phase, hq, State.phase]
  have hhit : (∃ k ∈ (s.phase b).uses, Fn.boom b k ∈ m) ↔ ∃ k ∈ (s.phase b).uses, Fn.boom b k ∈ l :=
    exists_congr fun k => and_congr_right fun hk => hl k hk
  unfold State.FailedSeq at h ⊢
  rw [hphase, hq] at h
  dsimp only at h ⊢
  rw [hhit]
  exact h

/-- A boom that a failed function has halted takes no other. -/
theorem State.FailedSeq.rested {x : State} {l : List Fn} {b : Boom} {q q' : Sequencer} (h : x.FailedSeq l b q)
    (hq : x.seq.get b = q') (hrest : q'.working = false) : q = q' := by
  have huses : (x.phase b).uses = [] := State.uses_resting (by rw [hq]; exact hrest)
  exact (h.1 (by simp [huses])).trans hq

theorem State.foldl_takeBoomFailed (l : List Fn) {s : State} (hw : s.arb.waiting = []) :
    let t := l.foldl State.takeBoomFailed s
    t.aside = s.aside ∧ ∀ b, s.FailedSeq l b (t.seq.get b) := by
  induction l generalizing s with
  | nil => exact ⟨rfl, fun b => ⟨fun _ => rfl, fun h => absurd h (by simp), fun h => absurd h (by simp)⟩⟩
  | cons f l ih =>
    have hskip : ∀ g, (∀ b k, g ≠ Fn.boom b k) → s.takeBoomFailed g = s → f = g →
        ((f :: l).foldl State.takeBoomFailed s).aside = s.aside ∧
          ∀ b, s.FailedSeq (f :: l) b (((f :: l).foldl State.takeBoomFailed s).seq.get b) := by
      rintro g hne hg rfl
      rw [List.foldl_cons, hg]
      refine ⟨(ih hw).1, fun b => ((ih hw).2 b).congr rfl fun k _ => ?_⟩
      simp [(hne b k).symm]
    cases f with
    | index => exact hskip .index (fun _ _ => Fn.noConfusion) rfl rfl
    | tram => exact hskip .tram (fun _ _ => Fn.noConfusion) rfl rfl
    | boom c k =>
      have hbeside : s.Beside c (s.boomFailed c k) := .boomFailed s c k
      obtain ⟨haside, hseq⟩ := ih (s := s.boomFailed c k) (hbeside.waiting hw)
      refine ⟨haside.trans (hbeside hw).1, fun b => ?_⟩
      rw [List.foldl_cons]
      by_cases hb : b = c
      · subst hb
        by_cases hk : k ∈ (s.phase b).uses
        · have hhit : ∃ k' ∈ (s.phase b).uses, Fn.boom b k' ∈ Fn.boom b k :: l := ⟨k, hk, List.mem_cons_self⟩
          refine ⟨fun h => absurd hhit h, fun _ hp => ?_, fun _ hm hd => ?_⟩
          · exact (hseq b).rested (State.boomFailed_halts hk hw hp) rfl
          · exact (hseq b).rested (State.boomFailed_mixing hk hw hm hd) rfl
        · have hsame := hseq b
          rw [State.boomFailed_spared hk] at hsame
          have hstep : s.takeBoomFailed (.boom b k) = s := State.boomFailed_spared hk
          rw [hstep]
          refine hsame.congr rfl fun k' hk' => ?_
          have hne : k' ≠ k := fun h => hk (h ▸ hk')
          simp [hne]
      · refine (hseq b).congr ((hbeside hw).2.1 b hb) fun k' _ => ?_
        simp [hb]

/-- The functions of the booms, in number order. -/
def boomFns : List Fn := allFns.take 14

/-- The functions that a change of the Driver from `v` to `w` has made FAILED. -/
def Valve.lost (v w : Valve) (f : Fn) : Bool := w.isFailed f && !v.isFailed f

theorem newlyFailed_eq (v w : Valve) : newlyFailed v.failedFns w.failedFns = allFns.filter (v.lost w) := by
  unfold newlyFailed Valve.failedFns
  rw [List.filter_filter]
  refine List.filter_congr fun f hf => ?_
  simp [Valve.lost, hf, Bool.and_comm]

theorem foldl_congr_mem {α β : Type} {f g : β → α → β} {l : List α} (y : β) (h : ∀ y, ∀ x ∈ l, f y x = g y x) :
    l.foldl f y = l.foldl g y := by
  induction l generalizing y with
  | nil => rfl
  | cons x l ih =>
    rw [List.foldl_cons, List.foldl_cons, h y x List.mem_cons_self]
    exact ih _ fun y z hz => h y z (.tail _ hz)

theorem takeNewlyFailed_eq (s : State) (v : Valve) :
    s.takeNewlyFailed v = (let y := (boomFns.filter (v.lost s.valve)).foldl State.takeBoomFailed s
      if v.lost s.valve .index then y.indexFailed else y) := by
  have hsplit : allFns.filter (v.lost s.valve) =
      boomFns.filter (v.lost s.valve) ++ [Fn.index, .tram].filter (v.lost s.valve) := by
    rw [← List.filter_append]
    rfl
  have hbooms : ∀ f ∈ boomFns.filter (v.lost s.valve), ∃ b k, f = Fn.boom b k := by
    intro f hf
    have hall : ∀ g ∈ boomFns, g ≠ Fn.index ∧ g ≠ .tram := by decide
    obtain ⟨hi, ht⟩ := hall f (List.mem_filter.1 hf).1
    cases f with
    | boom b k => exact ⟨b, k, rfl⟩
    | index => exact absurd rfl hi
    | tram => exact absurd rfl ht
  unfold State.takeNewlyFailed State.takeFailed
  rw [newlyFailed_eq, hsplit, List.foldl_append,
    foldl_congr_mem (g := State.takeBoomFailed) s fun y f hf => ?_]
  · cases hi : v.lost s.valve .index <;> cases ht : v.lost s.valve .tram <;> simp [hi, ht]
  · obtain ⟨b, k, rfl⟩ := hbooms f hf
    rfl

section
variable {s x t : State} {v : Valve} {b : Boom}

theorem mem_boomFns (b : Boom) (k : FnKind) : Fn.boom b k ∈ boomFns := by
  cases b <;> cases k <;> decide

theorem State.indexFailed_eq (s : State) : s.indexFailed =
    if s.idx.state = .positioning ∧ s.idx.stepTimer.running = true then s.idxFault .indexFailed else s := by
  unfold State.indexFailed
  simp

/-- A fault of the Indexer reaches a boom in RESIN_INSERT alone. -/
theorem State.idxFault_spares {c : IdxFault} (hw : s.arb.waiting = []) (hp : s.phase b ≠ .resinInsert) :
    (s.idxFault c).seq.get b = s.seq.get b := by
  by_cases hb : b = s.served
  · unfold State.idxFault
    dsimp only
    split
    · next r hr =>
      have hrb : r.boom = b := by
        rw [hb, State.served, show s.idx.queue.head? = some r from hr]
        rfl
      have hend : ∀ k, State.seqBurstEnd { s with idx := s.idx.faulted c } r.boom k = { s with idx := s.idx.faulted c } :=
        fun k => if_pos (by rw [hrb]; exact hp)
      exact (congrArg (fun y : State => y.seq.get b) (hend (if s.idx.stopMark then .stopped else .failed)) :)
    · rfl
  · exact ((s.idxFault_beside c) hw).2.1 b hb

/-- The state once the booms have taken their functions that have become FAILED. -/
def State.boomsFailed (x : State) (v : Valve) : State := (boomFns.filter (v.lost x.valve)).foldl State.takeBoomFailed x

theorem State.boomsFailed_seq (hw : x.arb.waiting = []) (b : Boom) :
    let hit := ∃ k ∈ (x.phase b).uses, v.lost x.valve (.boom b k) = true
    (¬ hit → (x.boomsFailed v).seq.get b = x.seq.get b) ∧
    (hit → x.phase b ≠ .mixing → (x.boomsFailed v).seq.get b = (x.seq.get b).haltedWith .valveFault) ∧
    (hit → (x.seq.get b).state = .mixing → (x.seq.get b).deferredAbort = false →
      (x.boomsFailed v).seq.get b = { (x.seq.get b).haltedWith .mixInterrupted with deferred := .empty }) := by
  have hmem : (∃ k ∈ (x.phase b).uses, Fn.boom b k ∈ boomFns.filter (v.lost x.valve)) ↔
      ∃ k ∈ (x.phase b).uses, v.lost x.valve (.boom b k) = true :=
    exists_congr fun k => and_congr_right fun _ => by simp [List.mem_filter, mem_boomFns]
  have hfold := (State.foldl_takeBoomFailed (boomFns.filter (v.lost x.valve)) hw).2 b
  unfold State.FailedSeq at hfold
  rw [hmem] at hfold
  exact hfold

theorem State.boomsFailed_aside (hw : x.arb.waiting = []) : (x.boomsFailed v).aside = x.aside :=
  (State.foldl_takeBoomFailed _ hw).1

theorem takeNewlyFailed_cases (x : State) (v : Valve) :
    (v.lost x.valve .index = true ∧ (x.boomsFailed v).idx.state = .positioning ∧
        (x.boomsFailed v).idx.stepTimer.running = true ∧ x.takeNewlyFailed v = (x.boomsFailed v).idxFault .indexFailed) ∨
    (¬ (v.lost x.valve .index = true ∧ (x.boomsFailed v).idx.state = .positioning ∧
        (x.boomsFailed v).idx.stepTimer.running = true) ∧ x.takeNewlyFailed v = x.boomsFailed v) := by
  have heq : x.takeNewlyFailed v = if v.lost x.valve .index then (x.boomsFailed v).indexFailed else x.boomsFailed v :=
    takeNewlyFailed_eq x v
  rw [heq, State.indexFailed_eq]
  by_cases hl : v.lost x.valve .index = true
  · by_cases hu : (x.boomsFailed v).idx.state = .positioning ∧ (x.boomsFailed v).idx.stepTimer.running = true
    · exact .inl ⟨hl, hu.1, hu.2, (if_pos hl).trans (if_pos hu)⟩
    · exact .inr ⟨fun h => hu h.2, (if_pos hl).trans (if_neg hu)⟩
  · exact .inr ⟨fun h => hl h.1, if_neg hl⟩

/-- What the Driver's change leaves of the pieces around the booms. -/
theorem takeNewlyFailed_frame (hw : x.arb.waiting = []) :
    (x.takeNewlyFailed v).valve = x.valve ∧ (x.takeNewlyFailed v).arb.waiting = [] := by
  have haside := State.boomsFailed_aside (v := v) hw
  have hwait : (x.boomsFailed v).arb.waiting = [] := (congrArg (fun s : State => s.arb.waiting) haside).trans hw
  have hvalve : (x.boomsFailed v).valve = x.valve := (congrArg State.valve haside :)
  rcases takeNewlyFailed_cases x v with ⟨-, -, -, h⟩ | ⟨-, h⟩
  · have hbeside := (x.boomsFailed v).idxFault_beside .indexFailed
    rw [h]
    exact ⟨(congrArg State.valve (hbeside hwait).1 :).trans hvalve, hbeside.waiting hwait⟩
  · rw [h]
    exact ⟨hvalve, hwait⟩

/-- The functions that a change of the Driver has made FAILED are taken as R172 and R131 say. -/
theorem State.takesFailed (hxs : x.seq = s.seq) (hxstore : x.store = s.store) (hxbits : x.bits = s.bits) (hxidx : x.idx = s.idx)
    (hw : x.arb.waiting = []) (hseq : t.seq = (x.takeNewlyFailed s.valve).seq)
    (hstore : t.store = (x.takeNewlyFailed s.valve).store) (hbits : t.bits = (x.takeNewlyFailed s.valve).bits)
    (hidx : t.idx = (x.takeNewlyFailed s.valve).idx ∨ t.idx = (x.takeNewlyFailed s.valve).injectorSeen)
    (hfail : ∀ f, t.valve.isFailed f = x.valve.isFailed f) : s.TakesFailed t := by
  have hlost : ∀ f, (s.valve.isFailed f = false ∧ t.valve.isFailed f = true) ↔ s.valve.lost x.valve f = true := by
    intro f
    simp [Valve.lost, hfail, and_comm]
  let y := x.boomsFailed s.valve
  have haside : y.aside = x.aside := State.boomsFailed_aside hw
  have hyw : y.arb.waiting = [] := (congrArg (fun s : State => s.arb.waiting) haside).trans hw
  have hyidx : y.idx = s.idx := (congrArg State.idx haside :).trans hxidx
  have hxphase : ∀ b, x.phase b = s.phase b := fun b => by simp only [State.phase, hxs]
  have hyseq := fun b => State.boomsFailed_seq (v := s.valve) hw b
  simp only [hxphase, hxs] at hyseq
  have hcases := takeNewlyFailed_cases x s.valve
  -- a boom that the faulted Indexer does not reach keeps what the failed functions have left it
  have hkept : ∀ b q, y.seq.get b = q → (s.valve.lost x.valve .index = true → q.phase ≠ .resinInsert) → t.seq.get b = q := by
    intro b q hq hne
    rw [hseq]
    rcases hcases with ⟨hl, -, -, h⟩ | ⟨-, h⟩
    · rw [h]
      refine (State.idxFault_spares hyw ?_).trans hq
      rw [State.phase, hq]
      exact hne hl
    · rw [h]
      exact hq
  unfold State.TakesFailed
  simp only [hlost]
  refine ⟨fun hnone => ?_, fun hindex => ⟨fun hunder => ?_, fun hunder => ⟨?_, fun r hr hp hstop hpend => ?_⟩⟩,
    fun b _ hinsert => ⟨fun hhit => ?_, fun hhit hp _ => ?_, fun hhit hm hd => ?_⟩⟩
  · have hbooms : boomFns.filter (s.valve.lost x.valve) = [] :=
      List.filter_eq_nil_iff.2 fun f _ => hnone f (mem_allFns f)
    have hy : x.takeNewlyFailed s.valve = x := by
      rw [takeNewlyFailed_eq, hbooms]
      exact if_neg (hnone .index (mem_allFns _))
    rw [hseq, hstore, hbits, hy]
    exact ⟨hxs, hxstore, hxbits⟩
  · rcases hcases with ⟨-, hst, hrun, -⟩ | ⟨-, h⟩
    · rw [hyidx] at hst hrun
      exact absurd ⟨hst, hrun⟩ hunder
    · obtain ⟨st, rt, pt, hseen⟩ := (x.takeNewlyFailed s.valve).injectorSeen_frame
      rw [hseen, h, hyidx] at hidx
      rcases hidx with hidx | hidx
      · rw [hidx]
        exact ⟨rfl, rfl, rfl⟩
      · rw [hidx]
        exact ⟨rfl, rfl, rfl⟩
  · rcases hcases with ⟨-, -, -, h⟩ | ⟨hno, -⟩
    · have hfault : (x.takeNewlyFailed s.valve).idx = s.idx.faulted .indexFailed := by
        rw [h, State.idxFault_idx _ hyw, hyidx]
      have hseen : (x.takeNewlyFailed s.valve).injectorSeen = (x.takeNewlyFailed s.valve).idx :=
        State.injectorSeen_of_ne (by rw [hfault]; exact IdxState.noConfusion)
      rw [hseen, hfault] at hidx
      exact hidx.elim id id
    · rw [hyidx] at hno
      exact absurd ⟨hindex, hunder⟩ hno
  · have hnohit : ¬ ∃ k ∈ (s.phase r.boom).uses, s.valve.lost x.valve (.boom r.boom k) = true := by simp [hp, Phase.uses]
    have hq := (hyseq r.boom).1 hnohit
    rcases hcases with ⟨-, -, -, h⟩ | ⟨hno, -⟩
    · rw [hseq, h, State.idxFault_seq .indexFailed (by rw [hyidx]; exact hr) (by rw [hyidx]; exact hstop)
        ((congrArg Sequencer.phase hq).trans hp) (by rw [hq]; exact hpend), PerBoom.get_set_same, hq]
    · rw [hyidx] at hno
      exact absurd ⟨hindex, hunder⟩ hno
  · exact hkept b _ ((hyseq b).1 hhit) hinsert
  · exact hkept b _ ((hyseq b).2.1 hhit hp) fun _ => by simp [Sequencer.phase, Sequencer.haltedWith]
  · exact hkept b _ ((hyseq b).2.2 hhit hm hd) fun _ => by simp [Sequencer.phase, Sequencer.haltedWith]

end

end Sys2Proof.Machine
end

section
namespace Sys2Proof.Machine

/-! The proofs are elaborated one after another: side by side, so many ask for more threads than the memory holds. -/
set_option Elab.async false

/-! ### Changes of the Driver's routes (R168 to R173) -/

section
variable {v w : Valve} {s t x : State}

theorem List.channel_fixed {l m : List Channel} (h : m.map Channel.fixed = l.map Channel.fixed) (i : Nat) (d : Channel) :
    (m.getD i d).fixed = (l.getD i d).fixed := by
  have hget := congrArg (·[i]?) h
  simp only [List.getElem?_map] at hget
  rw [List.getD_eq_getElem?_getD, List.getD_eq_getElem?_getD]
  cases hm : m[i]? <;> cases hl : l[i]? <;> simp_all

/-- Channels that agree but for duties and functions have the same settings, states and readings. -/
theorem Valve.channel_fixed (h : w.channels.map Channel.fixed = v.channels.map Channel.fixed) (i : Nat) :
    (w.channel i).fixed = (v.channel i).fixed := List.channel_fixed h i _

theorem Valve.channel_state (h : w.channels.map Channel.fixed = v.channels.map Channel.fixed) (i : Nat) :
    (w.channel i).state = (v.channel i).state := (congrArg Channel.state (Valve.channel_fixed h i) :)

theorem Valve.channel_lowCount (h : w.channels.map Channel.fixed = v.channels.map Channel.fixed) (i : Nat) :
    (w.channel i).lowCount = (v.channel i).lowCount := (congrArg Channel.lowCount (Valve.channel_fixed h i) :)

theorem Valve.chOk_eq (v : Valve) (n : Nat) : v.chOk n = decide (n < v.channels.length ∧ (v.channel n).state = .ok) := by
  unfold Valve.chOk Valve.channel
  rw [List.getD_eq_getElem?_getD]
  by_cases hn : n < v.channels.length
  · simp [hn]
  · simp [hn]

theorem Valve.chOk_congr (h : w.channels.map Channel.fixed = v.channels.map Channel.fixed) (n : Nat) :
    w.chOk n = v.chOk n := by
  have hlen : w.channels.length = v.channels.length := by simpa using congrArg List.length h
  rw [w.chOk_eq, v.chOk_eq, hlen, Valve.channel_state h]

theorem Valve.resolve_chOk (v : Valve) (n : Nat) : v.resolve.chOk n = v.chOk n := Valve.chOk_congr v.resolve_fixed n

/-- A table of the sixteen functions gives each its entry. -/
theorem Valve.route_map (F : Fn → Route) (c : List Channel) (f : Fn) :
    Valve.route { routes := allFns.map F, channels := c } f = F f := by
  cases f with
  | boom b k => cases b <;> cases k <;> rfl
  | _ => rfl

theorem Valve.modChannel_channel (v : Valve) {c : Nat} (hc : c < v.channels.length) (g : Channel → Channel) (i : Nat) :
    (v.modChannel c g).channel i = if i = c then g (v.channel c) else v.channel i := by
  unfold Valve.modChannel Valve.channel
  rw [List.getD_eq_getElem?_getD, List.getElem?_modify]
  by_cases hi : i = c
  · subst hi
    simp [hc]
  · simp [hi, Ne.symm hi]

/-! #### Routes that stand alone and stay (R171) -/

/-- A resolution of routes that no function may leave for its primary. -/
theorem Valve.resolve_still (h : ∀ f, (v.route f).kind = .alternate → v.chOk (v.route f).primary = false) :
    v.resolve.Still := by
  refine Valve.still_of_faulted fun f hf => ?_
  rw [Valve.resolve_route] at hf ⊢
  rw [Valve.resolve_chOk]
  exact h f hf

/-- A route taken afresh is on its alternate only with the primary not OK (R168). -/
theorem Valve.freshKind_alternate {p : Nat} {a : Option Nat} (h : v.freshKind p a = .alternate) : v.chOk p = false := by
  unfold Valve.freshKind at h
  split at h
  · cases h
  · next hp => exact eq_false_of_ne_true hp

theorem Valve.Resolved.congr (hroute : ∀ f, w.route f = v.route f) (hlen : w.channels.length = v.channels.length)
    (hdrive : ∀ n, (w.channel n).driving = (v.channel n).driving) : w.Resolved ↔ v.Resolved := by
  unfold Valve.Resolved
  simp only [hroute, hlen, hdrive]

/-- The end of an event leaves the routes and the functions the channels drive. -/
theorem State.Ends.valve (h : x.Ends t) :
    (∀ f, t.valve.route f = x.valve.route f) ∧ (t.valve.Resolved ↔ x.valve.Resolved) := by
  have hroutes : t.valve.routes = x.valve.routes := h.view fun s => s.valve.routes
  have hdriving : t.valve.channels.map Channel.driving = x.valve.channels.map Channel.driving :=
    h.view (fun s => s.valve.channels.map Channel.driving) (hcore := fun s => by simp [State.core, Function.comp_def])
  have hroute : ∀ f, t.valve.route f = x.valve.route f := fun f => by rw [Valve.route, hroutes, Valve.route]
  refine ⟨hroute, Valve.Resolved.congr hroute (by simpa using congrArg List.length hdriving) fun n => ?_⟩
  have hget := congrArg (·[n]?) hdriving
  simp only [List.getElem?_map] at hget
  unfold Valve.channel
  rw [List.getD_eq_getElem?_getD, List.getD_eq_getElem?_getD]
  cases ht : t.valve.channels[n]? <;> cases hx : x.valve.channels[n]? <;> simp_all

theorem Valve.isFailed_route {f : Fn} (h : w.route f = v.route f) : w.isFailed f = v.isFailed f := by
  rw [Valve.isFailed, h, Valve.isFailed]

/-- The end of an event at which the Driver has changed: the routes are the Driver's, and the functions that have
become FAILED are taken. -/
theorem State.driverEnds (hxs : x.seq = s.seq) (hxstore : x.store = s.store) (hxbits : x.bits = s.bits)
    (hxidx : x.idx = s.idx) (hw : x.arb.waiting = []) (h : (x.takeNewlyFailed s.valve).Ends t) :
    (∀ f, t.valve.route f = x.valve.route f) ∧ (t.valve.Resolved ↔ x.valve.Resolved) ∧ s.TakesFailed t := by
  obtain ⟨hroute, hres⟩ := h.valve
  rw [(takeNewlyFailed_frame hw).1] at hroute hres
  exact ⟨hroute, hres, State.takesFailed hxs hxstore hxbits hxidx hw (h.view State.seq) (h.view State.store) (h.view State.bits)
    (.inr h.idx_eq) fun f => Valve.isFailed_route (hroute f)⟩

/-- A request that leaves the Driver with routes to which no function may return. -/
theorem State.doneQuiet_still (hw : s.arb.waiting = []) (hv : w.Still) :
    let t := s.doneQuiet (s.modValve fun _ => w)
    (∀ f, t.valve.route f = w.route f) ∧ (t.valve.Resolved ↔ w.Resolved) ∧ s.TakesFailed t := by
  let y := (s.modValve fun _ => w).takeNewlyFailed s.valve
  have hframe : y.valve = w ∧ y.arb.waiting = [] := takeNewlyFailed_frame (x := s.modValve fun _ => w) hw
  have hends : y.Ends (s.doneQuiet (s.modValve fun _ => w)) := by
    have hreturn : y.returnTest true = y := State.returnTest_still (by rw [hframe.1]; exact hv) true
    have h := State.finishFrom_ends_still (State.firstFit_nil hframe.2) (by rw [hframe.1]; exact hv) s.onStates false true
    exact (congrArg (fun z : State => y.Ends (z.finishFrom s.onStates false true)) hreturn).mpr h
  exact State.driverEnds (x := s.modValve fun _ => w) rfl rfl rfl rfl hw hends

/-! #### What a request's reply leaves -/

theorem State.Keeps.reply {x y : State} (h : x.Keeps y) (k tag : Byte) (r : Result) (c : List Byte) :
    ({ x with link := { x.link with replies := (y.reply k tag r c).link.replies } }).Keeps (y.reply k tag r c) := by
  obtain ⟨h1, h2, h3, h4, h5, h6, h7, h8, h9, hlink, hrest⟩ := h
  exact ⟨h1, h2, h3, h4, h5, h6, h7, h8, h9,
    congrArg (fun l : Link => { l with replies := (y.reply k tag r c).link.replies }) hlink, hrest⟩

/-- A Driver that has changed counts with the channels it has now. -/
theorem State.Keeps.reply_channels {y : State} (h : (s.modValve fun _ => w).Keeps y) (k tag : Byte) (r : Result) (c : List Byte) :
    ({ s with link := { s.link with replies := (y.reply k tag r c).link.replies }
              valve := { s.valve with channels := y.valve.channels } }).Keeps (y.reply k tag r c) := by
  obtain ⟨h1, h2, h3, h4, h5, h6, h7, h8, h9, hlink, hcount, -⟩ := h.reply k tag r c
  exact ⟨h1, h2, h3, h4, h5, h6, h7, h8, h9, hlink, hcount, rfl⟩

theorem State.TakesFailed.reply {y : State} (h : s.TakesFailed y) (k tag : Byte) (r : Result) (c : List Byte) :
    s.TakesFailed (y.reply k tag r c) := h

@[simp] theorem State.reply_valve (y : State) (k tag : Byte) (r : Result) (c : List Byte) :
    (y.reply k tag r c).valve = y.valve := rfl

theorem changedFns_eq (v w : Valve) : changedFns v w = allFns.filter fun g => v.moved w g := by
  refine List.filter_congr fun g _ => ?_
  simp only [Valve.moved, bne, decide_not, Bool.beq_eq_decide_eq]

end

/-! ### SET_ROUTE (R168) -/

theorem routeInRange_iff {p : Nat} {alt : Option Nat} :
    routeInRange p alt = false ↔ 19 < p ∨ ∃ a, alt = some a ∧ (19 < a ∨ a = p) := by
  cases alt with
  | none => simp [routeInRange]
  | some a =>
    simp only [routeInRange, Option.some.injEq, exists_eq_left', ne_eq, Bool.and_eq_false_iff, decide_eq_false_iff_not,
      Nat.not_le, Classical.not_not]

theorem routeReply_eq (v w : Valve) (f : Fn) : routeReply v w f =
    (u8 (w.route f).primary ++ opt u8 (w.route f).alternate ++ u8 (w.route f).kind.code ++ mark (w.route f).conflict) ++
      listOf (fun g => u8 g.num ++ u8 (w.route g).kind.code ++ opt u8 (w.route g).claims ++ mark (w.route g).conflict ++
        mark (w.isFailed g)) (allFns.filter fun g => g ≠ f && v.moved w g) := by
  unfold routeReply listOf
  rw [changedFns_eq, List.filter_filter, List.flatMap_map, List.length_map]
  rfl

theorem routeNotes_bytes (v w : Valve) : listOf RouteNote.bytes (routeNotes v w) =
    listOf (fun g => u8 g.num ++ u8 (w.route g).kind.code ++ opt u8 (w.route g).claims ++ mark (w.route g).conflict ++
      mark (w.isFailed g)) (allFns.filter fun g => v.moved w g) := by
  unfold routeNotes listOf
  rw [changedFns_eq, List.flatMap_map, List.length_map]
  rfl

section
variable {v : Valve} {s : State}

theorem Valve.rerouted_route (hlen : v.routes.length = 16) (f : Fn) (p : Nat) (a : Option Nat) (g : Fn) :
    ((v.rerouted f p a).route g).primary = (if g = f then p else (v.route g).primary) ∧
    ((v.rerouted f p a).route g).alternate = (if g = f then a else (v.route g).alternate) ∧
    ((v.rerouted f p a).route g).kind = (if g = f then v.freshKind p a else (v.route g).kind) := by
  unfold Valve.rerouted
  rw [Valve.resolve_route, Valve.setRoute_route hlen]
  by_cases hg : g = f
  · simp [hg]
  · simp [hg]

theorem Valve.rerouted_fixed (v : Valve) (f : Fn) (p : Nat) (a : Option Nat) :
    (v.rerouted f p a).channels.map Channel.fixed = v.channels.map Channel.fixed := Valve.resolve_fixed _

theorem Valve.rerouted_resolved (v : Valve) (f : Fn) (p : Nat) (a : Option Nat) : (v.rerouted f p a).Resolved :=
  Valve.resolve_resolved _

theorem State.rerouted_still (hcalm : s.calm = true) (hlen : s.valve.routes.length = 16) (f : Fn) (p : Nat) (a : Option Nat) :
    (s.valve.rerouted f p a).Still := by
  refine Valve.resolve_still fun g hg => ?_
  rw [Valve.setRoute_route hlen] at hg ⊢
  by_cases hgf : g = f
  · rw [if_pos hgf] at hg ⊢
    exact Valve.freshKind_alternate hg
  · rw [if_neg hgf] at hg
    exact absurd hg (Valve.route_calm (State.calm_routes hcalm) g)

/-! ### CLEAR_CHANNEL (R171) -/

/-- The Driver with channel `c` made OK, as CLEAR_CHANNEL leaves it. -/
def Valve.cleared (v : Valve) (c : Nat) : Valve :=
  (v.modChannel c fun ch => { ch with state := .ok, lowCount := 0 }).recover c

theorem Valve.cleared_fixed (v : Valve) (c : Nat) : (v.cleared c).channels.map Channel.fixed =
    (v.modChannel c fun ch => { ch with state := .ok, lowCount := 0 }).channels.map Channel.fixed := Valve.resolve_fixed _

theorem Valve.cleared_resolved (v : Valve) (c : Nat) : (v.cleared c).Resolved := Valve.resolve_resolved _

theorem Valve.modOk_chOk {c : Nat} (hc : c < v.channels.length) (n : Nat) :
    (v.modChannel c fun ch => { ch with state := .ok, lowCount := 0 }).chOk n = (n == c || v.chOk n) := by
  have hlen : (v.modChannel c fun ch => { ch with state := .ok, lowCount := 0 }).channels.length = v.channels.length := by
    simp [Valve.modChannel]
  rw [Valve.chOk_eq, hlen, Valve.modChannel_channel v hc]
  by_cases hn : n = c
  · simp [hn, hc]
  · simp [hn, Valve.chOk_eq]

/-- The route of a function once channel `c` has been made OK: one without a route that has the channel takes one afresh
(R171). -/
def Valve.recovered (v : Valve) (c : Nat) (f : Fn) : Route :=
  let r := v.route f
  if r.kind = .none && (r.primary = c || r.alternate = some c) then { r with kind := v.freshKind r.primary r.alternate }
  else r

theorem Valve.recover_eq (v : Valve) (c : Nat) :
    v.recover c = Valve.resolve { v with routes := allFns.map (v.recovered c) } := rfl

theorem Valve.cleared_route {c : Nat} (hc : c < v.channels.length) (f : Fn) :
    ((v.cleared c).route f).primary = (v.route f).primary ∧ ((v.cleared c).route f).alternate = (v.route f).alternate ∧
    ((v.cleared c).route f).kind =
      if (v.route f).kind = .none ∧ ((v.route f).primary = c ∨ (v.route f).alternate = some c) then
        (if (v.route f).primary == c || v.chOk (v.route f).primary then .primary
         else match (v.route f).alternate with
           | some a => if a == c || v.chOk a then .alternate else .none
           | none => .none)
      else (v.route f).kind := by
  let w := v.modChannel c fun ch => { ch with state := .ok, lowCount := 0 }
  have hroute : ∃ k, (v.cleared c).route f = { w.recovered c f with conflict := k } := by
    rw [Valve.cleared, Valve.recover_eq, Valve.resolve_route, Valve.route_map]
    exact ⟨_, rfl⟩
  have hok : ∀ n, w.chOk n = (n == c || v.chOk n) := Valve.modOk_chOk hc
  have hsame : w.route f = v.route f := rfl
  obtain ⟨k, hk⟩ := hroute
  rw [hk]
  unfold Valve.recovered
  rw [hsame]
  by_cases h : (v.route f).kind = .none ∧ ((v.route f).primary = c ∨ (v.route f).alternate = some c)
  · dsimp only
    rw [if_pos h, if_pos (by simpa using h)]
    refine ⟨rfl, rfl, ?_⟩
    unfold Valve.freshKind
    rw [hok]
    cases (v.route f).alternate with
    | none => rfl
    | some a => simp only [hok]
  · dsimp only
    rw [if_neg h, if_neg (by simpa using h)]
    exact ⟨rfl, rfl, rfl⟩

theorem State.cleared_still (hcalm : s.calm = true) (c : Nat) : (s.valve.cleared c).Still := by
  rw [Valve.cleared, Valve.recover_eq]
  refine Valve.resolve_still fun g hg => ?_
  rw [Valve.route_map] at hg ⊢
  unfold Valve.recovered at hg ⊢
  dsimp only at hg ⊢
  split at hg
  · next h =>
    rw [if_pos h]
    exact Valve.freshKind_alternate hg
  · exact absurd hg (Valve.route_calm (State.calm_routes hcalm) g)

end

/-! ### The two requests -/

/-- The checks of SET_ROUTE come in the order of R168. -/
theorem State.answerSetRoute_eq {s : State} {body : List Byte} {f : Fn} (hf : fnOfNum (byteAt body 0) = some f) :
    s.answerSetRoute body =
      if s.absentFn f = true then s.refuse .noSuchBoom
      else if (!routeInRange (byteAt body 1) (alternateAt body)) = true then s.refuse .range
      else if s.routeOwned f = true then s.refuse .owned
      else (let t := s.doneQuiet (s.modValve fun _ => s.valve.rerouted f (byteAt body 1) (alternateAt body))
        (t, .ok, routeReply s.valve t.valve f)) := by
  simp only [State.answerSetRoute, hf]
  rfl

/-- Settles O44. -/
theorem routesAndChannelsSet : Obligations.RoutesAndChannelsSet := by
  intro tag body s hr hlen hlen16 c refused note
  refine ⟨fun hl => ?_, fun hl => ?_⟩
  case refine_1 =>
    intro p alt bad
    have hbad : bad ↔ routeInRange p alt = false := routeInRange_iff.symm
    have hgood : ¬ bad → routeInRange p alt = true := fun hb => eq_true_of_ne_false fun h => hb (hbad.2 h)
    refine ⟨fun hc => State.answered hr hl ?_, fun f hf => ⟨fun ha => State.answered hr hl ?_, fun ha hb =>
      State.answered hr hl ?_, fun ha hb ho => State.answered hr hl ?_, fun ha hb ho => ?_⟩⟩
    · simp only [State.answerSetRoute, fnOfNum_none hc, State.refuse, c]
    all_goals have hans := State.answerSetRoute_eq (s := s) (body := body) hf
    · exact hans.trans (if_pos ha)
    all_goals replace hans := hans.trans (if_neg (Bool.not_eq_true _ ▸ ha))
    · exact hans.trans (if_pos (by rw [Bool.not_eq_true']; exact hbad.1 hb))
    all_goals replace hans := hans.trans (if_neg (by rw [Bool.not_eq_true', Bool.not_eq_false]; exact hgood hb))
    · exact hans.trans (if_pos ho)
    · intro kind
      replace hans := hans.trans (if_neg (Bool.not_eq_true _ ▸ ho))
      let t := s.doneQuiet (s.modValve fun _ => s.valve.rerouted f p alt)
      have houter : t.outer = s.outer :=
        (State.outer_doneQuiet s _).trans (State.outer_modValve s _ (Valve.rerouted_fixed s.valve f p alt))
      have hkeep : s.Keeps t := State.keeps_of_outer houter
      refine ⟨t.reply 0x31 tag .ok (routeReply s.valve t.valve f), State.answered hr hl hans, hkeep.reply _ _ _ _, ?_,
        fun hcalm _ => ?_⟩
      · rw [State.reply_replies, replies_of_outer houter, routeReply_eq]
        rfl
      · obtain ⟨hroute, hres, htakes⟩ := State.doneQuiet_still (State.calm_waiting hcalm) (State.rerouted_still hcalm hlen16 f p alt)
        rw [State.reply_valve]
        refine ⟨fun g _ => ?_, hres.2 (Valve.rerouted_resolved s.valve f p alt), htakes.reply _ _ _ _⟩
        have hg := Valve.rerouted_route hlen16 f p alt g
        rw [← hroute g] at hg
        exact hg
  case refine_2 =>
    have hfix : fixedLen 1 body = true := fixedLen_iff.mpr hl
    refine ⟨fun hc => State.answered hr hfix (if_pos hc), fun hc hok => State.answered hr hfix ?_, fun hc hok => ?_⟩
    · exact (if_neg (Nat.not_lt.mpr hc)).trans (if_pos hok)
    · intro okAfter
      have hlt : c < s.valve.channels.length := by omega
      let t := s.doneQuiet (s.modValve fun _ => s.valve.cleared c)
      have hans : s.answerClearChannel body = (t, .ok, listOf RouteNote.bytes (routeNotes s.valve t.valve)) :=
        (if_neg (Nat.not_lt.mpr hc)).trans (if_neg hok)
      have houter : t.outer = (s.modValve fun _ => s.valve.cleared c).outer := State.outer_doneQuiet s _
      have hkeep : (s.modValve fun _ => s.valve.cleared c).Keeps t := State.keeps_of_outer houter
      have hfixed : t.valve.channels.map Channel.fixed =
          (s.valve.modChannel c fun ch => { ch with state := .ok, lowCount := 0 }).channels.map Channel.fixed :=
        (outer_channels houter).trans (s.valve.cleared_fixed c)
      have hstate := fun i => Valve.channel_state hfixed i
      have hlow := fun i => Valve.channel_lowCount hfixed i
      simp only [Valve.modChannel_channel _ hlt] at hstate hlow
      refine ⟨t.reply 0x32 tag .ok (listOf RouteNote.bytes (routeNotes s.valve t.valve)), State.answered hr hfix hans, ?_⟩
      rw [State.reply_valve]
      refine ⟨by rw [hstate, if_pos rfl], by rw [hlow, if_pos rfl], fun i _ hi => ⟨by rw [hstate, if_neg hi], by rw [hlow, if_neg hi]⟩,
        ?_, ?_, fun hcalm _ => ?_⟩
      · exact hkeep.reply_channels _ _ _ _
      · rw [State.reply_replies, replies_of_outer houter, routeNotes_bytes]
        rfl
      · obtain ⟨hroute, hres, htakes⟩ := State.doneQuiet_still (State.calm_waiting hcalm) (State.cleared_still hcalm c)
        refine ⟨fun g _ => ?_, hres.2 (s.valve.cleared_resolved c), htakes.reply _ _ _ _⟩
        have hg := Valve.cleared_route hlt g
        rw [← hroute g] at hg
        exact hg

end Sys2Proof.Machine
end

section
namespace Sys2Proof.Machine

/-! The proofs are elaborated one after another: side by side, so many ask for more threads than the memory holds. -/
set_option Elab.async false

/-! ### Faults of the channels (R164, R165, R169) -/

section
variable {s x t : State} {v : Valve}

/-- The functions that have become FAILED only add reports. -/
theorem takeNewlyFailed_told (hw : x.arb.waiting = []) : x.link.reports <+: (x.takeNewlyFailed v).link.reports := by
  have hfold : ∀ (l : List Fn) (y : State), y.arb.waiting = [] →
      y.link.reports <+: (l.foldl State.takeBoomFailed y).link.reports := by
    intro l
    induction l with
    | nil => exact fun y _ => List.prefix_refl _
    | cons f l ih =>
      intro y hy
      cases f with
      | index => exact ih y hy
      | tram => exact ih y hy
      | boom b k =>
        have hbeside : y.Beside b (y.boomFailed b k) := .boomFailed y b k
        exact (hbeside hy).2.2.trans (ih _ (hbeside.waiting hy))
  have hbooms : x.link.reports <+: (x.boomsFailed v).link.reports := hfold _ x hw
  have hwait : (x.boomsFailed v).arb.waiting = [] :=
    (congrArg (fun s : State => s.arb.waiting) (State.boomsFailed_aside hw)).trans hw
  rcases takeNewlyFailed_cases x v with ⟨-, -, -, h⟩ | ⟨-, h⟩
  · rw [h]
    exact hbooms.trans (((x.boomsFailed v).idxFault_beside .indexFailed) hwait).2.2
  · rw [h]
    exact hbooms

/-! #### A channel that goes faulty -/

/-- A channel as a fault leaves it. -/
def Channel.faulted (st : ChState) (c : Channel) : Channel := { c with state := st, duty := 0, lowCount := 0 }

/-- The channels as the faults of a list leave them. -/
def faultChannels (l : List (Nat × ChState)) (cs : List Channel) : List Channel :=
  l.foldl (fun cs x => cs.modify x.1 (Channel.faulted x.2)) cs

theorem faultChannels_spared {l : List (Nat × ChState)} {i : Nat} (h : ∀ st, (i, st) ∉ l) (cs : List Channel) (d : Channel) :
    (faultChannels l cs).getD i d = cs.getD i d := by
  induction l generalizing cs with
  | nil => rfl
  | cons x l ih =>
    have hne : x.1 ≠ i := fun hx => h x.2 (by rw [← hx]; exact List.mem_cons_self)
    refine (ih (fun st hm => h st (List.mem_cons_of_mem _ hm)) _).trans ?_
    simp [List.getD_eq_getElem?_getD, hne]

theorem faultChannels_hit {l : List (Nat × ChState)} (hl : (l.map Prod.fst).Nodup) {i : Nat} {st : ChState}
    (h : (i, st) ∈ l) {cs : List Channel} (hi : i < cs.length) (d : Channel) :
    (faultChannels l cs).getD i d = (cs.getD i d).faulted st := by
  induction l generalizing cs with
  | nil => cases h
  | cons x l ih =>
    obtain ⟨hx, hnd⟩ := List.nodup_cons.1 hl
    rcases List.mem_cons.1 h with rfl | hm
    · refine (faultChannels_spared (l := l) (fun st' hm => hx (List.mem_map.2 ⟨(i, st'), hm, rfl⟩)) _ d).trans ?_
      · simp [List.getD_eq_getElem?_getD, hi]
    · have hne : x.1 ≠ i := fun he => hx (by rw [he]; exact List.mem_map_of_mem (f := Prod.fst) hm)
      refine (ih hnd hm (by simpa using hi)).trans ?_
      simp [List.getD_eq_getElem?_getD, hne]

theorem modify_faulted_fixed (cs : List Channel) (i : Nat) (st : ChState) :
    (cs.modify i (Channel.faulted st)).map Channel.fixed = (cs.map Channel.fixed).modify i (Channel.faulted st) := by
  refine List.ext_getElem? fun n => ?_
  simp only [List.getElem?_map, List.getElem?_modify]
  cases cs[n]? with
  | none => rfl
  | some c =>
    by_cases hn : i = n
    · simp [hn, Channel.fixed, Channel.faulted]
    · simp [hn]

theorem faultChannels_fixed (l : List (Nat × ChState)) (cs : List Channel) :
    (faultChannels l cs).map Channel.fixed = faultChannels l (cs.map Channel.fixed) := by
  induction l generalizing cs with
  | nil => rfl
  | cons x l ih => exact (ih _).trans (congrArg (faultChannels l) (modify_faulted_fixed cs x.1 x.2))

theorem faultChannels_length (l : List (Nat × ChState)) (cs : List Channel) : (faultChannels l cs).length = cs.length := by
  induction l generalizing cs with
  | nil => rfl
  | cons x l ih => exact (ih _).trans (List.length_modify _ _ _)

/-- The Driver once channel `i` has gone faulty and its functions have moved off it. -/
def Valve.faulted (v : Valve) (i : Nat) (st : ChState) : Valve := (v.modChannel i (Channel.faulted st)).moveOff i

theorem Valve.faulted_fixed (v : Valve) (i : Nat) (st : ChState) :
    (v.faulted i st).channels.map Channel.fixed = (v.channels.map Channel.fixed).modify i (Channel.faulted st) :=
  (Valve.resolve_fixed _).trans (modify_faulted_fixed _ _ _)

/-- The pieces of state no internal operation changes, without the channels. -/
def State.around (s : State) : Outer := { s.outer with channels := [] }

theorem State.around_of_outer (h : t.outer = s.outer) : t.around = s.around :=
  congrArg (fun o : Outer => { o with channels := [] }) h

theorem State.keeps_of_around (h : t.around = s.around) :
    ({ s with valve := { s.valve with channels := t.valve.channels } }).Keeps t :=
  State.keeps_of_outer (s := { s with valve := { s.valve with channels := t.valve.channels } })
    (congrArg (fun o : Outer => { o with channels := t.valve.channels.map Channel.fixed }) h)

theorem State.channelFault_eq (s : State) (i : Nat) (st : ChState) : s.channelFault (i, st) =
    s.finish ((((s.modValve fun _ => s.valve.faulted i st).report
      (.channel i st (routeNotes s.valve (s.valve.faulted i st))))).takeNewlyFailed s.valve) := rfl

theorem State.channelFault_outer (s : State) (x : Nat × ChState) :
    (s.channelFault x).around = s.around ∧
    (s.channelFault x).valve.channels.map Channel.fixed =
      (s.valve.channels.map Channel.fixed).modify x.1 (Channel.faulted x.2) := by
  have houter : (s.channelFault x).outer = (s.modValve fun _ => s.valve.faulted x.1 x.2).outer := by
    rw [State.channelFault_eq]
    simp only [State.outer_finish, State.outer_takeNewlyFailed, State.outer_report]
  exact ⟨(State.around_of_outer houter).trans rfl, (outer_channels houter).trans (s.valve.faulted_fixed _ _)⟩

theorem State.foldl_channelFault (l : List (Nat × ChState)) (s : State) :
    (l.foldl State.channelFault s).around = s.around ∧
    (l.foldl State.channelFault s).valve.channels.map Channel.fixed = faultChannels l (s.valve.channels.map Channel.fixed) := by
  induction l generalizing s with
  | nil => exact ⟨rfl, rfl⟩
  | cons x l ih =>
    rw [List.foldl_cons]
    obtain ⟨haround, hchannels⟩ := ih (s.channelFault x)
    obtain ⟨ha, hc⟩ := s.channelFault_outer x
    exact ⟨haround.trans ha, hchannels.trans (congrArg (faultChannels l) hc)⟩

/-! #### The reading -/

theorem Valve.readAll_channel (v : Valve) (cur : List Nat) {i : Nat} (hi : i < v.channels.length) :
    (v.readAll cur).channel i = (v.channel i).read (cur.getD i 0) := by
  simp [Valve.readAll, Valve.channel, List.getD_eq_getElem?_getD, hi]

theorem Valve.readAll_length (v : Valve) (cur : List Nat) : (v.readAll cur).channels.length = v.channels.length := by
  simp [Valve.readAll]

theorem Valve.mem_faults {i : Nat} {st : ChState} :
    (i, st) ∈ v.faults ↔ i < v.channels.length ∧ (v.channel i).fault = some st := by
  simp only [Valve.faults, List.mem_filterMap, List.mem_range, Option.map_eq_some_iff, Prod.mk.injEq]
  constructor
  · rintro ⟨j, hj, u, hu, rfl, rfl⟩
    exact ⟨hj, hu⟩
  · rintro ⟨hi, hu⟩
    exact ⟨i, hi, st, hu, rfl, rfl⟩

theorem Valve.faults_nodup (v : Valve) : (v.faults.map Prod.fst).Nodup := by
  have hsub : ∀ l : List Nat, ((l.filterMap fun i => (v.channel i).fault.map fun st => (i, st)).map Prod.fst).Sublist l := by
    intro l
    induction l with
    | nil => exact List.Sublist.refl _
    | cons i l ih =>
      rw [List.filterMap_cons]
      cases (v.channel i).fault with
      | none => exact ih.cons i
      | some st => exact ih.cons_cons i
  exact (hsub _).nodup List.nodup_range

/-- What a current reading leaves of the pieces around the Driver and of the channels. -/
theorem State.currentReading_outer (s : State) (cur : List Nat) :
    ∃ l : List (Nat × ChState), l.Perm (s.valve.readAll cur).faults ∧ (s.currentReading cur).around = s.around ∧
      (s.currentReading cur).valve.channels.map Channel.fixed =
        faultChannels l ((s.valve.readAll cur).channels.map Channel.fixed) := by
  let u := s.modValve fun v => v.readAll cur
  obtain ⟨l, n, hperm, heq⟩ := State.inOrder_perm u (2 ≤ u.valve.faults.length) u.valve.faults State.channelFault
  obtain ⟨haround, hchannels⟩ := State.foldl_channelFault l { u with freeCount := n }
  refine ⟨l, hperm, ?_, ?_⟩
  · unfold State.currentReading
    exact (congrArg State.around heq).trans (haround.trans rfl)
  · unfold State.currentReading
    exact (congrArg (fun y : State => y.valve.channels.map Channel.fixed) heq).trans hchannels

/-- A channel as its reading and the fault it may find leave it. -/
def Channel.taken (c : Channel) (ma : Nat) : Channel :=
  match (c.read ma).fault with
  | some st => (c.read ma).faulted st
  | none => c.read ma

theorem State.read_channel {cur : List Nat} {l : List (Nat × ChState)} (hl : l.Perm (s.valve.readAll cur).faults)
    (h : t.valve.channels.map Channel.fixed = faultChannels l ((s.valve.readAll cur).channels.map Channel.fixed)) {i : Nat}
    (hi : i < s.valve.channels.length) : (t.valve.channel i).fixed = ((s.valve.channel i).taken (cur.getD i 0)).fixed := by
  have hread := s.valve.readAll_channel cur hi
  have hnd : (l.map Prod.fst).Nodup := (hl.map Prod.fst).nodup_iff.2 (s.valve.readAll cur).faults_nodup
  have hlt : i < (s.valve.readAll cur).channels.length := by rw [Valve.readAll_length]; exact hi
  have hmem : ∀ st, (i, st) ∈ l ↔ ((s.valve.channel i).read (cur.getD i 0)).fault = some st := fun st => by
    rw [hl.mem_iff, Valve.mem_faults, hread, and_iff_right hlt]
  rw [← faultChannels_fixed] at h
  refine (List.channel_fixed h i (Channel.reset i)).trans (congrArg Channel.fixed ?_)
  unfold Channel.taken
  rw [← hread]
  rw [← hread] at hmem
  cases hf : ((s.valve.readAll cur).channel i).fault with
  | none => exact faultChannels_spared (fun st hst => by rw [hmem, hf] at hst; cases hst) _ _
  | some st => exact faultChannels_hit hnd ((hmem st).2 hf) hlt _

/-- What a channel takes of its reading (R164, R165). -/
theorem Channel.taken_cases (c : Channel) (ma : Nat) :
    let m := min 5000 ma
    let low := if c.duty = 0 then 0 else if m < c.openTh then c.lowCount + 1 else 0
    (c.taken ma).current = m ∧
    (c.state ≠ .ok → (c.taken ma).state = c.state ∧ (c.taken ma).lowCount = c.lowCount) ∧
    (c.state = .ok → c.shortTh < m → (c.taken ma).state = .short ∧ (c.taken ma).lowCount = 0) ∧
    (c.state = .ok → m ≤ c.shortTh → 3 ≤ low → (c.taken ma).state = .openCoil ∧ (c.taken ma).lowCount = 0) ∧
    (c.state = .ok → m ≤ c.shortTh → low < 3 → (c.taken ma).state = .ok ∧ (c.taken ma).lowCount = low) := by
  intro m low
  by_cases hok : c.state = .ok
  · by_cases hshort : c.shortTh < m
    · have hf : (c.read ma).fault = some .short := by simp [Channel.fault, Channel.read, hok, hshort, m]
      unfold Channel.taken
      rw [hf]
      exact ⟨rfl, fun h => absurd hok h, fun _ _ => ⟨rfl, rfl⟩, fun _ h => absurd hshort (Nat.not_lt.2 h),
        fun _ h => absurd hshort (Nat.not_lt.2 h)⟩
    · have hread : c.read ma = { c with current := m, lowCount := low } := by
        simp only [Channel.read, hok, ne_eq, not_true_eq_false, if_false]
        rw [if_neg hshort]
      by_cases hlow : 3 ≤ low
      · have hf : (c.read ma).fault = some .openCoil := by rw [hread]; simp [Channel.fault, hok, hshort, hlow]
        unfold Channel.taken
        rw [hf, hread]
        exact ⟨rfl, fun h => absurd hok h, fun _ h => absurd h hshort, fun _ _ _ => ⟨rfl, rfl⟩,
          fun _ _ h => absurd h (Nat.not_lt.2 hlow)⟩
      · have hf : (c.read ma).fault = none := by rw [hread]; simp [Channel.fault, hok, hshort, hlow]
        unfold Channel.taken
        rw [hf, hread]
        exact ⟨rfl, fun h => absurd hok h, fun _ h => absurd h hshort, fun _ _ h => absurd h hlow,
          fun _ _ _ => ⟨hok, rfl⟩⟩
  · have hf : (c.read ma).fault = none := by simp [Channel.fault, Channel.read, hok]
    unfold Channel.taken
    rw [hf]
    refine ⟨rfl, fun _ => ⟨rfl, ?_⟩, fun h => absurd h hok, fun h => absurd h hok, fun h => absurd h hok⟩
    simp [Channel.read, hok]

/-- At the end of an event a channel that is not OK drives no duty (R162). -/
theorem State.finish_duty {s0 : State} {i : Nat} (hi : i < s.valve.channels.length)
    (h : ((s0.finish s).valve.channel i).state ≠ .ok) : ((s0.finish s).valve.channel i).duty = 0 := by
  have hlen : (s0.finish s).valve.channels.length = s.valve.channels.length := by
    simpa using congrArg List.length (outer_channels (State.outer_finish s0 s))
  have hmem : (s0.finish s).valve.channel i ∈ (s0.finish s).valve.channels := by
    unfold Valve.channel
    rw [← List.getElem_eq_getD (h := by rw [hlen]; exact hi)]
    exact List.getElem_mem _
  have hduty : ((s0.finish s).valve.channel i).duty = (s0.finish s).channelDuty ((s0.finish s).valve.channel i) :=
    State.computeDuties_duty _ _ hmem
  rw [hduty]
  unfold State.channelDuty
  simp [h]

end

end Sys2Proof.Machine
end

section
namespace Sys2Proof.Machine

/-! The proofs are elaborated one after another: side by side, so many ask for more threads than the memory holds. -/
set_option Elab.async false

/-! ### One fault alone (R169) -/

section
variable {s x t : State} {v : Valve}

/-- What follows an event finds nothing more to do for the injector. -/
theorem State.Ends.injectorSeen_eq (h : x.Ends t) : t.injectorSeen = x.injectorSeen := by
  have hview : ({ t with idx := x.injectorSeen } : State).injectorSeen = ({ x with idx := x.injectorSeen } : State).injectorSeen :=
    h.view fun s => ({ s with idx := x.injectorSeen } : State).injectorSeen
  rw [State.injectorSeen_again, ← h.idx_eq] at hview
  rw [← h.idx_eq]
  exact hview

/-- The route of a function once channel `c`, which has gone faulty, is left (R169). -/
def Valve.movedOff (v : Valve) (c : Nat) (f : Fn) : Route :=
  let r := v.route f
  if r.claims = some c then { r with kind := v.movedKind r } else r

theorem Valve.moveOff_eq (v : Valve) (c : Nat) :
    v.moveOff c = Valve.resolve { v with routes := allFns.map (v.movedOff c) } := rfl

/-- A claim of a function that is not on its alternate is on its primary. -/
theorem Route.claims_primary {r : Route} {c : Nat} (hk : r.kind ≠ .alternate) (h : r.claims = some c) :
    r.kind = .primary ∧ r.primary = c := by
  cases hr : r.kind with
  | primary => simpa [Route.claims, hr] using h
  | alternate => exact absurd hr hk
  | none => simp [Route.claims, hr] at h

theorem Valve.movedKind_primary {r : Route} (hk : r.kind = .primary) : v.movedKind r =
    match r.alternate with
    | some a => if v.chOk a then .alternate else .none
    | none => .none := by
  obtain ⟨p, a, k, c⟩ := r
  have hk : k = .primary := hk
  subst hk
  cases a with
  | none => rfl
  | some a => rfl

theorem Valve.faulted_chOk (v : Valve) (i : Nat) (st : ChState) (n : Nat) :
    (v.faulted i st).chOk n = (v.modChannel i (Channel.faulted st)).chOk n := Valve.resolve_chOk _ n

theorem Valve.faulted_route (hcalm : ∀ r ∈ v.routes, r.kind ≠ .alternate) (i : Nat) (st : ChState) (f : Fn) :
    ((v.faulted i st).route f).primary = (v.route f).primary ∧ ((v.faulted i st).route f).alternate = (v.route f).alternate ∧
    ((v.faulted i st).route f).kind =
      if (v.route f).claims = some i then
        match (v.route f).alternate with
        | some a => if (v.faulted i st).chOk a then .alternate else .none
        | none => .none
      else (v.route f).kind := by
  let w := v.modChannel i (Channel.faulted st)
  have hroute : ∃ k, (v.faulted i st).route f = { w.movedOff i f with conflict := k } := by
    rw [Valve.faulted, Valve.moveOff_eq, Valve.resolve_route, Valve.route_map]
    exact ⟨_, rfl⟩
  have hsame : w.route f = v.route f := rfl
  obtain ⟨k, hk⟩ := hroute
  rw [hk]
  unfold Valve.movedOff
  rw [hsame]
  by_cases h : (v.route f).claims = some i
  · dsimp only
    rw [if_pos h, if_pos h]
    refine ⟨rfl, rfl, (Valve.movedKind_primary (Route.claims_primary (Valve.route_calm hcalm f) h).1).trans ?_⟩
    cases (v.route f).alternate with
    | none => rfl
    | some a => simp only [w, Valve.faulted_chOk]
  · dsimp only
    rw [if_neg h, if_neg h]
    exact ⟨rfl, rfl, rfl⟩

theorem Valve.modFaulted_chOk {i : Nat} {st : ChState} (hst : st ≠ .ok) :
    (v.modChannel i (Channel.faulted st)).chOk i = false := by
  rw [Valve.chOk_eq, decide_eq_false_iff_not]
  rintro ⟨hlt, hok⟩
  have hi : i < v.channels.length := by simpa [Valve.modChannel] using hlt
  rw [Valve.modChannel_channel v hi, if_pos rfl] at hok
  exact hst hok

theorem State.faulted_still (hcalm : s.calm = true) {i : Nat} {st : ChState} (hst : st ≠ .ok) :
    (s.valve.faulted i st).Still := by
  rw [Valve.faulted, Valve.moveOff_eq]
  refine Valve.resolve_still fun g hg => ?_
  rw [Valve.route_map] at hg ⊢
  unfold Valve.movedOff at hg ⊢
  dsimp only at hg ⊢
  have hkind := Valve.route_calm (State.calm_routes hcalm) g
  split at hg
  · next h =>
    have hprimary := (Route.claims_primary hkind h).2
    have hbad : (s.valve.modChannel i (Channel.faulted st)).chOk i = false := Valve.modFaulted_chOk hst
    rw [if_pos h]
    exact (congrArg (s.valve.modChannel i (Channel.faulted st)).chOk hprimary).trans hbad
  · exact absurd hg hkind

theorem Valve.faulted_resolved (v : Valve) (i : Nat) (st : ChState) : (v.faulted i st).Resolved := Valve.resolve_resolved _

theorem ChState.faulted_of_fault {c : Channel} {st : ChState} (h : c.fault = some st) : c.state = .ok ∧ st ≠ .ok := by
  unfold Channel.fault at h
  split at h
  · cases h
  · next hok =>
    refine ⟨Classical.not_not.1 hok, ?_⟩
    split at h
    · cases h
      exact ChState.noConfusion
    · split at h
      · cases h
        exact ChState.noConfusion
      · cases h

theorem Valve.Still.congr {w : Valve} (h : v.Still) (hroute : ∀ f, w.route f = v.route f) (hok : ∀ n, w.chOk n = v.chOk n) :
    w.Still := by
  intro rest f
  have hf := h rest f
  unfold Valve.mayReturn at hf ⊢
  simp only [hroute, hok]
  exact hf

theorem State.report_room (r : Report) (h : s.link.reports.length < 12) :
    (s.report r).link.reports = s.link.reports ++ [r] := by
  simp only [State.report, State.modLink]
  rw [if_pos (by exact h)]

/-- A fault alone, at the end of its event and of its reading's. -/
theorem State.channelFault_ends (hcalm : s.calm = true) (s0 : State) {i : Nat} {st : ChState} (hst : st ≠ .ok) :
    let t := s0.finish (s.channelFault (i, st))
    (∀ f, t.valve.route f = (s.valve.faulted i st).route f) ∧ t.valve.Resolved ∧ s.TakesFailed t ∧
    (s.link.reports.length < 12 → t.link.reports[s.link.reports.length]? =
      some (.channel i st (routeNotes s.valve (s.valve.faulted i st)))) := by
  let x := (s.modValve fun _ => s.valve.faulted i st).report (.channel i st (routeNotes s.valve (s.valve.faulted i st)))
  let z := x.takeNewlyFailed s.valve
  have hw : x.arb.waiting = [] := (State.calm_waiting hcalm : s.arb.waiting = [])
  have hframe : z.valve = s.valve.faulted i st ∧ z.arb.waiting = [] := takeNewlyFailed_frame (x := x) hw
  have hends : ∀ (y o : State), y.valve.Still → y.arb.waiting = [] → y.Ends (o.finish y) := fun y o hv hy =>
    State.finishFrom_ends_still (State.firstFit_nil hy) hv o.onStates false false
  have hstill : (s.valve.faulted i st).Still := State.faulted_still hcalm hst
  have hfirst : z.Ends (s.channelFault (i, st)) := hends z s (by rw [hframe.1]; exact hstill) hframe.2
  have hvalve := hfirst.valve
  rw [hframe.1] at hvalve
  have hstill2 : (s.channelFault (i, st)).valve.Still := hstill.congr hvalve.1
    (Valve.chOk_congr ((s.channelFault_outer (i, st)).2.trans (s.valve.faulted_fixed i st).symm))
  have hsecond := hends _ s0 hstill2 ((hfirst.view fun s => s.arb.waiting).trans hframe.2)
  have hroute : ∀ f, (s0.finish (s.channelFault (i, st))).valve.route f = (s.valve.faulted i st).route f :=
    fun f => (hsecond.valve.1 f).trans (hvalve.1 f)
  refine ⟨hroute, hsecond.valve.2.2 (hvalve.2.2 (s.valve.faulted_resolved i st)), ?_, fun hroom => ?_⟩
  · exact State.takesFailed (x := x) rfl rfl rfl rfl hw ((hsecond.view State.seq).trans (hfirst.view State.seq))
      ((hsecond.view State.store).trans (hfirst.view State.store)) ((hsecond.view State.bits).trans (hfirst.view State.bits))
      (.inr (hsecond.idx_eq.trans hfirst.injectorSeen_eq)) fun f => Valve.isFailed_route (hroute f)
  · have hreports : (s0.finish (s.channelFault (i, st))).link.reports = z.link.reports :=
      (hsecond.view fun s => s.link.reports).trans (hfirst.view fun s => s.link.reports)
    obtain ⟨l, hl⟩ : x.link.reports <+: z.link.reports := takeNewlyFailed_told hw
    have hx : x.link.reports = s.link.reports ++ [.channel i st (routeNotes s.valve (s.valve.faulted i st))] :=
      State.report_room (s := s.modValve fun _ => s.valve.faulted i st) _ hroom
    rw [hreports, ← hl, hx]
    simp

/-- A list of distinct numbers all of which are one number is that one alone. -/
theorem List.singleton_of_nodup {l : List (Nat × ChState)} (hnd : (l.map Prod.fst).Nodup) {i : Nat} {st : ChState}
    (h : (i, st) ∈ l) (hall : ∀ x ∈ l, x.1 = i) : l = [(i, st)] := by
  match l, hnd, h, hall with
  | [x], _, h, _ => rw [List.mem_singleton.1 h]
  | x :: y :: m, hnd, _, hall =>
    refine absurd ?_ (List.nodup_cons.1 hnd).1
    rw [hall x List.mem_cons_self]
    exact List.mem_map.2 ⟨y, List.mem_cons_self, hall y (List.mem_cons_of_mem _ List.mem_cons_self)⟩

end

/-! ### The return of a function (R171) -/

section
variable {s : State} {quiet : Bool} {f : Fn}

theorem Valve.mayReturn_iff (v : Valve) (rest : Fn → Bool) (f : Fn) : v.mayReturn rest f = true ↔
    (v.route f).kind = .alternate ∧ v.chOk (v.route f).primary = true ∧ rest f = true ∧
      ∀ g ∈ allFns, g.num < f.num → (v.route g).claims ≠ some (v.route f).primary := by
  simp only [Valve.mayReturn, Bool.and_eq_true, Bool.not_eq_true', List.any_eq_false, decide_eq_true_eq, and_assoc, not_and]

/-- A function that returns takes its primary, and no other route moves (R171). -/
theorem State.returnOne_returns (hlen : s.valve.routes.length = 16) (hw : s.arb.waiting = [])
    (h : s.valve.mayReturn (atRest s.arb.grantOf s.onState) f = true) :
    let t := s.returnOne quiet f
    (∀ g, (t.valve.route g).primary = (s.valve.route g).primary ∧ (t.valve.route g).alternate = (s.valve.route g).alternate ∧
      (t.valve.route g).kind = if g = f then .primary else (s.valve.route g).kind) ∧
    t.valve.Resolved ∧ s.TakesFailed t := by
  let w := (s.valve.setRoute f { s.valve.route f with kind := .primary }).resolve
  let y := s.modValve fun _ => w
  let x := if quiet then y else y.report (.channel (s.valve.route f).primary (w.channel (s.valve.route f).primary).state
    (routeNotes s.valve w))
  have ht : s.returnOne quiet f = x.takeNewlyFailed s.valve := if_pos h
  have hx : ∃ l, x = { y with link := l } := by
    cases quiet with
    | true => exact ⟨_, rfl⟩
    | false => exact ⟨_, rfl⟩
  obtain ⟨l, hl⟩ := hx
  have hxw : x.arb.waiting = [] := by rw [hl]; exact hw
  have hxv : x.valve = w := (congrArg State.valve hl :)
  have hvalve := (takeNewlyFailed_frame (v := s.valve) hxw).1
  intro t
  have htv : t.valve = w := (congrArg State.valve ht :).trans (hvalve.trans hxv)
  refine ⟨fun g => ?_, ?_, ?_⟩
  · rw [htv, Valve.resolve_route, Valve.setRoute_route hlen]
    by_cases hg : g = f
    · simp [hg]
    · simp [hg]
  · rw [htv]
    exact Valve.resolve_resolved _
  · refine State.takesFailed (x := x) (by rw [hl]; rfl) (by rw [hl]; rfl) (by rw [hl]; rfl) (by rw [hl]; rfl) hxw
      (congrArg State.seq ht :) (congrArg State.store ht :) (congrArg State.bits ht :) (.inl (congrArg State.idx ht :)) fun g => ?_
    rw [htv, hxv]

end

/-! ### The reading -/

theorem Channel.eq_of_fixed {c d : Channel} (h : c.fixed = d.fixed) :
    c.current = d.current ∧ c.state = d.state ∧ c.lowCount = d.lowCount :=
  ⟨(congrArg Channel.current h :), (congrArg Channel.state h :), (congrArg Channel.lowCount h :)⟩

section
variable {s t : State} {cur : List Nat} {i : Nat}

/-- A fault that is the only change of a channel's state is the only one the reading finds. -/
theorem State.only_fault (hlen : s.valve.channels.length = 20)
    (htaken : ∀ j < 20, (t.valve.channel j).fixed = ((s.valve.channel j).taken (cur.getD j 0)).fixed)
    (hi : i < 20) (hok : (s.valve.channel i).state = .ok) (hbad : (t.valve.channel i).state ≠ .ok)
    (hothers : ∀ j < 20, j ≠ i → (t.valve.channel j).state = (s.valve.channel j).state) :
    ∃ st, (t.valve.channel i).state = st ∧ st ≠ .ok ∧ (s.valve.readAll cur).faults = [(i, st)] := by
  have hmem : ∀ j st, (j, st) ∈ (s.valve.readAll cur).faults ↔ j < 20 ∧ ((s.valve.channel j).read (cur.getD j 0)).fault = some st := by
    intro j st
    rw [Valve.mem_faults, Valve.readAll_length, hlen]
    exact and_congr_right fun hj => by rw [Valve.readAll_channel _ _ (by rw [hlen]; exact hj)]
  have hstate : ∀ j < 20, ∀ st, ((s.valve.channel j).read (cur.getD j 0)).fault = some st →
      (s.valve.channel j).state = .ok ∧ (t.valve.channel j).state = st ∧ st ≠ .ok := by
    intro j hj st hf
    obtain ⟨hread, hne⟩ := ChState.faulted_of_fault hf
    refine ⟨hread, (Channel.eq_of_fixed (htaken j hj)).2.1.trans ?_, hne⟩
    simp only [Channel.taken, hf, Channel.faulted]
  obtain ⟨st, hf⟩ : ∃ st, ((s.valve.channel i).read (cur.getD i 0)).fault = some st := by
    cases hf : ((s.valve.channel i).read (cur.getD i 0)).fault with
    | some st => exact ⟨st, rfl⟩
    | none =>
      refine absurd ((Channel.eq_of_fixed (htaken i hi)).2.1.trans ?_) hbad
      simp only [Channel.taken, hf]
      exact hok
  obtain ⟨-, hst, hne⟩ := hstate i hi st hf
  refine ⟨st, hst, hne, List.singleton_of_nodup (Valve.faults_nodup _) ((hmem i st).2 ⟨hi, hf⟩) fun x hx => ?_⟩
  refine Classical.byContradiction fun hxi => ?_
  obtain ⟨hx20, hxf⟩ := (hmem x.1 x.2).1 hx
  obtain ⟨hxok, hxst, hxne⟩ := hstate x.1 hx20 x.2 hxf
  exact hxne (hxst.symm.trans ((hothers x.1 hx20 hxi).trans hxok))

theorem State.currentReading_one {st : ChState} (h : (s.valve.readAll cur).faults = [(i, st)]) :
    s.currentReading cur = (s.modValve fun v => v.readAll cur).channelFault (i, st) := by
  unfold State.currentReading
  dsimp only
  rw [show (s.modValve fun v => v.readAll cur).valve.faults = [(i, st)] from h]
  rfl

end

theorem routeNotes_congr {v w w' : Valve} (h : ∀ f, w.route f = w'.route f) : routeNotes v w = routeNotes v w' := by
  have hnote : w.note = w'.note := funext fun f => by simp only [Valve.note, Valve.isFailed, h]
  unfold routeNotes changedFns
  simp only [hnote, h]

/-- Settles O45. -/
theorem currentReadingFindsFaults : Obligations.CurrentReadingFindsFaults := by
  refine ⟨fun cur s hpow hlen => ?_, fun quiet f s hlen hw => ?_⟩
  · let y := s.currentReading cur
    obtain ⟨l, hl, haround, hchannels⟩ := s.currentReading_outer cur
    obtain ⟨t, ht⟩ : ∃ t, t = s.finish y := ⟨_, rfl⟩
    have houter : t.outer = y.outer := ht ▸ State.outer_finish s y
    have hta : t.around = s.around := (State.around_of_outer houter).trans haround
    have htc := (outer_channels houter).trans hchannels
    have htaken : ∀ i < 20, (t.valve.channel i).fixed = ((s.valve.channel i).taken (cur.getD i 0)).fixed :=
      fun i hi => State.read_channel hl htc (by rw [hlen]; exact hi)
    have hlength : t.valve.channels.length = 20 := by
      have h := congrArg List.length htc
      rw [faultChannels_length, List.length_map, List.length_map, Valve.readAll_length] at h
      exact h.trans hlen
    have hylen : y.valve.channels.length = 20 := by
      have h := congrArg List.length (outer_channels houter)
      rw [List.length_map, List.length_map] at h
      exact h.symm.trans hlength
    refine ⟨t, ht ▸ congrArg Host.Outcome.next (if_pos hpow), hlength, State.keeps_of_around hta, fun i hi => ?_,
      fun hcalm _ _ => ?_⟩
    · intro c c' ma low
      obtain ⟨hma, hkept, hshort, hopen, hgood⟩ := Channel.taken_cases c (cur.getD i 0)
      obtain ⟨hcurrent, hstate, hlow⟩ := Channel.eq_of_fixed (htaken i hi)
      have hduty : c'.state ≠ .ok → c'.duty = 0 := by
        have h := State.finish_duty (s0 := s) (s := y) (i := i) (by rw [hylen]; exact hi)
        rw [← ht] at h
        exact h
      rw [← hcurrent] at hma
      rw [← hstate, ← hlow] at hkept hshort hopen hgood
      refine ⟨hma, hkept, fun h1 h2 => ?_, fun h1 h2 h3 => ?_, hgood⟩
      · obtain ⟨hs, hl⟩ := hshort h1 h2
        exact ⟨hs, hl, hduty (by rw [hs]; exact ChState.noConfusion)⟩
      · obtain ⟨hs, hl⟩ := hopen h1 h2 h3
        exact ⟨hs, hl, hduty (by rw [hs]; exact ChState.noConfusion)⟩
    · intro i hi hok hbad hothers
      obtain ⟨st, hst, hne, hfaults⟩ := State.only_fault hlen htaken hi hok hbad hothers
      obtain ⟨hroute, hres, htakes, htold⟩ := State.channelFault_ends (s := s.modValve fun v => v.readAll cur) hcalm s hne (i := i)
      rw [← State.currentReading_one hfaults, ← ht] at hroute hres htakes htold
      have hfixed : t.valve.channels.map Channel.fixed =
          ((s.valve.readAll cur).faulted i st).channels.map Channel.fixed := by
        rw [Valve.faulted_fixed, outer_channels houter, show y = _ from State.currentReading_one hfaults]
        exact (State.channelFault_outer _ _).2
      refine ⟨fun g _ => ?_, hres, htakes, fun hroom => ?_⟩
      · have hg := Valve.faulted_route (v := s.valve.readAll cur) (State.calm_routes hcalm) i st g
        have hok : ∀ n, t.valve.chOk n = ((s.valve.readAll cur).faulted i st).chOk n := Valve.chOk_congr hfixed
        rw [show ((s.valve.readAll cur).faulted i st).route g = t.valve.route g from (hroute g).symm] at hg
        simp only [← hok] at hg
        exact hg
      · refine (htold hroom).trans ?_
        have hnotes : routeNotes s.valve ((s.valve.readAll cur).faulted i st) = routeNotes s.valve t.valve :=
          routeNotes_congr fun f => (hroute f).symm
        have hchanged : allFns.filter (fun g => s.valve.moved t.valve g) = changedFns s.valve t.valve := (changedFns_eq _ _).symm
        rw [hchanged, hst]
        exact congrArg (fun n => some (Report.channel i st n)) hnotes
  · intro r rest may t
    have hmay : may ↔ s.valve.mayReturn (atRest s.arb.grantOf s.onState) f = true := by
      rw [Valve.mayReturn_iff]
      have hrest : rest ↔ atRest s.arb.grantOf s.onState f = true := by
        cases f with
        | index => simp only [rest, atRest, decide_eq_true_eq]
        | tram => simp only [rest, atRest, State.onState, Bool.not_eq_true']
        | boom b k =>
          cases k with
          | flush => simp only [rest, atRest, Bool.not_eq_true']
          | _ => simp only [rest, atRest, decide_eq_true_eq]
      simp only [may, hrest]
      rfl
    refine ⟨fun h => if_neg (fun hm => h (hmay.2 hm)), fun h => ?_⟩
    obtain ⟨hroute, hres, htakes⟩ := State.returnOne_returns (quiet := quiet) hlen hw (hmay.1 h)
    exact ⟨fun g _ => hroute g, hres, fun _ => htakes⟩

end Sys2Proof.Machine
end

section
namespace Sys2Proof.Machine

/-! The proofs are elaborated one after another: side by side, so many ask for more threads than the memory holds. -/
set_option Elab.async false

/-! ### Rotation pulses (R106, R187) -/

section
variable {s : State} {b : Boom} {r : HoleRecord}

theorem Rotation.pulse_eq (o : Rotation) : o.pulse = { o with
    samplePulses := min 255 (o.samplePulses + 1)
    last := if o.pulseSeen = true ∧ o.noRotation = false then some (o.interval, o.shift) else o.last
    interval := 0, noRotation := false, pulseSeen := true } := by
  simp [Rotation.pulse]

theorem State.modRot_pulse (s : State) (b : Boom) : s.modRot b Rotation.pulse = { s with rot := s.rot.set b { s.rot.get b with
    samplePulses := min 255 ((s.rot.get b).samplePulses + 1)
    last := if (s.rot.get b).pulseSeen = true ∧ (s.rot.get b).noRotation = false then
      some ((s.rot.get b).interval, (s.rot.get b).shift) else (s.rot.get b).last
    interval := 0, noRotation := false, pulseSeen := true } } := by
  rw [State.modRot, Rotation.pulse_eq]

/-- A pulse that does not complete a mix counts in it (R106). -/
theorem State.mixPulse_counts (hq : (s.seq.get b).state = .mixing) (hrec : s.rec? b = some r)
    (h : (s.sett.get b).mixPulses + 1 < r.param P.mixRevs * 60) :
    s.mixPulse b = { s with sett := s.sett.set b { s.sett.get b with mixPulses := (s.sett.get b).mixPulses + 1 } } := by
  unfold State.mixPulse
  rw [if_pos hq]
  refine if_neg (Nat.not_le.2 ?_)
  rw [State.mixGoal, State.hp_of_rec (s := s.modSett b fun c => { c with mixPulses := c.mixPulses + 1 }) hrec]
  exact Nat.lt_of_le_of_lt (Nat.le_of_eq (congrArg Setting.mixPulses (PerBoom.get_set_same _ _ _))) h

/-- The entry into GEL_HOLD: the hold time, written with elapsed time 0, and the gel hold timer from zero (R110, R111). -/
theorem State.enterGelHold_eq (hfree : s.blocked b .gelHold = false) (hrec : s.rec? b = some r) :
    let q := { (s.seq.get b).entering .gelHold false with holdComplete := false }
    let t := (s.head.get b).temp
    let hold := max 5 (min 1200 ((r.param P.fastGelBase * gelFactor t + 50) / 100))
    s.enterGelHold b = ({ s with
      seq := s.seq.set b q
      sett := s.sett.set b { s.sett.get b with
        stage := .hold, gelTemp := t, gelFactor := gelFactor t, holdTime := hold
        gelTimer := { running := true, ticks := 0 }, feedUp := r.param P.holdFeedFlow, rotFwd := 0 }
      store := { s.store with opened := s.store.opened.set b (some { r with
        gel := some { temp := t, factor := gelFactor t, hold := hold, elapsed := 0 } }) } }).report
      (phaseNote b (s.seq.get b).state q) := by
  intro q t hold
  unfold State.enterGelHold
  rw [if_neg (ne_true_of_eq_false hfree), State.enterPhase_eq]
  unfold State.startHold
  dsimp only
  rw [State.modRec_of_rec (r := r) (by exact hrec), State.hp_of_rec (r := r) (by exact hrec),
    State.hp_of_rec (r := r) (by exact hrec)]
  rfl

/-! #### The deferred causes in GEL_HOLD (R23, R24) -/

theorem CauseSet.add_of_has {c : CauseSet} {k : Cause} (h : c.has k = true) : c.add k = c := by
  obtain ⟨o, si, g, sc, f⟩ := c
  cases k with
  | _ => simpa [CauseSet.has, CauseSet.add] using h.symm

/-- A set is what its members make of the empty set. -/
theorem CauseSet.foldl_add_toList (c : CauseSet) : c.toList.foldl CauseSet.add .empty = c := by
  obtain ⟨o, si, g, sc, f⟩ := c
  cases o <;> cases si <;> cases g <;> cases sc <;> cases f <;> rfl

theorem State.arriveBasic_paused (c : Cause) {q : Sequencer} (hq : s.seq.get b = q) (hp : q.state = .paused) :
    ∃ k, s.arriveBasic b c = { s with seq := s.seq.set b { q with causes := q.causes.add c }, link := k } := by
  unfold State.arriveBasic
  dsimp only
  rw [hq, if_pos hp]
  by_cases hc : q.causes.has c = true
  · rw [if_pos hc, CauseSet.add_of_has hc]
    refine ⟨s.link, ?_⟩
    rw [show ({ q with causes := q.causes } : Sequencer) = q from rfl, ← hq, PerBoom.set_get]
  · rw [if_neg hc, State.modSeq_notePhase, hq]
    exact ⟨_, rfl⟩

/-- Causes that arrive at a PAUSED boom join its set. -/
theorem State.foldl_arriveBasic_paused (l : List Cause) {q : Sequencer} (hq : s.seq.get b = q) (hp : q.state = .paused) :
    ∃ k, l.foldl (fun s c => s.arriveBasic b c) s =
      { s with seq := s.seq.set b { q with causes := l.foldl CauseSet.add q.causes }, link := k } := by
  induction l generalizing s q with
  | nil =>
    refine ⟨s.link, ?_⟩
    rw [List.foldl_nil, List.foldl_nil, show ({ q with causes := q.causes } : Sequencer) = q from rfl, ← hq, PerBoom.set_get]
  | cons c l ih =>
    obtain ⟨k, hk⟩ := State.arriveBasic_paused c hq hp
    obtain ⟨k', hk'⟩ := ih (s := { s with seq := s.seq.set b { q with causes := q.causes.add c }, link := k })
      (PerBoom.get_set_same _ _ _) hp
    refine ⟨k', ?_⟩
    rw [List.foldl_cons, hk, hk', PerBoom.set_set, List.foldl_cons]

/-- A Sequencer in GEL_HOLD once it has taken its deferred causes. -/
def Sequencer.heldBy (q : Sequencer) (d : CauseSet) : Sequencer :=
  if d = .empty then q
  else { q with
    state := .paused, returnPhase := some .gelHold, causes := d, timer := { q.timer with running := false }
    jackUp := 0, jackDown := 0, feedDown := 0 }

theorem State.pauseBoom_held (c : Cause) {q : Sequencer} (hq : s.seq.get b = q) (hg : q.state = .gelHold) :
    s.pauseBoom b c = ({ s with seq := s.seq.set b (q.suspended .gelHold c) }).report
      (phaseNote b .gelHold (q.suspended .gelHold c)) := by
  have hgov : (s.gov.get b).suspended .gelHold = s.gov.get b := if_neg (by simp)
  have hsett : (s.sett.get b).pause .gelHold = s.sett.get b := rfl
  rw [State.pauseBoom_eq, hq, hg, hgov, hsett, PerBoom.set_get, PerBoom.set_get]

/-- The deferred causes of a mix that has ended suspend GEL_HOLD, or leave it where there are none (R23, R24). -/
theorem State.takeDeferred_held {q : Sequencer} (hq : s.seq.get b = q) (hg : q.state = .gelHold) (hd : q.deferredAbort = false) :
    ∃ k, s.takeDeferred b =
      { s with seq := s.seq.set b (Sequencer.heldBy { q with deferred := .empty } q.deferred), link := k } := by
  let y : State := { s with seq := s.seq.set b { q with deferred := .empty } }
  have hy : y.seq.get b = { q with deferred := .empty } := PerBoom.get_set_same _ _ _
  have htake : s.takeDeferred b = q.deferred.toList.foldl (fun s c => s.arriveBasic b c) y := by
    subst hq
    unfold State.takeDeferred
    rw [if_neg (by rw [hd]; exact Bool.false_ne_true)]
    rfl
  have hlist := q.deferred.foldl_add_toList
  rw [htake]
  cases hl : q.deferred.toList with
  | nil =>
    rw [hl] at hlist
    have hheld : Sequencer.heldBy { q with deferred := .empty } q.deferred = { q with deferred := .empty } := if_pos hlist.symm
    rw [hheld]
    exact ⟨s.link, rfl⟩
  | cons c l =>
    rw [hl] at hlist
    have hne : q.deferred ≠ .empty := fun h => by rw [h] at hl; cases hl
    have hfirst : y.arriveBasic b c = y.pauseBoom b c := by
      unfold State.arriveBasic
      dsimp only
      rw [hy, if_neg (by simp [hg]), if_pos (by simp [hg, Phase.automatic])]
    obtain ⟨k, hk⟩ := State.foldl_arriveBasic_paused (b := b) l (s := State.report { y with
        seq := y.seq.set b (Sequencer.suspended .gelHold c { q with deferred := .empty }) } (phaseNote b .gelHold
          (Sequencer.suspended .gelHold c { q with deferred := .empty }))) (PerBoom.get_set_same _ _ _) rfl
    have hcauses : l.foldl CauseSet.add (CauseSet.empty.add c) = q.deferred := hlist
    have hheld : Sequencer.heldBy { q with deferred := .empty } q.deferred =
        { Sequencer.suspended .gelHold c { q with deferred := .empty } with causes := q.deferred } := if_neg hne
    rw [List.foldl_cons, hfirst, State.pauseBoom_held c hy hg, hheld]
    refine ⟨k, hk.trans ?_⟩
    simp only [State.report, State.modLink, y, PerBoom.set_set, Sequencer.suspended, hcauses]

/-- The pulse that completes the mix: its result, the hold time, GEL_HOLD and the deferred causes (R24, R106, R107, R110). -/
theorem State.mixPulse_completes (hq : (s.seq.get b).state = .mixing) (hrec : s.rec? b = some r)
    (h : r.param P.mixRevs * 60 ≤ (s.sett.get b).mixPulses + 1) (hd : (s.seq.get b).deferredAbort = false)
    (hfree : s.blocked b .gelHold = false) :
    let c := s.sett.get b
    let t := (s.head.get b).temp
    let hold := max 5 (min 1200 ((r.param P.fastGelBase * gelFactor t + 50) / 100))
    let held := { (s.seq.get b).entering .gelHold false with deferred := .empty, holdComplete := false }
    ∃ k, s.mixPulse b = { s with
      seq := s.seq.set b (held.heldBy (s.seq.get b).deferred)
      sett := s.sett.set b { c with
        stage := .hold, mixPulses := c.mixPulses + 1, gelTemp := t, gelFactor := gelFactor t, holdTime := hold
        gelTimer := { running := true, ticks := 0 }, feedUp := r.param P.holdFeedFlow, rotFwd := 0 }
      store := { s.store with opened := s.store.opened.set b (some { r with
        mix := some { pulses := c.mixPulses + 1, revs := (c.mixPulses + 1) / 60, timeMs := (s.seq.get b).timer.ms
                      stallSeen := c.stallSeen, ending := .complete }
        gel := some { temp := t, factor := gelFactor t, hold := hold, elapsed := 0 } }) }
      link := k } := by
  intro c t hold held
  let y := s.modSett b fun c => { c with mixPulses := c.mixPulses + 1 }
  have hyc : y.sett.get b = { c with mixPulses := c.mixPulses + 1 } := PerBoom.get_set_same _ _ _
  have hgoal : y.mixGoal b ≤ (y.sett.get b).mixPulses := by
    rw [State.mixGoal, State.hp_of_rec (s := y) hrec, hyc]
    exact h
  let r' : HoleRecord := { r with mix := some {
    pulses := c.mixPulses + 1, revs := (c.mixPulses + 1) / 60, timeMs := (s.seq.get b).timer.ms
    stallSeen := c.stallSeen, ending := .complete } }
  let z : State := { s with
    sett := s.sett.set b { c with mixPulses := c.mixPulses + 1, rotFwd := 0 }
    store := { s.store with opened := s.store.opened.set b (some r') } }
  have hz : (y.writeMix b .complete).modSett b (fun c => { c with rotFwd := 0 }) = z := by
    unfold State.writeMix
    rw [State.modRec_of_rec (s := y) hrec, hyc]
    simp only [State.modSett, z, y, PerBoom.get_set_same, PerBoom.set_set]
    rfl
  have hmix : s.mixPulse b = (z.enterGelHold b).takeDeferred b := by
    rw [← hz]
    exact (if_pos hq).trans (if_pos hgoal)
  rw [hmix, State.enterGelHold_eq (s := z) (r := r') hfree (PerBoom.get_set_same _ _ _)]
  obtain ⟨k, hk⟩ := State.takeDeferred_held (b := b) (s := State.report { z with
      seq := z.seq.set b { (z.seq.get b).entering .gelHold false with holdComplete := false }
      sett := z.sett.set b { z.sett.get b with
        stage := .hold, gelTemp := t, gelFactor := gelFactor t, holdTime := hold
        gelTimer := { running := true, ticks := 0 }, feedUp := r.param P.holdFeedFlow, rotFwd := 0 }
      store := { z.store with opened := z.store.opened.set b (some { r' with
        gel := some { temp := t, factor := gelFactor t, hold := hold, elapsed := 0 } }) } }
      (phaseNote b (z.seq.get b).state { (z.seq.get b).entering .gelHold false with holdComplete := false }))
    (PerBoom.get_set_same _ _ _) rfl hd
  refine ⟨k, hk.trans ?_⟩
  simp only [State.report, State.modLink, z, PerBoom.set_set, PerBoom.get_set_same]
  rfl

end

/-! ### Overflows (R72, R73, R108, R116, R188) -/

section
variable {s : State} {b : Boom} {r : HoleRecord}

/-- An overflow that is no stall (R72). -/
theorem State.takeOverflow_quiet (hm : (s.seq.get b).state ≠ .mixing) (ht : (s.seq.get b).state ≠ .torquing)
    (h : s.isStall b = false) : s.takeOverflow b = s := by
  unfold State.takeOverflow
  dsimp only
  split
  · next hq => exact absurd hq hm
  · next hq => exact absurd hq ht
  · exact if_neg (ne_true_of_eq_false h)

/-- A stall: the first backs off, the second halts (R73, R75). -/
theorem State.takeOverflow_stalls (h : s.isStall b = true) : s.takeOverflow b =
    if s.secondStall b then s.halt b .drillStall .interrupted else s.startBackoff b := by
  have hdrill : (s.seq.get b).state = .collaring ∨ (s.seq.get b).state = .drilling := by
    simp only [State.isStall, Bool.and_eq_true, Bool.or_eq_true, decide_eq_true_eq] at h
    exact h.1.1.1
  unfold State.takeOverflow
  dsimp only
  split
  · next hq => simp [hq] at hdrill
  · next hq => simp [hq] at hdrill
  · exact if_pos h

theorem State.isStall_iff : s.isStall b = true ↔ ((s.seq.get b).state = .collaring ∨ (s.seq.get b).state = .drilling) ∧
    (s.gov.get b).stage ≠ .off ∧ (s.gov.get b).backingOff = false ∧ 0 < s.arb.grantOf (.boom b .rotFwd) := by
  simp only [State.isStall, Bool.and_eq_true, Bool.or_eq_true, decide_eq_true_eq, Bool.not_eq_true', and_assoc, ne_eq]

/-- A Governor that begins a back-off (R73). -/
def Governor.backedOff (r : HoleRecord) (g : Governor) : Governor :=
  { g with
    backingOff := true, backoffTarget := g.lastFeed - r.param P.stallBackoff * 10
    feedUp := 0, rotFwd := 0, feedDown := r.param P.approachFeed * r.param P.feedFlowScale, flush := true }

theorem State.startBackoff_approach (hrec : s.rec? b = some r) (h : (s.gov.get b).stage = .approach) :
    s.startBackoff b = { s with gov := s.gov.set b (({ s.gov.get b with approachStall := true } : Governor).backedOff r) } := by
  unfold State.startBackoff
  dsimp only
  rw [if_pos h]
  simp only [State.modGov, PerBoom.get_set_same, PerBoom.set_set, State.backoffDemands, State.approachFlow]
  rw [State.hp_of_rec (r := r) (by exact hrec), State.hp_of_rec (r := r) (by exact hrec), State.hp_of_rec (r := r) (by exact hrec)]
  rfl

theorem State.startBackoff_contact {x : OpenSeg} (hrec : s.rec? b = some r) (h : (s.gov.get b).stage ≠ .approach)
    (hx : (s.prof.get b).openSeg = some x) : s.startBackoff b = { s with
      prof := s.prof.set b { s.prof.get b with openSeg := some { x with flags := { x.flags with stallRetry := true } } }
      gov := s.gov.set b ((s.gov.get b).backedOff r) } := by
  unfold State.startBackoff
  dsimp only
  rw [if_neg h]
  simp only [State.modGov, State.modProf, State.backoffDemands, State.approachFlow, hx]
  rw [State.hp_of_rec (r := r) (by exact hrec), State.hp_of_rec (r := r) (by exact hrec), State.hp_of_rec (r := r) (by exact hrec)]
  rfl

end

end Sys2Proof.Machine
end

section
namespace Sys2Proof.Machine

/-! The proofs are elaborated one after another: side by side, so many ask for more threads than the memory holds. -/
set_option Elab.async false

/-! ### The end of a boom's drilling (R54, R55, R69, R70) -/

section
variable {s : State} {b : Boom} {r : HoleRecord}

/-- A remnant of 5 mm or more is entered as a PARTIAL segment (R54). -/
theorem State.takeRemnant_appends {x : OpenSeg} (hrec : s.rec? b = some r) (hx : (s.prof.get b).openSeg = some x)
    (hlen : 50 ≤ x.lseg) : ((s.takeRemnant b).rec? b).map HoleRecord.unworn =
      some (r.appended (s.closingEntry b false true x r)).unworn := by
  obtain ⟨l, -, hclose⟩ := State.closeSegment_eq false true hx hrec
  have htake : s.takeRemnant b = s.closeSegment b false true := by
    unfold State.takeRemnant
    rw [hx]
    exact if_pos hlen
  rw [htake, hclose]
  refine ((State.WearOnly.handWork _ b x).record b).trans ?_
  exact congrArg (Option.map HoleRecord.unworn) (PerBoom.get_set_same _ _ _)

/-- What the end of drilling leaves of boom `b`: its Profiler ENDED, its Governor OFF, and in the record the drilled
depth, the outcome and the Layer List of the segments that `y` holds once the remnant is taken. -/
structure State.DrillEnded (s : State) (b : Boom) (r : HoleRecord) (t : State) : Prop where
  prof : ∃ n, t.prof.get b = { s.prof.get b with mode := .ended, openSeg := none, nextTop := n }
  gov : (t.gov.get b).stage = .off
  record : ∃ y, (s.takeRemnant b).rec? b = some y ∧ y.undrilled = r.undrilled ∧ t.rec? b = some { y with
    drilledDepth := some (s.prof.get b).maxDepth, layers := some (buildLayers y.segments)
    drillOutcome := some (if r.spec.planned * 10 ≤ (s.prof.get b).maxDepth then .planned else .shortByPlan) }

theorem State.leaveDrilling_ended (hrec : s.rec? b = some r) : s.DrillEnded b r (s.leaveDrilling b) := by
  obtain ⟨n, hprof⟩ := State.leaveDrilling_prof s b
  obtain ⟨g, hgov⟩ := State.leaveDrilling_gov s b
  exact ⟨⟨n, by rw [hprof, PerBoom.get_set_same]⟩, by rw [hgov]; rfl, State.leaveDrilling_rec hrec⟩

theorem State.leaveDrilling_calm (s : State) (b : Boom) : (s.leaveDrilling b).calm = s.calm := by
  obtain ⟨l, p, g, o, bs, hy⟩ := (State.DrillOnly.leaveDrilling (b := b) s).frame
  rw [hy]
  rfl

theorem State.leavePhase_drilling {e : MixEnd} (hp : s.phase b = .collaring ∨ s.phase b = .drilling) :
    s.leavePhase b e = s.leaveDrilling b :=
  if_pos (by simpa using hp)

/-- A state that differs from one that has ended its drilling in other pieces. -/
theorem State.DrillEnded.congr {t u : State} (h : s.DrillEnded b r t) (hprof : u.prof = t.prof)
    (hgov : (u.gov.get b).stage = (t.gov.get b).stage) (hstore : u.rec? b = t.rec? b) : s.DrillEnded b r u := by
  obtain ⟨hp, hg, y, hy, hund, hrec⟩ := h
  exact ⟨hprof ▸ hp, hgov.trans hg, y, hy, hund, hstore.trans hrec⟩

/-- A drilling boom that halts (R26, R55, R70). -/
theorem State.haltDrilling_ends {s0 : State} {reason : HaltReason} (hcalm : s.calm = true) (hrec : s.rec? b = some r)
    (hq : (s.seq.get b).state = .collaring ∨ (s.seq.get b).state = .drilling) :
    let t := s0.finish (s.halt b reason .interrupted)
    t.seq = s.seq.set b ((s.seq.get b).haltedWith reason) ∧ s.DrillEnded b r t ∧ ∀ k, t.asked (.boom b k) = 0 := by
  intro t
  have hstate : (s.seq.get b).state ≠ .paused ∧ (s.seq.get b).state ≠ .halted ∧ (s.seq.get b).state.reserves = false := by
    rcases hq with hq | hq <;> simp [hq, Phase.reserves]
  have hphase : s.phase b = (s.seq.get b).state := State.phase_eq hstate.1
  let y := s.leaveDrilling b
  have hhalt := State.halt_unreserved (s := s) (b := b) (e := .interrupted) reason hstate.2.1 (by rw [hphase]; exact hstate.2.2)
    (State.leavePhase_drilling (by rw [hphase]; exact hq))
  have hcalmy : y.calm = true := (s.leaveDrilling_calm b).trans hcalm
  have hends : (s.halt b reason .interrupted).Ends t :=
    State.finish_ends_of_still (by rw [hhalt]; exact State.still_of_calm (by exact hcalmy))
  rw [hhalt] at hends
  have hseq : t.seq = s.seq.set b ((s.seq.get b).haltedWith reason) := hends.view State.seq
  obtain ⟨ft, hgov⟩ := hends.gov_eq b
  refine ⟨hseq, (State.leaveDrilling_ended hrec).congr (hends.view State.prof) ?_ (hends.view fun s => s.rec? b), ?_⟩
  · rw [hgov]
    rfl
  · exact fun k => State.asked_halted (q := (s.seq.get b).haltedWith reason) (by rw [hseq, PerBoom.get_set_same]) rfl rfl k

end

end Sys2Proof.Machine
end

section
namespace Sys2Proof.Machine

/-! The proofs are elaborated one after another: side by side, so many ask for more threads than the memory holds. -/
set_option Elab.async false

/-! ### Samples in TORQUING (R114, R115) -/

/-- The torquing figures after a sample of `n` pulses and torque `t` (R114). -/
def Setting.figures (c : Setting) (snugTorque n t : Nat) : Setting :=
  { c with
    turns := c.turns + n, peak := max c.peak t
    angle := if c.snug = none then c.angle else min 65535 (c.angle + n)
    snug := if c.snug = none ∧ snugTorque ≤ t then some (c.turns + n) else c.snug }

theorem Setting.torqueStep_eq (c : Setting) (snugTorque n t : Nat) : c.torqueStep snugTorque n t = c.figures snugTorque n t := by
  unfold Setting.torqueStep Setting.figures
  dsimp only
  cases h : c.snug with
  | some k => simp
  | none =>
    by_cases ht : snugTorque ≤ t
    · simp [ht]
    · simp [ht]

section
variable {s : State} {b : Boom} {r : HoleRecord}

/-- Boom `b` as verdict `v` on figures `c` leaves it: the record, the Controller OFF, the reservation released, and the
entry into RELEASING (R115, R116, R118). -/
def State.verdictOff (s : State) (b : Boom) (r : HoleRecord) (c : Setting) (v : Verdict) : State :=
  let q := s.releasedSeq b .verdict (s.seq.get b)
  ({ s with
    seq := s.seq.set b q
    store := { s.store with opened := s.store.opened.set b (some { r with
      torque := some { peak := c.peak, snug := c.snug, angle := c.angle, turns := c.turns, verdict := some v } }) }
    sett := s.sett.set b { c with stage := .off, feedUp := 0, rotFwd := 0, verdict := some v }
    arb := { s.arb with res := s.arb.res.set b { mark := .none, amount := 0 } } }).report (phaseNote b .torquing q)

theorem State.giveVerdict_off (v : Verdict) (hrec : s.rec? b = some r) (hq : (s.seq.get b).state = .torquing)
    (hmay : s.mayRelease b = true) (hw : s.arb.waiting = []) : s.giveVerdict b v = s.verdictOff b r (s.sett.get b) v := by
  refine (State.giveVerdict_eq v hrec hq hmay (by rw [hw]; rfl)).trans ?_
  unfold State.verdictOff
  simp only [Arbiter.freed, ← hw]

/-- A sample of TORQUING moves the figures; a verdict ends the phase (R114, R115). -/
theorem State.workSample_torque (hq : (s.seq.get b).state = .torquing) (hrec : s.rec? b = some r) (n : Nat) :
    let c := (s.sett.get b).figures (r.param P.snugTorque) n (s.head.get b).torque
    let y : State := { s with sett := s.sett.set b c }
    s.workSample b n = match c.judge (r.param P.torqueTarget) (r.param P.angleMin) (r.param P.angleMax) (s.head.get b).torque with
      | some v => y.giveVerdict b v
      | none => y := by
  intro c y
  have hstep : (s.modSett b fun c => c.torqueStep (s.hp b P.snugTorque) n (s.head.get b).torque) = y := by
    rw [State.hp_of_rec hrec]
    simp only [State.modSett, Setting.torqueStep_eq, y, c]
  have hyrec : y.rec? b = some r := hrec
  have hyc : y.sett.get b = c := PerBoom.get_set_same _ _ _
  unfold State.workSample State.torqueSample
  simp only [hq, hstep, hyc, State.hp_of_rec hyrec]
  cases c.judge (r.param P.torqueTarget) (r.param P.angleMin) (r.param P.angleMax) (s.head.get b).torque with
  | none => rfl
  | some v => rfl

theorem Setting.judge_none {c : Setting} {target amin amax t : Nat} (h : ¬ target ≤ t) (hlate : ¬ amax < c.angle) :
    c.judge target amin amax t = none := by
  simp only [Setting.judge, if_neg h, if_neg hlate]

theorem Setting.judge_early {c : Setting} {target amin amax t : Nat} (h : target ≤ t) (he : c.angle < amin) :
    c.judge target amin amax t = some .early := by
  simp only [Setting.judge, if_pos h, if_pos he]

theorem Setting.judge_slip {c : Setting} {target amin amax t : Nat} (hlate : amax < c.angle)
    (h : target ≤ t → ¬ c.angle < amin) : c.judge target amin amax t = some .slip := by
  by_cases ht : target ≤ t
  · simp only [Setting.judge, if_pos ht, if_neg (h ht), if_pos hlate]
  · simp only [Setting.judge, if_neg ht, if_pos hlate]

theorem Setting.judge_ok {c : Setting} {target amin amax t : Nat} (h : target ≤ t) (he : ¬ c.angle < amin)
    (hlate : ¬ amax < c.angle) : c.judge target amin amax t = some .ok := by
  simp only [Setting.judge, if_pos h, if_neg he, if_neg hlate]

/-! ### The Governor's targets and demands at a sample (R64 to R68, R74, R79) -/

theorem State.bandInForce_of_rec (hrec : s.rec? b = some r) : s.bandInForce b = r.bandAt (s.prof.get b).maxDepth := by
  simp only [State.bandInForce, State.bandCopy, hrec]
  rfl

theorem State.collarTargets_eq (hrec : s.rec? b = some r) (g : Governor) : s.collarTargets b g = g.withCollar r := by
  simp only [State.collarTargets, State.hp_of_rec hrec]
  rfl

theorem State.cutTargets_eq (hrec : s.rec? b = some r) (g : Governor) :
    s.cutTargets b g = g.withCut r (s.prof.get b).maxDepth := by
  have hlim : ∀ (o : Option Band) (f : Band → Nat) (v : Nat), bandLimit o f v =
      match o with
      | some x => if x.attr = .caution then min v (f x) else v
      | none => v := by
    intro o f v
    cases o with
    | none => rfl
    | some x => rfl
  have hk : (g.cls.getD .medium).rank = match g.cls with
      | none => 2
      | some c => c.rank := by
    cases g.cls with
    | none => rfl
    | some c => rfl
  simp only [State.cutTargets, Governor.withCut, State.hp_of_rec hrec, State.bandInForce_of_rec hrec, State.bandCopy, hrec,
    hlim, hk]
  rfl

/-- A Governor with the targets of its stage at maximum depth `d` (R65, R66, R79). -/
def Governor.targeted (r : HoleRecord) (d : Nat) (g : Governor) : Governor :=
  match g.stage with
  | .collar => g.withCollar r
  | .climb => g.withCollar r
  | .cut => g.withCut r d
  | .approach => g
  | .off => g

theorem State.stageTargets_eq (hrec : s.rec? b = some r) (g : Governor) :
    s.stageTargets b g = g.targeted r (s.prof.get b).maxDepth := by
  unfold State.stageTargets Governor.targeted
  cases g.stage with
  | collar => exact State.collarTargets_eq hrec g
  | climb => exact State.collarTargets_eq hrec g
  | cut => exact State.cutTargets_eq hrec g
  | approach => rfl
  | off => rfl

/-- The approach demands (R64). -/
def Governor.approaching (r : HoleRecord) (g : Governor) : Governor :=
  { g with feedUp := r.param P.approachFeed * r.param P.feedFlowScale, feedDown := 0
           rotFwd := r.param P.collarRpm * r.param P.rotDisplacement / 100, flush := true }

/-- The Governor's demands while the retry state is READY (R64, R68). -/
def Governor.demanding (r : HoleRecord) (t : Nat) (g : Governor) : Governor :=
  if g.stage = .approach then g.approaching r else g.driving r t

theorem State.targetDemands_eq (hrec : s.rec? b = some r) (t : Nat) (g : Governor) : s.targetDemands b t g = g.driving r t := by
  simp only [State.targetDemands, State.rotFlow, State.hp_of_rec hrec]
  rfl

theorem State.approachDemands_eq (hrec : s.rec? b = some r) (g : Governor) : s.approachDemands b g = g.approaching r := by
  simp only [State.approachDemands, State.approachFlow, State.rotFlow, State.hp_of_rec hrec]
  rfl

/-- A Governor at a sample of feed position `f` and thrust `t`: the band and the targets at maximum depth `d`, and the
demands but in a back-off that has not reached its target (R62 to R68, R74). -/
def Governor.sampledAt (r : HoleRecord) (d f t : Nat) (g : Governor) : Governor :=
  let g' := Governor.targeted r d { g with band := r.bandAt d }
  if g.backingOff = true ∧ g.backoffTarget < f then g' else Governor.demanding r t { g' with backingOff := false }

theorem State.stageDemands_eq (hrec : s.rec? b = some r) :
    let g := Governor.targeted r (s.prof.get b).maxDepth { s.gov.get b with band := r.bandAt (s.prof.get b).maxDepth }
    s.stageDemands b = { s with gov := s.gov.set b (if g.backingOff then g else g.demanding r (s.head.get b).thrust) } := by
  intro g
  simp only [State.stageDemands, State.modGov, State.bandInForce_of_rec hrec, State.stageTargets_eq hrec,
    State.targetDemands_eq hrec, State.approachDemands_eq hrec]
  rfl

/-- The targets read the stage and the class, and leave the retry state and the demands. -/
theorem Governor.targeted_with (r : HoleRecord) (d : Nat) (g : Governor) (o : Bool) (n : Nat) :
    Governor.targeted r d { g with backingOff := o, feedDown := n } =
      { Governor.targeted r d g with backingOff := o, feedDown := n } := by
  unfold Governor.targeted
  cases h : g.stage with
  | _ => simp only [Governor.withCollar, Governor.withCut, h]

theorem Governor.targeted_backingOff (r : HoleRecord) (d : Nat) (g : Governor) :
    (Governor.targeted r d g).backingOff = g.backingOff := by
  unfold Governor.targeted
  cases g.stage with
  | _ => rfl

theorem Governor.demanding_with (r : HoleRecord) (t : Nat) (g : Governor) (n : Nat) :
    ({ g with feedDown := n } : Governor).demanding r t = g.demanding r t := by
  unfold Governor.demanding
  dsimp only
  split
  · rfl
  · rfl

theorem State.endBackoff_stageDemands (hrec : s.rec? b = some r) :
    let g := s.gov.get b
    let f := (s.head.get b).feed
    (s.endBackoff b).stageDemands b = { s with
      rot := if g.backingOff = true ∧ f ≤ g.backoffTarget then s.rot.set b (s.rot.get b).cleared else s.rot
      gov := s.gov.set b (g.sampledAt r (s.prof.get b).maxDepth f (s.head.get b).thrust) } := by
  intro g f
  let d := (s.prof.get b).maxDepth
  by_cases hended : g.backingOff = true ∧ f ≤ g.backoffTarget
  · let y : State := { s with gov := s.gov.set b { g with backingOff := false, feedDown := 0 }
                              rot := s.rot.set b (s.rot.get b).cleared }
    have hend : s.endBackoff b = y := if_pos (by simpa using hended)
    have hg : y.gov.get b = { g with backingOff := false, feedDown := 0 } := PerBoom.get_set_same _ _ _
    have hsample : g.sampledAt r d f (s.head.get b).thrust =
        Governor.demanding r (s.head.get b).thrust { Governor.targeted r d { g with band := r.bandAt d } with backingOff := false } :=
      if_neg fun h => absurd h.2 (Nat.not_lt.2 hended.2)
    have htarget : Governor.targeted r d { ({ g with backingOff := false, feedDown := 0 } : Governor) with band := r.bandAt d } =
        { Governor.targeted r d { g with band := r.bandAt d } with backingOff := false, feedDown := 0 } :=
      Governor.targeted_with r d { g with band := r.bandAt d } false 0
    rw [hend, State.stageDemands_eq (s := y) hrec, hg, if_pos hended, hsample, show (y.prof.get b).maxDepth = d from rfl, htarget]
    simp only [y, PerBoom.set_set, Bool.false_eq_true, if_false]
    rw [← Governor.demanding_with r _ { Governor.targeted r d { g with band := r.bandAt d } with backingOff := false } 0]
  · have hend : s.endBackoff b = s := if_neg (by simpa using hended)
    have hoff := Governor.targeted_backingOff r d { g with band := r.bandAt d }
    rw [hend, State.stageDemands_eq hrec, if_neg hended]
    cases hback : g.backingOff with
    | true =>
      have hpast : g.backoffTarget < f := Nat.lt_of_not_le fun h => hended ⟨hback, h⟩
      have hsample : g.sampledAt r d f (s.head.get b).thrust = Governor.targeted r d { g with band := r.bandAt d } :=
        if_pos ⟨hback, hpast⟩
      rw [hsample, if_pos (hoff.trans hback)]
    | false =>
      have hsample : g.sampledAt r d f (s.head.get b).thrust = Governor.demanding r (s.head.get b).thrust
          { Governor.targeted r d { g with band := r.bandAt d } with backingOff := false } :=
        if_neg fun h => absurd h.1 (ne_true_of_eq_false hback)
      have hsame : ({ Governor.targeted r d { g with band := r.bandAt d } with backingOff := false } : Governor) =
          Governor.targeted r d { g with band := r.bandAt d } := by
        rw [← hoff.trans hback]
      rw [hsample, hsame, if_neg (ne_true_of_eq_false (hoff.trans hback))]

end

end Sys2Proof.Machine
end

section
namespace Sys2Proof.Machine

/-! The proofs are elaborated one after another: side by side, so many ask for more threads than the memory holds. -/
set_option Elab.async false

/-! ### The Profiler at a sample (R40 to R44) -/

/-- The open segment after a sample of advance `adv`: an encoder jump adds no work (R42, R44). -/
def OpenSeg.sampledAt (x : OpenSeg) (adv thrust torque n : Nat) : OpenSeg :=
  if 40 < adv then { x with flags := { x.flags with encoderJump := true } }
  else if adv = 0 then x
  else { x with
    sf := min 4294967295 (x.sf + thrust * adv), st := min 4294967295 (x.st + torque * n)
    lseg := x.lseg + adv, samples := x.samples + 1 }

/-- The Profiler after a sample at depth `depth`, with open segment `x` (R40 to R44). -/
def Profiler.sampledAt (p : Profiler) (x : OpenSeg) (depth thrust torque n : Nat) : Profiler :=
  let adv := depth - p.maxDepth
  { p with depth := depth, maxDepth := p.maxDepth + adv, jumps := if 40 < adv then p.jumps + 1 else p.jumps
           openSeg := some (x.sampledAt adv thrust torque n) }

theorem Profiler.take_eq {p : Profiler} {x : OpenSeg} {k : Nat} (hx : p.openSeg = some x) (hk : p.collarRef = some k)
    (feed thrust torque n : Nat) : p.take feed thrust torque n = p.sampledAt x (feed - k) thrust torque n := by
  have hdepth : p.depthOf feed = feed - k := by rw [Profiler.depthOf, hk]; rfl
  unfold Profiler.take Profiler.sampledAt OpenSeg.sampledAt Profiler.advance
  dsimp only
  rw [hdepth]
  by_cases hjump : 40 < feed - k - p.maxDepth
  · simp only [if_pos hjump, hx, Option.map_some]
  · by_cases hadv : feed - k - p.maxDepth = 0
    · simp [hadv, hx]
    · simp only [if_neg hjump, if_neg hadv, if_pos (Nat.pos_of_ne_zero hadv), hx, Option.map_some]
      rfl

section
variable {s : State} {b : Boom} {r : HoleRecord}

theorem State.profSample_idle (h : (s.prof.get b).mode ≠ .running) (n : Nat) : s.profSample b n = s := if_pos h

/-- A sample that leaves the open segment below 20 mm (R44, R45). -/
theorem State.profSample_open {x : OpenSeg} {k : Nat} (hmode : (s.prof.get b).mode = .running)
    (hx : (s.prof.get b).openSeg = some x) (hk : (s.prof.get b).collarRef = some k) (n : Nat) :
    let p := (s.prof.get b).sampledAt x ((s.head.get b).feed - k) (s.head.get b).thrust (s.head.get b).torque n
    (if 40 < (s.head.get b).feed - k - (s.prof.get b).maxDepth then x.lseg
      else x.lseg + ((s.head.get b).feed - k - (s.prof.get b).maxDepth)) < 200 →
    s.profSample b n = { s with prof := s.prof.set b p } := by
  intro p hlen
  let h := s.head.get b
  have hmod : s.modProf b (fun p => p.take h.feed h.thrust h.torque n) = { s with prof := s.prof.set b p } := by
    simp only [State.modProf, Profiler.take_eq hx hk, p]
    rfl
  have hlseg : (x.sampledAt (h.feed - k - (s.prof.get b).maxDepth) h.thrust h.torque n).lseg < 200 := by
    refine Nat.lt_of_le_of_lt (Nat.le_of_eq ?_) hlen
    unfold OpenSeg.sampledAt
    by_cases hjump : 40 < h.feed - k - (s.prof.get b).maxDepth
    · rw [if_pos hjump, if_pos hjump]
    · rw [if_neg hjump, if_neg hjump]
      by_cases hadv : h.feed - k - (s.prof.get b).maxDepth = 0
      · rw [if_pos hadv, hadv, Nat.add_zero]
      · rw [if_neg hadv]
  have hfull : Profiler.full (PerBoom.get (s.prof.set b p) b) = false := by
    rw [PerBoom.get_set_same]
    exact decide_eq_false (Nat.not_le.2 hlseg)
  unfold State.profSample
  rw [if_neg (Classical.not_not.2 hmode)]
  dsimp only
  rw [hmod]
  exact if_neg (ne_true_of_eq_false hfull)

/-! ### The Governor at a sample (R62 to R69, R74) -/

/-- The state once boom `b`'s Governor, from `g`, has taken the sample. -/
def State.governed (s : State) (b : Boom) (r : HoleRecord) (g : Governor) : State :=
  let h := s.head.get b
  { s with
    rot := if g.backingOff = true ∧ h.feed ≤ g.backoffTarget then s.rot.set b (s.rot.get b).cleared else s.rot
    gov := s.gov.set b (g.sampledAt r (s.prof.get b).maxDepth h.feed h.thrust) }

theorem State.governed_eq (hrec : s.rec? b = some r) (g : Governor) :
    (State.endBackoff { s with gov := s.gov.set b g } b).stageDemands b = s.governed b r g := by
  rw [State.endBackoff_stageDemands (s := { s with gov := s.gov.set b g }) hrec]
  simp only [PerBoom.get_set_same, PerBoom.set_set]
  rfl

/-- The Governor of a boom that has seen the sample's feed position. -/
def State.fed (s : State) (b : Boom) : Governor := { s.gov.get b with lastFeed := (s.head.get b).feed }

theorem State.fed_stage : ((s.gov.set b (s.fed b)).get b).stage = (s.gov.get b).stage := by
  rw [PerBoom.get_set_same]
  rfl

/-- The sample in APPROACH below the contact thrust, and first contact (R39, R64, R65). -/
theorem State.govSample_approach (hrec : s.rec? b = some r) (hg : (s.gov.get b).stage = .approach) (adv : Nat) (d : Bool) :
    ((s.head.get b).thrust < r.param P.contactThrust → s.govSample b adv d = (s.governed b r (s.fed b), .none)) ∧
    (r.param P.contactThrust ≤ (s.head.get b).thrust → s.govSample b adv d =
      (State.governed { s with prof := s.prof.set b ((s.prof.get b).contact (s.head.get b).feed) } b r
        { s.fed b with stage := .collar, approachStall := false }, .contact)) := by
  have hstage := State.fed_stage.trans hg
  refine ⟨fun h => ?_, fun h => ?_⟩
  · rw [← State.governed_eq hrec]
    unfold State.govSample
    dsimp only [State.modGov]
    simp only [State.fed] at hstage ⊢
    rw [hstage]
    dsimp only
    rw [State.hp_of_rec (r := r) (by exact hrec), if_neg (Nat.not_le.2 h)]
  · rw [← State.governed_eq (s := { s with prof := s.prof.set b ((s.prof.get b).contact (s.head.get b).feed) }) hrec]
    unfold State.govSample
    dsimp only [State.modGov, State.modProf]
    simp only [State.fed] at hstage ⊢
    rw [hstage]
    dsimp only
    rw [State.hp_of_rec (r := r) (by exact hrec), if_pos h]
    simp only [PerBoom.set_set, PerBoom.get_set_same]

/-- The sample in COLLAR short of the collar length, and at it (R65, R66). -/
theorem State.govSample_collar (hrec : s.rec? b = some r) (hg : (s.gov.get b).stage = .collar) (adv : Nat) (d : Bool) :
    ((s.prof.get b).maxDepth < r.param P.collarLength * 10 → s.govSample b adv d = (s.governed b r (s.fed b), .none)) ∧
    (r.param P.collarLength * 10 ≤ (s.prof.get b).maxDepth → s.govSample b adv d =
      (s.governed b r { s.fed b with stage := .cut }, .collarDrilled)) := by
  have hstage := State.fed_stage.trans hg
  refine ⟨fun h => ?_, fun h => ?_⟩
  · rw [← State.governed_eq hrec]
    unfold State.govSample
    dsimp only [State.modGov]
    simp only [State.fed] at hstage ⊢
    rw [hstage]
    dsimp only
    rw [State.hp_of_rec (r := r) (by exact hrec), if_neg (Nat.not_le.2 h)]
  · rw [← State.governed_eq hrec]
    unfold State.govSample
    dsimp only [State.modGov]
    simp only [State.fed] at hstage ⊢
    rw [hstage]
    dsimp only
    rw [State.hp_of_rec (r := r) (by exact hrec), if_pos h]
    simp only [PerBoom.set_set, PerBoom.get_set_same]

/-- The maximum depth has reached the planned depth, or the top of a STOP band (R69). -/
def HoleRecord.drillEnds (r : HoleRecord) (d : Nat) : Prop :=
  r.spec.planned * 10 ≤ d ∨ ∃ y ∈ r.bands, y.attr = .stop ∧ y.top * 10 ≤ d

theorem State.ends_iff (hrec : s.rec? b = some r) :
    (s.plannedReached b || s.stopReached b) = true ↔ r.drillEnds (s.prof.get b).maxDepth := by
  simp only [State.plannedReached, State.stopReached, hrec, HoleRecord.drillEnds, Bool.or_eq_true, decide_eq_true_eq,
    List.any_eq_true, Bool.and_eq_true]

/-- The sample in CLIMB and in CUT of a boom in DRILLING: the end of drilling, or on (R69, R79, R80). -/
theorem State.govSample_cut (hrec : s.rec? b = some r) (hg : (s.gov.get b).stage = .climb ∨ (s.gov.get b).stage = .cut)
    (adv : Nat) :
    (r.drillEnds (s.prof.get b).maxDepth →
      s.govSample b adv true = ({ s with gov := s.gov.set b (s.fed b) }, .endOfDrilling)) ∧
    (¬ r.drillEnds (s.prof.get b).maxDepth → s.govSample b adv true =
      (s.governed b r { s.fed b with stage := if (s.gov.get b).stage = .cut ∨ 0 < adv then .cut else (s.gov.get b).stage },
        .none)) := by
  have hends := State.ends_iff (s := { s with gov := s.gov.set b (s.fed b) }) hrec
  have hstage := State.fed_stage (s := s) (b := b)
  refine ⟨fun h => ?_, fun h => ?_⟩
  · have hcond : (true && (State.plannedReached { s with gov := s.gov.set b (s.fed b) } b ||
        State.stopReached { s with gov := s.gov.set b (s.fed b) } b)) = true := hends.2 h
    unfold State.govSample
    dsimp only [State.modGov]
    simp only [State.fed] at hstage hcond ⊢
    rcases hg with hg | hg
    · rw [hstage, hg]
      exact if_pos hcond
    · rw [hstage, hg]
      exact if_pos hcond
  · have hcond : ¬ (true && (State.plannedReached { s with gov := s.gov.set b (s.fed b) } b ||
        State.stopReached { s with gov := s.gov.set b (s.fed b) } b)) = true := fun hc => h (hends.1 hc)
    rw [← State.governed_eq hrec]
    unfold State.govSample
    dsimp only [State.modGov]
    simp only [State.fed] at hstage hcond ⊢
    rcases hg with hg | hg
    · rw [hstage, hg]
      refine (if_neg hcond).trans ?_
      by_cases hadv : 0 < adv
      · simp only [hadv, if_true, or_true, PerBoom.set_set, PerBoom.get_set_same]
      · have hclimb : ¬ (GovStage.climb = .cut ∨ 0 < adv) := by simp [hadv]
        rw [if_neg hclimb]
        simp only [hadv, if_false, ← hg]
    · rw [hstage, hg]
      refine (if_neg hcond).trans ?_
      simp only [true_or, if_true, ← hg]

end

end Sys2Proof.Machine
end

section
namespace Sys2Proof.Machine

/-! The proofs are elaborated one after another: side by side, so many ask for more threads than the memory holds. -/
set_option Elab.async false

/-! ### The sample of a drilling boom (R8 to R10, R39 to R44, R54) -/

section
variable {s : State} {b : Boom} {r : HoleRecord} {n : Nat}

theorem State.workSample_drill (hq : (s.seq.get b).state = .collaring ∨ (s.seq.get b).state = .drilling) :
    s.workSample b n = s.drillSample b n := by
  unfold State.workSample
  rcases hq with hq | hq <;> rw [hq]

/-- Before first contact the Profiler takes no sample (R38). -/
theorem State.drillSample_idle (h : (s.prof.get b).mode ≠ .running) : s.drillSample b n =
    (s.govSample b 0 ((s.seq.get b).state = .drilling)).1.takeGovReport b
      (s.govSample b 0 ((s.seq.get b).state = .drilling)).2 := by
  unfold State.drillSample
  dsimp only
  rw [State.profSample_idle h, if_neg h]
  exact if_neg (by simp)

/-- Boom `b` with its Profiler as a sample at depth `depth` leaves it. -/
def State.profiled (s : State) (b : Boom) (x : OpenSeg) (depth n : Nat) : State :=
  { s with prof := s.prof.set b ((s.prof.get b).sampledAt x depth (s.head.get b).thrust (s.head.get b).torque n) }

/-- A sample in RUNNING that closes no segment: at a third encoder jump the boom halts, and otherwise the Governor takes it
(R42, R43). -/
theorem State.drillSample_open {x : OpenSeg} {k : Nat} (hmode : (s.prof.get b).mode = .running)
    (hx : (s.prof.get b).openSeg = some x) (hk : (s.prof.get b).collarRef = some k) :
    let depth := (s.head.get b).feed - k
    let adv := depth - (s.prof.get b).maxDepth
    let fault := 40 < adv ∧ 3 ≤ (s.prof.get b).jumps + 1
    let y := s.profiled b x depth n
    (if 40 < adv then x.lseg else x.lseg + adv) < 200 →
    (fault → s.drillSample b n = y.haltAtSample b .encoderFault) ∧
    (¬ fault → s.drillSample b n = (y.govSample b adv ((s.seq.get b).state = .drilling)).1.takeGovReport b
      (y.govSample b adv ((s.seq.get b).state = .drilling)).2) := by
  intro depth adv fault y hlen
  have hprof : s.profSample b n = y := State.profSample_open hmode hx hk n hlen
  have hadv : (if (s.prof.get b).mode = .running then (s.prof.get b).advance ((s.prof.get b).depthOf (s.head.get b).feed) else 0) = adv := by
    rw [if_pos hmode, Profiler.depthOf, hk]
    rfl
  have hjumps : (y.prof.get b).jumps = if 40 < adv then (s.prof.get b).jumps + 1 else (s.prof.get b).jumps :=
    congrArg Profiler.jumps (PerBoom.get_set_same _ _ _)
  have hfault : ((s.prof.get b).jumps < (y.prof.get b).jumps && 3 ≤ (y.prof.get b).jumps) = true ↔ fault := by
    simp only [Bool.and_eq_true, decide_eq_true_eq, hjumps, fault]
    by_cases hjump : 40 < adv
    · simp [hjump]
    · simp [hjump]
  unfold State.drillSample
  dsimp only
  rw [hprof, hadv]
  exact ⟨fun h => if_pos (hfault.2 h), fun h => if_neg fun hc => h (hfault.1 hc)⟩

/-- The collar is drilled: the boom enters DRILLING (R8). -/
theorem State.enterDrilling_eq (hfree : s.blocked b .drilling = false) :
    let q := (s.seq.get b).entering .drilling false
    s.enterDrilling b = ({ s with seq := s.seq.set b q }).report (phaseNote b (s.seq.get b).state q) := by
  intro q
  unfold State.enterDrilling
  rw [if_neg (ne_true_of_eq_false hfree), State.enterPhase_eq]
  rfl

/-- The end of drilling: the workers end, and the boom retracts (R9, R10). -/
theorem State.endDrilling_ends {s0 : State} (hcalm : s.calm = true) (hrec : s.rec? b = some r)
    (hfree : s.blocked b .retracting = false) (hact : s.active b Input.feedRetracted = false) :
    let t := s0.finish (s.endDrilling b)
    t.seq = s.seq.set b { (s.seq.get b).entering .retracting true with
      feedDown := r.param P.approachFeed * r.param P.feedFlowScale } ∧ s.DrillEnded b r t := by
  intro t
  let y := s.leaveDrilling b
  let q := { (s.seq.get b).entering .retracting true with feedDown := r.param P.approachFeed * r.param P.feedFlowScale }
  have honly := State.DrillOnly.leaveDrilling (b := b) s
  have hhp : y.hp b = s.hp b := honly.hp b
  have hact' : y.active b Input.feedRetracted = false := (State.active_of_outer (by simp [y]) _).trans hact
  obtain ⟨l, p, g, o, bs, hy⟩ := honly.frame
  have hyseq : y.seq = s.seq := (congrArg State.seq hy :)
  have hflow : y.approachFlow b = r.param P.approachFeed * r.param P.feedFlowScale := by
    rw [State.approachFlow, hhp, State.hp_of_rec hrec, State.hp_of_rec hrec]
  have hend : s.endDrilling b = ({ y with seq := s.seq.set b q }).report (phaseNote b (s.seq.get b).state q) := by
    unfold State.endDrilling
    rw [if_neg (ne_true_of_eq_false hfree)]
    dsimp only
    rw [hflow, State.enterPhase_eq, hyseq]
    exact if_neg (ne_true_of_eq_false hact')
  have hcalmy : y.calm = true := (s.leaveDrilling_calm b).trans hcalm
  have hends : (({ y with seq := s.seq.set b q } : State).report (phaseNote b (s.seq.get b).state q)).Ends t := by
    rw [← hend]
    exact State.finish_ends_of_still (by rw [hend]; exact State.still_of_calm (by exact hcalmy))
  obtain ⟨ft, hgov⟩ := hends.gov_eq b
  refine ⟨hends.view State.seq, (State.leaveDrilling_ended hrec).congr (hends.view State.prof) ?_ (hends.view fun s => s.rec? b)⟩
  rw [hgov]
  rfl

/-- A Governor's demands after contact, by its stage (R65 to R68, R74). -/
theorem Governor.sampledAt_eq {g : Governor} (h : g.stage = .collar ∨ g.stage = .climb ∨ g.stage = .cut) (d f t : Nat) :
    let g' : Governor := { g with band := r.bandAt d }
    let g' := if g.stage = .cut then g'.withCut r d else g'.withCollar r
    g.sampledAt r d f t = if g.backingOff = true ∧ g.backoffTarget < f then g'
      else Governor.driving r t { g' with backingOff := false } := by
  intro g0 g'
  have htarget : Governor.targeted r d g0 = g' := by
    unfold Governor.targeted
    rcases h with h | h | h
    · rw [show g0.stage = .collar from h]
      exact (if_neg (by rw [h]; exact GovStage.noConfusion)).symm
    · rw [show g0.stage = .climb from h]
      exact (if_neg (by rw [h]; exact GovStage.noConfusion)).symm
    · rw [show g0.stage = .cut from h]
      exact (if_pos h).symm
  have hstage : g'.stage ≠ .approach := by
    have hg : g'.stage = g.stage := by
      simp only [g']
      split
      · rfl
      · rfl
    rw [hg]
    rcases h with h | h | h <;> rw [h] <;> exact GovStage.noConfusion
  unfold Governor.sampledAt
  dsimp only
  rw [show Governor.targeted r d { g with band := r.bandAt d } = g' from htarget]
  rw [show Governor.demanding r t { g' with backingOff := false } = Governor.driving r t { g' with backingOff := false } from
    if_neg hstage]

/-- In APPROACH the demands are those of the approach (R64). -/
theorem Governor.sampledAt_approach {g : Governor} (h : g.stage = .approach) (d f t : Nat) :
    let g' : Governor := { g with band := r.bandAt d }
    g.sampledAt r d f t = if g.backingOff = true ∧ g.backoffTarget < f then g'
      else Governor.approaching r { g' with backingOff := false } := by
  intro g'
  have htarget : Governor.targeted r d g' = g' := by
    unfold Governor.targeted
    rw [show g'.stage = .approach from h]
  unfold Governor.sampledAt
  dsimp only
  rw [show Governor.targeted r d { g with band := r.bandAt d } = g' from htarget]
  rw [show Governor.demanding r t { g' with backingOff := false } = Governor.approaching r { g' with backingOff := false } from
    if_pos h]

end

end Sys2Proof.Machine
end

section
namespace Sys2Proof.Machine

/-! The proofs are elaborated one after another: side by side, so many ask for more threads than the memory holds. -/
set_option Elab.async false

/-! ### Pulses, overflows and samples as commands -/

section
variable {s : State} {b : Boom} {r : HoleRecord}

theorem exec_rotationPulse {x : State} (hpow : s.power = .running) (hpres : s.present b = true)
    (hx : (s.modRot b Rotation.pulse).mixPulse b = x) (hy : x.still = true) :
    ∃ t, exec (.rotationPulse b) s = .next t ∧ x.Ends t :=
  State.ends_when (by simp [State.sees, hpow, hpres]) hx hy

/-- An overflow at the full count (R188). -/
theorem exec_rotationOverflow_full {x : State} (hpow : s.power = .running) (hpres : s.present b = true)
    (hfull : (s.rot.get b).noRotation = false ∧ 4095 ≤ (s.rot.get b).interval)
    (hx : (s.modRot b Rotation.overflow).takeOverflow b = x) (hy : x.still = true) :
    ∃ t, exec (.rotationOverflow b) s = .next t ∧ x.Ends t := by
  subst hx
  refine ⟨_, (exec_rotationOverflow hpow hpres).trans (congrArg Host.Outcome.next (State.tickOverflow_of_full hfull.2 hfull.1)), ?_⟩
  exact State.finish_ends_of_still hy

theorem State.takeOverflow_mixing (hq : (s.seq.get b).state = .mixing) : s.takeOverflow b =
    { s with sett := s.sett.set b { s.sett.get b with
        stallSeen := if 0 < s.arb.grantOf (.boom b .rotFwd) then true else (s.sett.get b).stallSeen } } := by
  unfold State.takeOverflow
  dsimp only
  rw [hq]
  dsimp only
  by_cases hturn : 0 < s.arb.grantOf (.boom b .rotFwd)
  · rw [if_pos (decide_eq_true hturn), if_pos hturn]
    rfl
  · rw [if_neg (by simpa using hturn), if_neg hturn, show ({ s.sett.get b with stallSeen := (s.sett.get b).stallSeen } : Setting) =
      s.sett.get b from rfl, PerBoom.set_get]

theorem State.takeOverflow_torquing (hq : (s.seq.get b).state = .torquing) : s.takeOverflow b =
    if 0 < s.arb.grantOf (.boom b .rotFwd) ∧ (s.sett.get b).verdict = none then s.giveVerdict b .stalled else s := by
  unfold State.takeOverflow
  dsimp only
  rw [hq]
  simp only [Bool.and_eq_true, decide_eq_true_eq, Option.isNone_iff_eq_none]

/-- The sample in APPROACH below the contact thrust (R64, R74). -/
theorem State.workSample_far {f t n : Nat} (hf : (s.head.get b).feed = f) (ht : (s.head.get b).thrust = t)
    (hrec : s.rec? b = some r) (hq : (s.seq.get b).state = .collaring) (hg : (s.gov.get b).stage = .approach)
    (hmode : (s.prof.get b).mode ≠ .running) (h : t < r.param P.contactThrust) :
    let g := s.gov.get b
    let g' : Governor := { g with lastFeed := f, band := r.bandAt (s.prof.get b).maxDepth }
    s.workSample b n = { s with
      rot := if g.backingOff = true ∧ f ≤ g.backoffTarget then s.rot.set b (s.rot.get b).cleared else s.rot
      gov := s.gov.set b (if g.backingOff = true ∧ g.backoffTarget < f then g' else { g' with
        backingOff := false, feedUp := r.param P.approachFeed * r.param P.feedFlowScale, feedDown := 0
        rotFwd := r.param P.collarRpm * r.param P.rotDisplacement / 100, flush := true }) } := by
  intro g g'
  have hgov := Governor.sampledAt_approach (r := r) (g := { g with lastFeed := f }) hg (s.prof.get b).maxDepth f t
  have hfed : s.fed b = { g with lastFeed := f } := by rw [State.fed, hf]
  rw [State.workSample_drill (.inl hq), State.drillSample_idle hmode,
    (State.govSample_approach hrec hg 0 _).1 (by rw [ht]; exact h), hfed]
  unfold State.governed
  dsimp only [State.takeGovReport]
  rw [hf, ht, hgov]
  rfl

/-- First contact (R39, R65). -/
theorem State.workSample_contact {f t n : Nat} (hf : (s.head.get b).feed = f) (ht : (s.head.get b).thrust = t)
    (hrec : s.rec? b = some r) (hq : (s.seq.get b).state = .collaring) (hg : (s.gov.get b).stage = .approach)
    (hmode : (s.prof.get b).mode ≠ .running) (h : r.param P.contactThrust ≤ t) :
    let g := s.gov.get b
    let g' := Governor.withCollar r { g with stage := .collar, approachStall := false, lastFeed := f, band := r.bandAt 0 }
    s.workSample b n = { s with
      rot := if g.backingOff = true ∧ f ≤ g.backoffTarget then s.rot.set b (s.rot.get b).cleared else s.rot
      prof := s.prof.set b { s.prof.get b with
        mode := .running, collarRef := some f, depth := 0, maxDepth := 0, nextTop := 0
        openSeg := some { top := 0, sf := 0, st := 0, lseg := 0, samples := 0, flags := .empty } }
      gov := s.gov.set b (if g.backingOff = true ∧ g.backoffTarget < f then g'
        else Governor.driving r t { g' with backingOff := false })
      seq := s.seq.set b { s.seq.get b with timer := { (s.seq.get b).timer with running := false } } } := by
  intro g g'
  have hgov := Governor.sampledAt_eq (r := r) (g := { g with lastFeed := f, stage := .collar, approachStall := false })
    (.inl rfl) 0 f t
  have hfed : s.fed b = { g with lastFeed := f } := by rw [State.fed, hf]
  rw [State.workSample_drill (.inl hq), State.drillSample_idle hmode,
    (State.govSample_approach hrec hg 0 _).2 (by rw [ht]; exact h), hfed]
  unfold State.governed
  dsimp only [State.takeGovReport]
  rw [hf, ht, PerBoom.get_set_same, show ((s.prof.get b).contact f).maxDepth = 0 from rfl, hgov]
  rfl

/-- What stages a boom drills in after first contact (R63). -/
def State.drillsOn (s : State) (b : Boom) : Prop :=
  ((s.seq.get b).state = .collaring ∧ (s.gov.get b).stage = .collar) ∨
    ((s.seq.get b).state = .drilling ∧ ((s.gov.get b).stage = .climb ∨ (s.gov.get b).stage = .cut))

/-- Boom `b` once the Profiler and the Governor have taken a sample at depth `depth`, the Governor in CUT where `cut`. -/
def State.drilledOn (s : State) (b : Boom) (r : HoleRecord) (x : OpenSeg) (depth n : Nat) (cut : Bool) : State :=
  (s.profiled b x depth n).governed b r
    { s.fed b with stage := if cut then .cut else (s.gov.get b).stage }

theorem State.profiled_maxDepth (s : State) (b : Boom) (x : OpenSeg) (depth n : Nat) :
    ((s.profiled b x depth n).prof.get b).maxDepth = (s.prof.get b).maxDepth + (depth - (s.prof.get b).maxDepth) :=
  congrArg Profiler.maxDepth (PerBoom.get_set_same _ _ _)

/-- A sample after first contact that closes no segment and is no third jump: drilling goes on, the collar is drilled, or
drilling ends (R8, R9, R65 to R69, R79, R80). -/
theorem State.workSample_on {x : OpenSeg} {f k n : Nat} (hf : (s.head.get b).feed = f) (hrec : s.rec? b = some r) (hon : s.drillsOn b)
    (hmode : (s.prof.get b).mode = .running) (hx : (s.prof.get b).openSeg = some x) (hk : (s.prof.get b).collarRef = some k) :
    let g := s.gov.get b
    let depth := f - k
    let adv := depth - (s.prof.get b).maxDepth
    let d := (s.prof.get b).maxDepth + adv
    let fault := 40 < adv ∧ 3 ≤ (s.prof.get b).jumps + 1
    let drilled := g.stage = .collar ∧ r.param P.collarLength * 10 ≤ d
    let ends := (s.seq.get b).state = .drilling ∧ r.drillEnds d
    let y := s.drilledOn b r x depth n (decide (drilled ∨ g.stage = .cut ∨ (g.stage = .climb ∧ 0 < adv)))
    (if 40 < adv then x.lseg else x.lseg + adv) < 200 →
    (fault → s.workSample b n = (s.profiled b x depth n).haltAtSample b .encoderFault) ∧
    (¬ fault → ¬ ends → ¬ drilled → s.workSample b n = y) ∧
    (¬ fault → drilled → s.workSample b n = y.enterDrilling b) ∧
    (¬ fault → ends → s.workSample b n =
      State.endDrilling { s.profiled b x depth n with gov := s.gov.set b (s.fed b) } b) := by
  subst hf
  intro g depth adv d fault drilled ends y hlen
  have hdrill : (s.seq.get b).state = .collaring ∨ (s.seq.get b).state = .drilling := hon.imp (·.1) (·.1)
  obtain ⟨hfault, hgov⟩ := State.drillSample_open (n := n) hmode hx hk hlen
  let z := s.profiled b x depth n
  have hzd : (z.prof.get b).maxDepth = d := State.profiled_maxDepth s b x depth n
  rw [State.workSample_drill hdrill]
  refine ⟨hfault, ?_⟩
  rcases hon with ⟨hq, hg⟩ | ⟨hq, hg⟩
  · have hcollar := State.govSample_collar (s := z) (r := r) hrec hg adv ((s.seq.get b).state = .drilling)
    rw [hzd] at hcollar
    have hnot : ¬ ends := fun h => Phase.noConfusion (hq.symm.trans h.1)
    refine ⟨fun hf _ hd => (hgov hf).trans ?_, fun hf hd => (hgov hf).trans ?_, fun _ he => absurd he hnot⟩
    · have hshort : d < r.param P.collarLength * 10 := Nat.lt_of_not_le fun h => hd ⟨hg, h⟩
      have hcut : decide (drilled ∨ g.stage = .cut ∨ (g.stage = .climb ∧ 0 < adv)) = false := by
        have hgc : g.stage = .collar := hg
        simp [hd, hgc]
      rw [hcollar.1 hshort]
      simp only [y, hcut]
      rfl
    · rw [hcollar.2 hd.2]
      simp only [y, hd, true_or, decide_true]
      rfl
  · have hcut := State.govSample_cut (s := z) (r := r) hrec hg adv
    rw [hzd] at hcut
    have hnot : ¬ drilled := by
      rintro ⟨hc, -⟩
      rcases hg with hg | hg
      · exact GovStage.noConfusion (hc.symm.trans hg)
      · exact GovStage.noConfusion (hc.symm.trans hg)
    rw [decide_eq_true hq] at hgov
    refine ⟨fun hf he _ => (hgov hf).trans ?_, fun _ hd => absurd hd hnot, fun hf he => (hgov hf).trans ?_⟩
    · have hstage : decide (drilled ∨ g.stage = .cut ∨ (g.stage = .climb ∧ 0 < adv)) =
          decide ((s.gov.get b).stage = .cut ∨ 0 < adv) := by
        refine decide_eq_decide.2 ((or_iff_right hnot).trans ?_)
        rcases hg with hg | hg
        · simp [g, hg]
        · simp [g, hg]
      rw [hcut.2 fun h => he ⟨hq, h⟩]
      simp only [y, State.drilledOn, hstage, decide_eq_true_eq]
      rfl
    · rw [hcut.1 he.2]
      rfl

theorem State.drilledOn_eq {f t m n depth : Nat} {x : OpenSeg} {c : Prop} [Decidable c] (hf : (s.head.get b).feed = f)
    (ht : (s.head.get b).thrust = t) (hm : (s.head.get b).torque = m)
    (hg : (s.gov.get b).stage = .collar ∨ (s.gov.get b).stage = .climb ∨ (s.gov.get b).stage = .cut)
    (hc : (s.gov.get b).stage = .cut → c) :
    let g := s.gov.get b
    let d := (s.prof.get b).maxDepth + (depth - (s.prof.get b).maxDepth)
    let g' : Governor := { g with stage := if c then .cut else g.stage, lastFeed := f, band := r.bandAt d }
    let g' := if c then g'.withCut r d else g'.withCollar r
    s.drilledOn b r x depth n (decide c) = { s with
      prof := s.prof.set b ((s.prof.get b).sampledAt x depth t m n)
      gov := s.gov.set b (if g.backingOff = true ∧ g.backoffTarget < f then g'
        else Governor.driving r t { g' with backingOff := false })
      rot := if g.backingOff = true ∧ f ≤ g.backoffTarget then s.rot.set b (s.rot.get b).cleared else s.rot } := by
  intro g d g0 g'
  let G : Governor := { g with lastFeed := f, stage := if c then .cut else g.stage }
  have hstage : G.stage = .cut ↔ c := by
    by_cases h : c
    · simp [G, h]
    · simp only [G, h, if_false, iff_false]
      exact fun hcut => h (hc hcut)
  have hstages : G.stage = .collar ∨ G.stage = .climb ∨ G.stage = .cut := by
    by_cases h : c
    · exact .inr (.inr (hstage.2 h))
    · simp only [G, h, if_false]
      exact hg
  have hgov := Governor.sampledAt_eq (r := r) hstages d f t
  simp only [hstage] at hgov
  have hfed : ({ s.fed b with stage := if decide c then .cut else (s.gov.get b).stage } : Governor) = G := by
    simp only [State.fed, hf, decide_eq_true_eq, G]
    rfl
  unfold State.drilledOn State.governed
  rw [hfed, State.profiled_maxDepth, show ((s.profiled b x depth n).head.get b) = s.head.get b from rfl]
  dsimp only
  rw [hf, ht, hgov]
  unfold State.profiled
  rw [ht, hm]

/-- Boom `b`'s open segment `x` with its COLLAR flag at `c` (R46). -/
def State.collarFlagged (s : State) (b : Boom) (x : OpenSeg) (c : Bool) : State :=
  { s with
    prof := s.prof.set b { s.prof.get b with openSeg := some { x with flags := { x.flags with collar := c } } } }

/-- A halt at a sample: the open segment carries COLLAR in COLLARING, and the boom's drilling ends (R46, R54). -/
theorem State.haltAtSample_ends {s0 : State} {reason : HaltReason} {x : OpenSeg} (hcalm : s.calm = true)
    (hrec : s.rec? b = some r) (hq : (s.seq.get b).state = .collaring ∨ (s.seq.get b).state = .drilling)
    (hx : (s.prof.get b).openSeg = some x) :
    let t := s0.finish (s.haltAtSample b reason)
    t.seq = s.seq.set b ((s.seq.get b).haltedWith reason) ∧ ∃ c, (s.collarFlagged b x c).DrillEnded b r t := by
  intro t
  have hmark : ∃ c, (if (s.seq.get b).state = .collaring then s.markCollar b else s) = s.collarFlagged b x c := by
    by_cases hc : (s.seq.get b).state = .collaring
    · refine ⟨true, (if_pos hc).trans ?_⟩
      simp only [State.markCollar, State.modProf, hx, State.collarFlagged]
      rfl
    · refine ⟨x.flags.collar, (if_neg hc).trans ?_⟩
      have hsame : ({ s.prof.get b with openSeg := some x } : Profiler) = s.prof.get b := by rw [← hx]
      simp only [State.collarFlagged, hsame, PerBoom.set_get]
  obtain ⟨c, hc⟩ := hmark
  have ht : t = s0.finish ((s.collarFlagged b x c).halt b reason .interrupted) := by
    rw [← hc]
    simp only [t, State.haltAtSample]
  obtain ⟨hseq, hended, -⟩ := State.haltDrilling_ends (s := s.collarFlagged b x c) (s0 := s0) (reason := reason) hcalm hrec hq
  rw [ht]
  exact ⟨hseq, c, hended⟩

/-- The remnant of a third encoder jump closes with ENCODER_JUMP and PARTIAL (R42, R54). -/
theorem State.takeRemnant_flags {x : OpenSeg} {y : HoleRecord} (hrec : s.rec? b = some r) (hx : (s.prof.get b).openSeg = some x)
    (hlen : 50 ≤ x.lseg) (hroom : r.segments.length < 128) (hy : (s.takeRemnant b).rec? b = some y) :
    y.segments[r.segments.length]?.map (fun e => (e.flags.encoderJump, e.flags.partialSeg)) =
      some (x.flags.encoderJump, true) := by
  have happ := State.takeRemnant_appends hrec hx hlen
  rw [hy, Option.map_some] at happ
  have hsegs : y.segments = r.segments ++ [s.closingEntry b false true x r] := by
    have h := congrArg HoleRecord.segments (Option.some.inj happ)
    rw [HoleRecord.appended, if_pos hroom] at h
    exact h
  rw [hsegs]
  simp [State.closingEntry, OpenSeg.entry]

end

/-- Settles O37. -/
theorem rotationPulsesAndOverflows : Obligations.RotationPulsesAndOverflows := by
  intro b frame s r hpow hpres hcalm hrec o q g c p turning back pulsed full overflown pulse stalls backedOff setOff
  let z := s.modRot b Rotation.overflow
  have hmod : s.modRot b Rotation.pulse = { s with rot := pulsed } := State.modRot_pulse s b
  have hwait := State.calm_waiting hcalm
  refine ⟨fun hq => ?_, fun hq hlt => ?_, fun hq hge hd hfree => ?_, fun hno => ?_, fun hfull hm ht hquiet => ?_,
    fun hfull hq => ?_, fun hfull hq => ⟨fun hquiet => ?_, fun hturn hv hmay => ?_⟩,
    fun hfull hq hback hturn => ⟨fun hg hstall' => ?_, fun hg x hx hretry => ?_, fun hsecond => ?_⟩, fun v hv hlost => ?_⟩
  · refine exec_rotationPulse hpow hpres (hmod ▸ if_neg (by exact hq)) (State.still_of_calm (by exact hcalm))
  · refine exec_rotationPulse hpow hpres ?_ (State.still_of_calm (by exact hcalm))
    rw [hmod]
    exact State.mixPulse_counts (s := { s with rot := pulsed }) hq hrec hlt
  · obtain ⟨k, hk⟩ := State.mixPulse_completes (s := { s with rot := pulsed }) hq hrec hge hd hfree
    obtain ⟨t, ht, hends⟩ := exec_rotationPulse hpow hpres ((congrArg (State.mixPulse · b) hmod).trans hk) (State.still_of_calm (by exact hcalm))
    exact ⟨t, ht, hends.view State.rot, hends.view State.seq, hends.view State.sett, hends.view State.store,
      hends.view fun s => s.arb.res⟩
  · refine (exec_rotationOverflow hpow hpres).trans (congrArg Host.Outcome.next (if_neg ?_))
    rcases hno with hno | hno
    · simp [show (s.rot.get b).noRotation = true from hno]
    · simp [Nat.not_le.2 (show (s.rot.get b).interval < 4095 from hno)]
  · refine exec_rotationOverflow_full hpow hpres hfull (x := z) (State.takeOverflow_quiet hm ht ?_) (State.still_of_calm (by exact hcalm))
    refine Bool.eq_false_iff.2 fun hstall => ?_
    obtain ⟨hdrill, hstage, hback, hturn⟩ := State.isStall_iff.1 hstall
    rcases hquiet with ⟨hc, hd⟩ | hoff | hback' | hstill
    · exact hdrill.elim hc hd
    · exact hstage hoff
    · exact ne_true_of_eq_false hback hback'
    · exact hstill hturn
  · exact exec_rotationOverflow_full hpow hpres hfull (State.takeOverflow_mixing (s := z) hq) (State.still_of_calm (by exact hcalm))
  · refine exec_rotationOverflow_full hpow hpres hfull (x := z) ?_ (State.still_of_calm (by exact hcalm))
    refine (State.takeOverflow_torquing (s := z) hq).trans (if_neg fun h => ?_)
    exact hquiet.elim (fun hno => hno h.1) fun hv => hv h.2
  · refine exec_rotationOverflow_full hpow hpres hfull ?_ (State.still_of_calm (by exact hcalm))
    refine (State.takeOverflow_torquing (s := z) hq).trans ((if_pos ⟨hturn, hv⟩).trans ?_)
    exact State.giveVerdict_off (s := z) .stalled hrec hq hmay hwait
  · refine exec_rotationOverflow_full hpow hpres hfull ?_ (State.still_of_calm (by exact hcalm))
    have hstall : z.isStall b = true := State.isStall_iff.2 ⟨hq, by rw [show (z.gov.get b).stage = _ from hg]; exact GovStage.noConfusion, hback, hturn⟩
    have hfirst : z.secondStall b = false := (if_pos hg).trans hstall'
    rw [State.takeOverflow_stalls hstall, hfirst]
    exact State.startBackoff_approach (s := z) hrec hg
  · refine exec_rotationOverflow_full hpow hpres hfull ?_ (State.still_of_calm (by exact hcalm))
    have hstages : g.stage ≠ .off ∧ g.stage ≠ .approach := by
      rcases hg with hg | hg | hg <;> simp [hg]
    have hstall : z.isStall b = true := State.isStall_iff.2 ⟨hq, hstages.1, hback, hturn⟩
    have hfirst : z.secondStall b = false := by
      refine (if_neg hstages.2).trans ?_
      rw [show (z.prof.get b).openSeg = some x from hx]
      exact hretry
    rw [State.takeOverflow_stalls hstall, hfirst]
    exact State.startBackoff_contact (s := z) hrec hstages.2 hx
  · have hstage : g.stage ≠ .off := by
      rcases hsecond with ⟨hg, -⟩ | ⟨hoff, -⟩
      · rw [hg]
        exact GovStage.noConfusion
      · exact hoff
    have hstall : z.isStall b = true := State.isStall_iff.2 ⟨hq, hstage, hback, hturn⟩
    have htwice : z.secondStall b = true := by
      rcases hsecond with ⟨hg, hmark⟩ | ⟨-, hg, hany⟩
      · exact (if_pos hg).trans hmark
      · refine (if_neg hg).trans ?_
        obtain ⟨x, hx, hretry⟩ := (Option.any_eq_true _ _).1 hany
        rw [show (z.prof.get b).openSeg = some x from hx]
        exact hretry
    have hhalt : s.rotationOverflow b = s.finish (z.halt b .drillStall .interrupted) := by
      refine congrArg s.finish ?_
      rw [State.takeOverflow_stalls hstall, if_pos htwice]
    obtain ⟨hseq, hended, hasked⟩ := State.haltDrilling_ends (s := z) (s0 := s) (reason := .drillStall) hcalm hrec hq
    refine ⟨_, (exec_rotationOverflow hpow hpres).trans (congrArg Host.Outcome.next
      ((State.tickOverflow_of_full hfull.2 hfull.1).trans hhalt)), hseq, hended.gov, ?_, hasked⟩
    obtain ⟨m, hm⟩ := hended.prof
    rw [hm]
  · intro u taken hguard hnew
    have hsample : ∀ x : State, (u : State).workSample b o.samplePulses = x → x.still = true → taken x :=
      fun x hx hstill => exec_sample hpow hpres hv hlost hguard hnew hx hstill
    have hstill : ∀ x : State, x.arb.waiting = [] → x.valve = s.valve → x.still = true := by
      intro x hw hx
      refine State.still_of_calm ?_
      simp only [State.calm, Bool.and_eq_true] at hcalm ⊢
      rw [hw, hx]
      exact ⟨rfl, hcalm.2⟩
    have hhead : u.head.get b = (s.head.get b).takeGood v (s.live P.debounce) := PerBoom.get_set_same _ _ _
    have hfeed : (u.head.get b).feed = v.feed := congrArg Head.feed hhead
    have htorque : (u.head.get b).torque = v.torque := congrArg Head.torque hhead
    have hthrust : (u.head.get b).thrust = v.thrust := congrArg Head.thrust hhead
    refine ⟨fun hq => ?_, fun hq hg hmode => ?_, fun hq hmode x hx k hk => ?_⟩
    · intro c' early late reached
      have hwork := State.workSample_torque (s := u) hq hrec o.samplePulses
      rw [htorque] at hwork
      let y : State := { u with sett := s.sett.set b c' }
      have hon : ∀ w : Verdict, c'.judge (r.param P.torqueTarget) (r.param P.angleMin) (r.param P.angleMax) v.torque = some w →
          u.mayRelease b = true → taken (setOff u c' w) := by
        intro w hw hmay
        refine hsample _ ?_ (hstill _ hwait rfl)
        have hoff := State.giveVerdict_off (s := y) w hrec hq hmay hwait
        rw [show y.sett.get b = c' from PerBoom.get_set_same _ _ _] at hoff
        refine (hwork.trans (congrArg (fun o : Option Verdict => match o with
          | some v => y.giveVerdict b v
          | none => y) hw)).trans (hoff.trans ?_)
        simp only [State.verdictOff, y, PerBoom.set_set]
        rfl
      refine ⟨fun h hl => ?_, fun h he => hon _ (Setting.judge_early h he), fun hl h he => hon _ (Setting.judge_slip hl fun _ => he),
        fun hl h => hon _ (Setting.judge_slip hl fun h' => absurd h' h), fun h he hl => hon _ (Setting.judge_ok h he hl)⟩
      refine hsample _ (hwork.trans ?_) (hstill _ hwait rfl)
      have hnone : c'.judge (r.param P.torqueTarget) (r.param P.angleMin) (r.param P.angleMax) v.torque = none :=
        Setting.judge_none h hl
      exact congrArg (fun o : Option Verdict => match o with
          | some v => y.giveVerdict b v
          | none => y) hnone
    · intro past ended rot'
      refine ⟨fun h => ?_, fun h => ?_⟩
      · exact hsample _ (State.workSample_far (s := u) hfeed hthrust hrec hq hg hmode h) (hstill _ hwait rfl)
      · exact hsample _ (State.workSample_contact (s := u) hfeed hthrust hrec hq hg hmode h) (hstill _ hwait rfl)
    · intro depth adv d jump fault hlen x' ends drilled cut past ended g0 g' y
      have hon : u.drillsOn b := hq
      have hdrill : q.state = .collaring ∨ q.state = .drilling := hq.imp (·.1) (·.1)
      have hstages : g.stage = .collar ∨ g.stage = .climb ∨ g.stage = .cut := hq.imp (·.2) (·.2)
      obtain ⟨hjumped, hstays, hdrills, hends⟩ := State.workSample_on (s := u) (n := o.samplePulses) hfeed hrec hon hmode hx hk hlen
      have hy := State.drilledOn_eq (s := u) (b := b) (r := r) (n := o.samplePulses) (depth := depth) (x := x) (c := cut) hfeed
        hthrust htorque hstages fun h => .inr (.inl h)
      let z := u.profiled b x depth o.samplePulses
      have hexec : exec (.scanFrameArrival b frame) s = .next (s.finish (u.workSample b o.samplePulses)) :=
        congrArg Host.Outcome.next ((if_pos (by simp [State.sees, hpow, hpres])).trans
          (congrArg s.finish (State.scanArrival_sample hv hlost hguard hnew)))
      refine ⟨fun hf => ?_, fun hf he hd => ?_, fun hf hd hfree => ?_, fun hf he hfree hact => ?_⟩
      · have hzx : (z.prof.get b).openSeg = some (x.sampledAt adv v.thrust v.torque o.samplePulses) := by
          refine (congrArg Profiler.openSeg (PerBoom.get_set_same _ _ _)).trans ?_
          rw [← hthrust, ← htorque]
          rfl
        have hjumps : (z.prof.get b).jumps = p.jumps + 1 :=
          (congrArg Profiler.jumps (PerBoom.get_set_same _ _ _)).trans (if_pos hf.1)
        obtain ⟨hseq, w, hended⟩ := State.haltAtSample_ends (s := z) (s0 := s) (reason := .encoderFault) hcalm hrec hdrill hzx
        have hwprof : (z.collarFlagged b (x.sampledAt adv v.thrust v.torque o.samplePulses) w).prof.get b = _ :=
          PerBoom.get_set_same _ _ _
        obtain ⟨⟨m, hm⟩, hgov, e, he, -, hrec'⟩ := hended
        rw [hwprof] at hm hrec'
        refine ⟨_, hexec.trans (congrArg (fun x => Host.Outcome.next (s.finish x)) (hjumped hf)), hseq, hgov, ?_, ?_, ?_, ?_, ?_, fun hl hroom => ?_⟩
        · rw [hm]
        · rw [hm]
        · rw [hm]
          exact hjumps
        · rw [hm]
          exact State.profiled_maxDepth u b x depth o.samplePulses
        · rw [hrec']
          exact congrArg (fun d => some (some d)) (State.profiled_maxDepth u b x depth o.samplePulses)
        · have hjump : x.sampledAt adv v.thrust v.torque o.samplePulses =
              { x with flags := { x.flags with encoderJump := true } } := if_pos hf.1
          have hflags := State.takeRemnant_flags (b := b) (s := z.collarFlagged b _ w) hrec
            (congrArg Profiler.openSeg (PerBoom.get_set_same _ _ _)) (by rw [hjump]; exact hl) hroom he
          rw [hjump] at hflags
          rw [hrec']
          exact hflags
      · exact hsample _ ((hstays hf he hd).trans hy) (hstill _ hwait rfl)
      · have hcollaring : q.state = .collaring := by
          rcases hq with ⟨hc, -⟩ | ⟨-, hg⟩
          · exact hc
          · rcases hg with hg | hg
            · exact GovStage.noConfusion (hd.1.symm.trans hg)
            · exact GovStage.noConfusion (hd.1.symm.trans hg)
        refine hsample _ ((hdrills hf hd).trans ((congrArg (State.enterDrilling · b) hy).trans
          ((State.enterDrilling_eq (s := y) hfree).trans ?_))) (hstill _ hwait rfl)
        rw [← hcollaring]
      · obtain ⟨hseq, ⟨m, hm⟩, hgov, e, he', -, hrec'⟩ := State.endDrilling_ends
          (s := { z with gov := u.gov.set b (u.fed b) }) (s0 := s) hcalm hrec hfree hact
        refine ⟨_, hexec.trans (congrArg (fun x => Host.Outcome.next (s.finish x)) (hends hf he)), hseq, hgov, ?_, ?_, ?_, ?_, ?_⟩
        · rw [hm]
        · rw [hm]
        · rw [hrec']
          exact congrArg (fun d => some (some d)) (State.profiled_maxDepth u b x depth o.samplePulses)
        · rw [hrec']
          exact congrArg (fun d => some (some (if r.spec.planned * 10 ≤ d then DrillOutcome.planned else .shortByPlan)))
            (State.profiled_maxDepth u b x depth o.samplePulses)
        · rw [hrec', Option.map_some, Option.map_some]

end Sys2Proof.Machine
end

section
namespace Sys2Proof.Machine
/-! The proofs are elaborated one after another: side by side, so many ask for more threads than the memory
holds. -/
set_option Elab.async false

/-! ### The check of a frame as a division of polynomials (R176) -/

section
variable {f : BitVec 80}

/-- The product modulo 2 of a polynomial and x⁸ + x² + x + 1. -/
def crcProduct (q : BitVec 80) : BitVec 80 := q <<< 8 ^^^ q <<< 2 ^^^ q <<< 1 ^^^ q

theorem crcProduct_getLsbD (q : BitVec 80) {k : Nat} (hk : k + 8 < 80) :
    (crcProduct q).getLsbD (k + 8) =
      (((q.getLsbD k ^^ q.getLsbD (k + 6)) ^^ q.getLsbD (k + 7)) ^^ q.getLsbD (k + 8)) := by
  simp only [crcProduct, BitVec.getLsbD_xor, BitVec.getLsbD_shiftLeft, hk, decide_true, Bool.true_and,
    Nat.add_sub_cancel, Nat.not_lt.2 (show 8 ≤ k + 8 by omega), Nat.not_lt.2 (show 2 ≤ k + 8 by omega),
    Nat.not_lt.2 (show 1 ≤ k + 8 by omega),
    decide_false, Bool.not_false, show k + 8 - 2 = k + 6 by omega, show k + 8 - 1 = k + 7 by omega]

theorem crcProduct_xor (p q : BitVec 80) : crcProduct (p ^^^ q) = crcProduct p ^^^ crcProduct q := by
  simp only [crcProduct, BitVec.shiftLeft_xor_distrib]
  ac_rfl

theorem crcProduct_shiftLeft (q : BitVec 80) : crcProduct (q <<< 1) = crcProduct q <<< 1 := by
  simp only [crcProduct, BitVec.shiftLeft_xor_distrib, ← BitVec.shiftLeft_add, Nat.add_comm]

/-- A product that is not 0 has a bit at the eighth place or above. -/
theorem crcProduct_small {q : BitVec 80} {r : BitVec 8} (hq : q.toNat < 2 ^ 72) (h : crcProduct q = r.setWidth 80) :
    q = 0#80 := by
  have htop (k : Nat) (hk : 72 ≤ k) : q.getLsbD k = false :=
    Nat.testBit_lt_two_pow (Nat.lt_of_lt_of_le hq (Nat.pow_le_pow_right (by decide) hk))
  have hzero : ∀ n k, 72 ≤ k + n → q.getLsbD k = false := by
    intro n
    induction n with
    | zero => exact htop
    | succ n ih =>
      intro k hk
      by_cases hlt : k < 72
      · have hbit : (crcProduct q).getLsbD (k + 8) = false := by
          rw [h, BitVec.getLsbD_setWidth, BitVec.getLsbD_of_ge r (k + 8) (by omega), Bool.and_false]
        rw [crcProduct_getLsbD q (by omega), ih (k + 6) (by omega), ih (k + 7) (by omega), ih (k + 8) (by omega)] at hbit
        simpa using hbit
      · exact htop k (Nat.not_lt.1 hlt)
  exact BitVec.eq_of_getLsbD_eq fun k _ => by rw [hzero 72 k (by omega), BitVec.getLsbD_zero]

/-- The remainder after the first `i` bits. -/
def crcAfter (f : BitVec 80) (i : Nat) : BitVec 8 :=
  (List.range i).foldl (fun r k => crc8Step r (f.getLsbD (79 - k))) 0#8

theorem crcAfter_succ (i : Nat) : crcAfter f (i + 1) = crc8Step (crcAfter f i) (f.getLsbD (79 - i)) := by
  simp [crcAfter, List.range_succ]

theorem frameCrc_eq : frameCrc f = crcAfter f 72 := by
  simp [frameCrc, frameBits, crcAfter, List.foldl_map]

/-- A bit as the constant polynomial. -/
def bitPoly (c : Bool) : BitVec 80 := if c then 1#80 else 0#80

theorem bitPoly_getLsbD (c : Bool) (k : Nat) : (bitPoly c).getLsbD k = (decide (k = 0) && c) := by
  cases c <;> simp [bitPoly]

/-- One step of the register divides one more bit. -/
theorem crc8Step_setWidth (r : BitVec 8) (bit : Bool) :
    r.setWidth 80 <<< 1 ^^^ bitPoly bit <<< 8 =
      crcProduct (bitPoly (r.msb != bit)) ^^^ (crc8Step r bit).setWidth 80 := by
  decide +revert

/-- The first `i` bits, shifted by the eight places of the check, are a multiple but for the remainder. -/
theorem crcAfter_divides (f : BitVec 80) (i : Nat) (hi : i ≤ 72) : ∃ q : BitVec 80, q.toNat < 2 ^ i ∧
    (f >>> (80 - i)) <<< 8 = crcProduct q ^^^ (crcAfter f i).setWidth 80 := by
  induction i with
  | zero => exact ⟨0#80, by decide, by simp [crcProduct, crcAfter, BitVec.ushiftRight_eq_zero]⟩
  | succ i ih =>
    obtain ⟨q, hq, hfirst⟩ := ih (by omega)
    let bit := f.getLsbD (79 - i)
    let c := bitPoly ((crcAfter f i).msb != bit)
    have hnext : f >>> (80 - (i + 1)) = (f >>> (80 - i)) <<< 1 ^^^ bitPoly bit := by
      refine BitVec.eq_of_getLsbD_eq fun k hk => ?_
      rw [BitVec.getLsbD_xor, bitPoly_getLsbD, BitVec.getLsbD_shiftLeft, BitVec.getLsbD_ushiftRight,
        BitVec.getLsbD_ushiftRight]
      rcases k with _ | k
      · simp [bit, show 80 - (i + 1) = 79 - i by omega]
      · simp [hk, show 79 - i + (k + 1) = 80 - i + k by omega]
    refine ⟨q <<< 1 ^^^ c, ?_, ?_⟩
    · have hc : c.toNat < 2 := by unfold c bitPoly; split <;> decide
      have htwice : (q <<< 1).toNat < 2 ^ (i + 1) := by
        rw [BitVec.toNat_shiftLeft, Nat.shiftLeft_eq]
        exact Nat.lt_of_le_of_lt (Nat.mod_le _ _) (by rw [Nat.pow_succ]; omega)
      rw [BitVec.toNat_xor]
      exact Nat.xor_lt_two_pow htwice (Nat.lt_of_lt_of_le hc (Nat.le_self_pow (by omega) 2))
    · calc (f >>> (80 - (i + 1))) <<< 8
          = ((f >>> (80 - i)) <<< 8) <<< 1 ^^^ bitPoly bit <<< 8 := by
            rw [hnext, BitVec.shiftLeft_xor_distrib, ← BitVec.shiftLeft_add, ← BitVec.shiftLeft_add]
        _ = crcProduct (q <<< 1) ^^^ ((crcAfter f i).setWidth 80 <<< 1 ^^^ bitPoly bit <<< 8) := by
            rw [hfirst, BitVec.shiftLeft_xor_distrib, crcProduct_shiftLeft, BitVec.xor_assoc]
        _ = _ := by
            rw [crc8Step_setWidth, crcProduct_xor, crcAfter_succ, BitVec.xor_assoc]

/-- The frame, as the bits that the check covers and the check. -/
theorem frame_eq_check (f : BitVec 80) : f = (f >>> 8) <<< 8 ^^^ (f.extractLsb' 0 8).setWidth 80 := by
  refine BitVec.eq_of_getLsbD_eq fun k hk => ?_
  by_cases h : k < 8
  · simp [h, hk]
  · simp [h, hk, show 8 + (k - 8) = k by omega]

/-- A frame passes its check when it is not all 0 and divisible. -/
theorem framePasses_iff : framePasses f = true ↔
    f ≠ 0#80 ∧ ∃ q : BitVec 80, q.toNat < 2 ^ 72 ∧ f = crcProduct q := by
  obtain ⟨q, hq, hfirst⟩ := crcAfter_divides f 72 (Nat.le_refl 72)
  have hframe : f = crcProduct q ^^^ (frameCrc f ^^^ f.extractLsb' 0 8).setWidth 80 := by
    rw [BitVec.setWidth_xor, ← BitVec.xor_assoc, frameCrc_eq, ← hfirst]
    exact frame_eq_check f
  rw [framePasses, Bool.and_eq_true, bne_iff_ne, beq_iff_eq]
  refine and_congr_right fun _ => ⟨fun h => ⟨q, hq, ?_⟩, fun ⟨p, hp, hmultiple⟩ => ?_⟩
  · rw [h, BitVec.xor_self] at hframe
    simpa using hframe
  · have hrest : crcProduct (q ^^^ p) = (frameCrc f ^^^ f.extractLsb' 0 8).setWidth 80 := by
      rw [crcProduct_xor, ← hmultiple]
      conv => lhs; rw [hframe]
      rw [← BitVec.xor_assoc, BitVec.xor_self, BitVec.zero_xor]
    have hzero := crcProduct_small (by rw [BitVec.toNat_xor]; exact Nat.xor_lt_two_pow hq hp) hrest
    have hnone : (frameCrc f ^^^ f.extractLsb' 0 8).setWidth 80 = 0#80 := by rw [← hrest, hzero]; decide
    have hdiff : frameCrc f ^^^ f.extractLsb' 0 8 = 0#8 :=
      (BitVec.setWidth_setWidth_of_le _ (by decide)).symm.trans (congrArg (BitVec.setWidth 8) hnone)
    exact BitVec.xor_eq_zero_iff.1 hdiff

/-! ### The values of a good frame (R174, R177) -/

theorem extractLsb'_toNat_eq (low width : Nat) : (f.extractLsb' low width).toNat = f.toNat / 2 ^ low % 2 ^ width := by
  rw [BitVec.extractLsb'_toNat, Nat.shiftRight_eq_div_pow]

theorem feedField_eq_some {n x : Nat} : feedField n = some x ↔ n ≤ 65534 ∧ x = n := by
  unfold feedField
  split
  · next h => exact ⟨fun he => ⟨h, (Option.some.inj he).symm⟩, fun he => congrArg some he.2.symm⟩
  · next h => exact ⟨nofun, fun he => absurd he.1 h⟩

theorem clampField_eq_some {top last n x : Nat} (h : top ≤ last) :
    clampField top last n = some x ↔ n ≤ last ∧ x = min n top := by
  unfold clampField
  (repeat' split) <;> simp only [Option.some.injEq, reduceCtorEq, false_iff] <;> omega

theorem tempField_eq_some {t x : Int} : tempField t = some x ↔ -40 ≤ t ∧ t ≤ 100 ∧ x = max (-20) (min t 60) := by
  unfold tempField
  (repeat' split) <;> simp only [Option.some.injEq, reduceCtorEq, false_iff] <;> omega

theorem toInt_eq_field (x : BitVec 8) :
    x.toInt = if x.toNat < 128 then (x.toNat : Int) else (x.toNat : Int) - 256 := by
  rw [BitVec.toInt_eq_toNat_cond]
  (repeat' split) <;> omega

theorem bits_eq_iff {v : BitVec 16} : v = f.extractLsb' 64 16 ↔ ∀ k < 16, v.getLsbD k = f.getLsbD (64 + k) := by
  refine ⟨fun h k hk => by simp [h, hk], fun h => BitVec.eq_of_getLsbD_eq fun k hk => ?_⟩
  rw [h k hk, BitVec.getLsbD_extractLsb', decide_eq_true hk, Bool.true_and]

/-- A frame is good when it passes its check and no field is out of range. -/
theorem judgeFrame_eq_some {v : FrameValues} : judgeFrame f = some v ↔ framePasses f = true ∧
    feedField (f.extractLsb' 48 16).toNat = some v.feed ∧
    clampField 6500 7499 (f.extractLsb' 32 16).toNat = some v.thrust ∧
    clampField 1000 1199 (f.extractLsb' 16 16).toNat = some v.torque ∧
    tempField (f.extractLsb' 8 8).toInt = some v.temp ∧ v.bits = f.extractLsb' 64 16 := by
  obtain ⟨feed, thrust, torque, temp, bits⟩ := v
  unfold judgeFrame
  split
  · next hpass =>
    split
    · next hfeed hthrust htorque htemp =>
      simp only [hpass, hfeed, hthrust, htorque, htemp, Option.some.injEq, FrameValues.mk.injEq, true_and,
        eq_comm (b := bits)]
    · next hnone =>
      refine iff_of_false (Option.some_ne_none _).symm fun ⟨_, hfeed, hthrust, htorque, htemp, _⟩ => ?_
      exact hnone _ _ _ _ hfeed hthrust htorque htemp
  · next hpass => simp [hpass]

/-- The first clause of O35: when a frame is good, and its values. -/
theorem judgeFrame_iff (f : BitVec 80) (v : FrameValues) :
    let field := fun (low width : Nat) => f.toNat / 2 ^ low % 2 ^ width
    let temp : Int := if field 8 8 < 128 then (field 8 8 : Int) else (field 8 8 : Int) - 256
    judgeFrame f = some v ↔
      f ≠ 0#80 ∧ (∃ q : BitVec 80, q.toNat < 2 ^ 72 ∧ f = q <<< 8 ^^^ q <<< 2 ^^^ q <<< 1 ^^^ q) ∧
      field 48 16 ≤ 65534 ∧ v.feed = field 48 16 ∧
      field 32 16 ≤ 7499 ∧ v.thrust = min (field 32 16) 6500 ∧
      field 16 16 ≤ 1199 ∧ v.torque = min (field 16 16) 1000 ∧
      -40 ≤ temp ∧ temp ≤ 100 ∧ v.temp = max (-20) (min temp 60) ∧
      ∀ k < 16, v.bits.getLsbD k = f.getLsbD (64 + k) := by
  dsimp only
  rw [judgeFrame_eq_some, framePasses_iff, feedField_eq_some, clampField_eq_some (by decide),
    clampField_eq_some (by decide), tempField_eq_some, bits_eq_iff, toInt_eq_field]
  simp only [extractLsb'_toNat_eq, crcProduct, and_assoc]

end
end Sys2Proof.Machine
end

section
namespace Sys2Proof.Machine
/-! The proofs are elaborated one after another: side by side, so many ask for more threads than the memory
holds. -/
set_option Elab.async false

/-! ### The held values, the runs and the debounce (R178, R179, R181) -/

section
variable {h : Head} {k : Nat}

theorem inputMask_foldl_getLsbD (ks : List Nat) (m : BitVec 16) (hk : k < 16) :
    (ks.foldl (fun m k => m ||| (1#16 <<< k)) m).getLsbD k = (m.getLsbD k || decide (k ∈ ks)) := by
  induction ks generalizing m with
  | nil => simp
  | cons j ks ih =>
    rw [List.foldl_cons, ih, BitVec.getLsbD_or, BitVec.getLsbD_shiftLeft, Bool.or_assoc]
    congr 1
    by_cases hj : k < j
    · simp [hj, Nat.ne_of_lt hj]
    · by_cases heq : k = j
      · simp [heq]; omega
      · simp [heq, hj, hk]; omega

theorem inputMask_getLsbD (ks : List Nat) (hk : k < 16) : (inputMask ks).getLsbD k = decide (k ∈ ks) := by
  rw [inputMask, inputMask_foldl_getLsbD ks _ hk]
  simp

/-- A debounced level after a good frame. -/
theorem Head.debounce_level (bits : BitVec 16) (n : Nat) (hk : k < 16) :
    (h.debounce bits n).levels.getLsbD k =
      if h.valid then h.levels.getLsbD k ^^ h.completes bits n k else bits.getLsbD k := by
  unfold Head.debounce
  split
  · rw [BitVec.getLsbD_xor, inputMask_getLsbD _ hk]
    simp [hk]
  · rfl

/-- A change count after a good frame. -/
theorem Head.debounce_change (bits : BitVec 16) (n : Nat) (hk : k < 16) :
    (h.debounce bits n).changes.getD k 0 = if h.valid then h.countAfter bits n k else 0 := by
  unfold Head.debounce
  split
  · simp [List.getD_eq_getElem?_getD, hk]
  · rw [List.getD_eq_getElem?_getD, List.getElem?_replicate, if_pos hk, Option.getD_some]

/-- An input settles where its level is the frame's and its count is 0. -/
theorem Head.debounce_settles {bits : BitVec 16} {n : Nat} (hk : k < 16)
    (h' : h.valid = false ∨ bits.getLsbD k = h.levels.getLsbD k ∨ n ≤ h.changes.getD k 0 + 1) :
    (h.debounce bits n).levels.getLsbD k = bits.getLsbD k ∧ (h.debounce bits n).changes.getD k 0 = 0 := by
  rw [Head.debounce_level _ _ hk, Head.debounce_change _ _ hk]
  cases hvalid : h.valid with
  | false => exact ⟨rfl, rfl⟩
  | true =>
    have hmove := h'.resolve_left (by simp [hvalid])
    simp only [if_true, Head.completes, Head.countAfter]
    by_cases heq : bits.getLsbD k = h.levels.getLsbD k
    · simp [heq]
    · have hn := hmove.resolve_left heq
      simp only [heq, decide_eq_true hn, beq_iff_eq, if_false, if_pos hn, and_true,
        Bool.and_true]
      revert heq
      cases bits.getLsbD k <;> cases h.levels.getLsbD k <;> decide

/-- An input that moves and has not yet counted the debounce keeps its level. -/
theorem Head.debounce_counts {bits : BitVec 16} {n : Nat} (hk : k < 16) (hvalid : h.valid = true)
    (hmove : bits.getLsbD k ≠ h.levels.getLsbD k) (hn : h.changes.getD k 0 + 1 < n) :
    (h.debounce bits n).levels.getLsbD k = h.levels.getLsbD k ∧
      (h.debounce bits n).changes.getD k 0 = h.changes.getD k 0 + 1 := by
  rw [Head.debounce_level _ _ hk, Head.debounce_change _ _ hk, if_pos hvalid, if_pos hvalid]
  simp only [Head.completes, Head.countAfter, decide_eq_false (Nat.not_le.2 hn), Bool.and_false, Bool.xor_false,
    beq_iff_eq, if_neg hmove, if_neg (Nat.not_le.2 hn), and_self]

end

/-- A boom's chain after a good frame (R178, R179, R181). -/
theorem Head.takeGood_chain (h : Head) (v : FrameValues) (n : Nat) :
    let h' := h.takeGood v n
    h'.feed = v.feed ∧ h'.thrust = v.thrust ∧ h'.torque = v.torque ∧ h'.temp = v.temp ∧
    h'.rawBits = v.bits ∧ h'.valid = true ∧ h'.badRun = 0 ∧ h'.badTotal = h.badTotal ∧
    (h.scanLost = false → h'.scanLost = false ∧ h'.goodRun = h.goodRun) ∧
    (h.scanLost = true → h.goodRun < 2 → h'.scanLost = true ∧ h'.goodRun = h.goodRun + 1) ∧
    (h.scanLost = true → h.goodRun = 2 → h'.scanLost = false ∧ h'.goodRun = 0) ∧
    ∀ k < 16,
      let count := h.changes.getD k 0
      let new := v.bits.getLsbD k
      let done := (h'.levels.getLsbD k = new ∧ h'.changes.getD k 0 = 0)
      (h.valid = false ∨ new = h.levels.getLsbD k ∨ n ≤ count + 1 → done) ∧
      (h.valid = true → new ≠ h.levels.getLsbD k → count + 1 < n →
        h'.levels.getLsbD k = h.levels.getLsbD k ∧ h'.changes.getD k 0 = count + 1) := by
  have htotal : (h.takeGood v n).badTotal = h.badTotal := by
    unfold Head.takeGood Head.debounce
    dsimp only
    split <;> rfl
  refine ⟨rfl, rfl, rfl, rfl, rfl, rfl, rfl, htotal, fun hl => ?_, fun hl hn => ?_, fun hl hn => ?_,
    fun k hk => ⟨Head.debounce_settles hk, Head.debounce_counts hk⟩⟩
  · simp [Head.takeGood, hl]
  · simp [Head.takeGood, hl, show h.goodRun ≠ 2 by omega]
  · simp [Head.takeGood, hl, hn]

/-- A bad frame raises the runs, and sets SCAN_LOST at the fifth (R178, R179). -/
theorem Head.takeBad_eq (h : Head) :
    h.takeBad = { h with badRun := min 65535 (h.badRun + 1), badTotal := min 65535 (h.badTotal + 1), goodRun := 0
                         scanLost := h.scanLost || h.badRun == 4 } := by
  simp [Head.takeBad, Bool.beq_eq_decide_eq]

theorem Head.takeBad_fifth {h : Head} (hbad : h.badRun = 4) :
    h.takeBad = { h with badRun := 5, badTotal := min 65535 (h.badTotal + 1), goodRun := 0, scanLost := true } := by
  simp [Head.takeBad, hbad]

/-! ### What a frame does beside its events -/

section
variable {s : State} {b b' : Boom} {frame : BitVec 80}

/-- The boom's chain once the Head Scan Unit has taken a frame. -/
def Head.taken (h : Head) (frame : BitVec 80) (n : Nat) : Head :=
  match judgeFrame frame with
  | some v => h.takeGood v n
  | none => h.takeBad

theorem State.takeFrame_outer (s : State) (b : Boom) (frame : BitVec 80) :
    (s.takeFrame b frame).outer =
      ({ s with head := s.head.set b ((s.head.get b).taken frame (s.live P.debounce)) }).outer := by
  unfold State.takeFrame Head.taken
  cases judgeFrame frame <;> dsimp only <;> (repeat' split) <;> simp [State.modHead]

theorem State.scanArrival_outer (s : State) (b : Boom) (frame : BitVec 80) :
    (s.scanArrival b frame).outer = (s.takeFrame b frame).outer := by
  unfold State.scanArrival
  dsimp only
  (repeat' split) <;> simp

/-- A frame of a present boom is taken into its own chain alone. -/
theorem exec_scanFrameArrival_keeps (hpow : s.power = .running) (hpres : s.present b = true) (hb : b' ≠ b) :
    ∃ t, exec (.scanFrameArrival b frame) s = .next t ∧ t.head.get b' = s.head.get b' ∧
      ({ s with head := t.head }).Keeps t ∧ t.head.get b = (s.head.get b).taken frame (s.live P.debounce) := by
  have hsees : s.sees b := by simp [State.sees, hpow, hpres]
  obtain ⟨t, ht⟩ : ∃ t, t = s.finish (s.scanArrival b frame) := ⟨_, rfl⟩
  have houter : t.outer =
      ({ s with head := s.head.set b ((s.head.get b).taken frame (s.live P.debounce)) }).outer := by
    rw [ht, State.outer_finish, State.scanArrival_outer, State.takeFrame_outer]
  have hhead : t.head = s.head.set b ((s.head.get b).taken frame (s.live P.debounce)) := congrArg Outer.head houter
  refine ⟨t, congrArg _ ((if_pos hsees).trans ht.symm), ?_, State.keeps_of_outer ?_, ?_⟩
  · rw [hhead, PerBoom.get_set_ne _ hb]
  · rw [houter, hhead]
  · rw [hhead, PerBoom.get_set_same]

/-- A good frame's values are in their ranges (R177). -/
theorem judgeFrame_ranges {v : FrameValues} (hv : judgeFrame frame = some v) :
    v.feed ≤ 65534 ∧ v.thrust ≤ 6500 ∧ v.torque ≤ 1000 ∧ -20 ≤ v.temp ∧ v.temp ≤ 60 := by
  obtain ⟨_, hfeed, hthrust, htorque, htemp, _⟩ := judgeFrame_eq_some.1 hv
  rw [feedField_eq_some] at hfeed
  rw [clampField_eq_some (by decide)] at hthrust htorque
  rw [tempField_eq_some] at htemp
  omega

end
end Sys2Proof.Machine
end

section
namespace Sys2Proof.Machine
/-! The proofs are elaborated one after another: side by side, so many ask for more threads than the memory
holds. -/
set_option Elab.async false

/-! ### The arrival of a frame in a boom whose phase takes no sample (R180, R183) -/

section
variable {s : State} {b : Boom} {frame : BitVec 80} {v : FrameValues}

/-- A state whose phase takes no sample. -/
def Phase.quiet (p : Phase) : Prop := p ≠ .collaring ∧ p ≠ .drilling ∧ p ≠ .boltPush ∧ p ≠ .torquing

/-- The state with a boom's chain as it is after a frame, and its sample taken. -/
def State.arrived (s : State) (b : Boom) (h : Head) : State :=
  { s with head := s.head.set b h, rot := s.rot.set b { s.rot.get b with samplePulses := 0 } }

theorem State.workSample_quiet (h : (s.seq.get b).state.quiet) (n : Nat) : s.workSample b n = s := by
  obtain ⟨hcollaring, hdrilling, hpush, htorquing⟩ := h
  unfold State.workSample
  split
  · next h => exact absurd h hcollaring
  · next h => exact absurd h hdrilling
  · next h => exact absurd h hpush
  · next h => exact absurd h htorquing
  · rfl

/-- A good frame in a quiet boom gives its input events, and cause OPERATOR where the guard is open. -/
theorem State.scanArrival_good (hv : judgeFrame frame = some v) (hlost : (s.head.get b).scanLost = false)
    (hvalid : (s.head.get b).valid = true) (hquiet : (s.seq.get b).state.quiet) :
    let u := s.arrived b ((s.head.get b).takeGood v (s.live P.debounce))
    let w := u.takeInputs b (s.newInputs u b)
    s.scanArrival b frame = if w.active b Input.guardClosed then w else w.arrive b .operator := by
  intro u w
  have hset : (s.head.get b).losesScan frame = false := by simp [Head.losesScan, hv]
  have hu : (s.sampled b v).modRot b (fun r => { r with samplePulses := 0 }) = u := rfl
  have hnew : s.newInputs (s.sampled b v) b = s.newInputs u b := rfl
  unfold State.scanArrival
  dsimp only
  rw [State.takeFrame_good hv hlost, hset, hvalid, hu, hnew, State.workSample_quiet (s := u) hquiet]
  rfl

/-- A good frame without an input event that finds the guard open hands cause OPERATOR. -/
theorem State.scanArrival_open (hv : judgeFrame frame = some v) (hlost : (s.head.get b).scanLost = false)
    (hvalid : (s.head.get b).valid = true) (hquiet : (s.seq.get b).state.quiet)
    (hguard : (s.arrived b ((s.head.get b).takeGood v (s.live P.debounce))).active b Input.guardClosed = false)
    (hnew : s.newInputs (s.arrived b ((s.head.get b).takeGood v (s.live P.debounce))) b = []) :
    s.scanArrival b frame = (s.arrived b ((s.head.get b).takeGood v (s.live P.debounce))).arrive b .operator := by
  rw [State.scanArrival_good hv hlost hvalid hquiet, hnew, State.takeInputs_nil]
  exact if_neg (ne_true_of_eq_false hguard)

/-- The fifth bad frame in a row hands cause SCAN, and no input event. -/
theorem State.scanArrival_fifth (hv : judgeFrame frame = none) (hbad : (s.head.get b).badRun = 4)
    (hguard : s.active b Input.guardClosed = true) (hquiet : (s.seq.get b).state.quiet) :
    s.scanArrival b frame =
      ((s.arrived b (s.head.get b).takeBad).report (.interlock (.scanLost b true))).arrive b .scan := by
  let y := (s.arrived b (s.head.get b).takeBad).report (.interlock (.scanLost b true))
  have hset : (s.head.get b).losesScan frame = true := by simp [Head.losesScan, hv, hbad]
  have htake : s.takeFrame b frame = (s.modHead b Head.takeBad).report (.interlock (.scanLost b true)) := by
    unfold State.takeFrame
    dsimp only
    rw [if_pos hset, hv]
  have hactive (k : Nat) : y.active b k = s.active b k := by
    have hhead : y.head.get b = (s.head.get b).takeBad := PerBoom.get_set_same _ _ _
    rw [State.active, hhead]
    rfl
  have hnone : s.newInputs y b = [] := List.filter_eq_nil_iff.2 fun k _ => by rw [hactive]; simp
  have hy : ((s.modHead b Head.takeBad).report (.interlock (.scanLost b true))).modRot b
      (fun r => { r with samplePulses := 0 }) = y := rfl
  have hlevels : s.newInputs ((s.modHead b Head.takeBad).report (.interlock (.scanLost b true))) b = [] := hnone
  unfold State.scanArrival
  dsimp only
  rw [htake, hy, hlevels, ite_self, State.takeInputs_nil, State.workSample_quiet (s := y) hquiet, hset, if_pos rfl]
  exact congrArg (State.arrive · b .scan) (if_pos ((hactive _).trans hguard))

/-- A frame's command, from what its arrival leaves. -/
theorem exec_scanFrameArrival {x : State} (hpow : s.power = .running) (hpres : s.present b = true)
    (hx : s.scanArrival b frame = x) (hstill : x.still = true) :
    ∃ t, exec (.scanFrameArrival b frame) s = .next t ∧ x.Ends t :=
  State.ends_when (by simp [State.sees, hpow, hpres]) hx hstill

/-- A single input event in a quiet boom with its guard closed. -/
theorem exec_inputEvent {x : State} {k : Nat} (hpow : s.power = .running) (hpres : s.present b = true)
    (hv : judgeFrame frame = some v) (hlost : (s.head.get b).scanLost = false)
    (hvalid : (s.head.get b).valid = true) (hquiet : (s.seq.get b).state.quiet)
    (hguard : (s.arrived b ((s.head.get b).takeGood v (s.live P.debounce))).active b Input.guardClosed = true)
    (hnew : s.newInputs (s.arrived b ((s.head.get b).takeGood v (s.live P.debounce))) b = [k])
    (hx : State.takeInput b (s.arrived b ((s.head.get b).takeGood v (s.live P.debounce))) k = x)
    (hstill : x.still = true) : ∃ t, exec (.scanFrameArrival b frame) s = .next t ∧ x.Ends t := by
  refine exec_scanFrameArrival hpow hpres ?_ hstill
  rw [State.scanArrival_good hv hlost hvalid hquiet, hnew, State.takeInputs_single, hx]
  refine if_pos ((State.active_of_outer ?_ _).trans hguard)
  rw [← hx, State.outer_takeInput]

/-! ### A pause cause in each state (R17, R23) -/

/-- A quiet phase's workers have no demand to set aside. -/
theorem State.pauseBoom_quiet (hquiet : (s.seq.get b).state.quiet) (c : Cause) :
    let q := s.seq.get b
    let q' := q.suspended q.state c
    s.pauseBoom b c = ({ s with seq := s.seq.set b q' }).report (phaseNote b q.state q') := by
  intro q q'
  obtain ⟨hcollaring, hdrilling, hpush, htorquing⟩ := hquiet
  have hgov : (s.gov.get b).suspended q.state = s.gov.get b := if_neg (not_or.2 ⟨hcollaring, hdrilling⟩)
  have hsett : (s.sett.get b).pause q.state = s.sett.get b := by
    unfold Setting.pause
    split
    · next h => exact absurd h hpush
    · next h => exact absurd h htorquing
    · rfl
  rw [State.pauseBoom_eq, hgov, hsett, PerBoom.set_get, PerBoom.set_get]

/-- What a cause does in each state of the boom, where `taken` holds of what an arrival of the cause leaves. -/
theorem State.arrive_clauses {taken : State → Prop} {k : Cause} (hk : k ≠ .gas) (hcalm : s.calm = true)
    (hrun : (s.seq.get b).state.quiet → ∀ x, s.arrive b k = x → x.still = true → taken x) :
    let q := s.seq.get b
    let quiet := q.state ≠ .collaring ∧ q.state ≠ .drilling ∧ q.state ≠ .boltPush ∧ q.state ≠ .torquing
    (q.state.automatic = true → q.state ≠ .mixing → quiet →
      let q' := q.suspended q.state k
      taken (({ s with seq := s.seq.set b q' }).report (phaseNote b q.state q'))) ∧
    (q.state = .mixing → q.deferred.has k = false →
      let q' := { q with deferred := q.deferred.add k }
      taken (({ s with seq := s.seq.set b q' }).report (phaseNote b .mixing q'))) ∧
    (q.state = .paused → q.causes.has k = false →
      let q' := { q with causes := q.causes.add k }
      taken (({ s with seq := s.seq.set b q' }).report (phaseNote b .paused q'))) ∧
    ((q.state.automatic = false ∧ q.state ≠ .paused) ∨ (q.state = .mixing ∧ q.deferred.has k = true) ∨
      (q.state = .paused ∧ q.causes.has k = true) → taken s) := by
  intro q quiet
  have hmixing (h : q.state = .mixing) : (s.seq.get b).state.quiet := by rw [h]; simp [Phase.quiet]
  have hpaused (h : q.state = .paused) : (s.seq.get b).state.quiet := by rw [h]; simp [Phase.quiet]
  have hsame : s.still = true := State.still_of_calm hcalm
  refine ⟨fun hauto hm hq => ?_, fun hm hnot => ?_, fun hp hnot => ?_, ?_⟩
  · exact hrun hq _ ((State.arrive_automatic hauto hm k).trans (State.pauseBoom_quiet hq k))
      (State.still_of_calm (by exact hcalm))
  · exact hrun (hmixing hm) _ ((State.arrive_mixing hm hk).trans (if_neg (ne_true_of_eq_false hnot)))
      (State.still_of_calm (by exact hcalm))
  · exact hrun (hpaused hp) _ ((State.arrive_paused hp k).trans (if_neg (ne_true_of_eq_false hnot)))
      (State.still_of_calm (by exact hcalm))
  · rintro (⟨hauto, hp⟩ | ⟨hm, hin⟩ | ⟨hp, hin⟩)
    · refine hrun ?_ _ (State.arrive_resting hauto hp k) hsame
      refine ⟨?_, ?_, ?_, ?_⟩ <;> (intro h; rw [show (s.seq.get b).state = _ from h] at hauto; cases hauto)
    · exact hrun (hmixing hm) _ ((State.arrive_mixing hm hk).trans (if_pos hin)) hsame
    · exact hrun (hpaused hp) _ ((State.arrive_paused hp k).trans (if_pos hin)) hsame

end
end Sys2Proof.Machine
end

section
namespace Sys2Proof.Machine
/-! The proofs are elaborated one after another: side by side, so many ask for more threads than the memory
holds. -/
set_option Elab.async false

/-! ### The input events of the drilling phases, the setting and the release (R7, R14, R16, R38, R63) -/

section
variable {s : State} {b : Boom} {r : HoleRecord}

/-- The Governor at its entry into APPROACH (R63, R64). -/
theorem State.startApproach_eq (hrec : s.rec? b = some r) :
    s.startApproach b = { s with gov := s.gov.set b { s.gov.get b with
      stage := .approach, cls := none, feedTarget := 0, rpmTarget := 0, thrustCap := 0
      band := r.bandAt (s.prof.get b).maxDepth
      feedUp := r.param P.approachFeed * r.param P.feedFlowScale, feedDown := 0
      rotFwd := r.param P.collarRpm * r.param P.rotDisplacement / 100, flush := true
      backingOff := false, backoffTarget := 0, approachStall := false
      flushTimer := { running := false, ticks := 0 }, outcome := none, lastFeed := (s.head.get b).feed } } := by
  simp only [State.startApproach, State.modGov, State.approachDemands_eq hrec, State.bandInForce_of_rec hrec]
  rfl

/-- JACK_AT_ROOF takes JACK_SET to COLLARING (R7, R38, R63, R64). -/
theorem State.jackAtRoof_eq {f : Nat} (hrec : s.rec? b = some r) (hfeed : (s.head.get b).feed = f)
    (hq : (s.seq.get b).state = .jackSet) (hfree : s.blocked b .collaring = false) :
    let q := { (s.seq.get b).entering .collaring true with jackUp := 0 }
    let g := { s.gov.get b with
      stage := .approach, cls := none, feedTarget := 0, rpmTarget := 0, thrustCap := 0
      band := r.bandAt 0, feedUp := r.param P.approachFeed * r.param P.feedFlowScale, feedDown := 0
      rotFwd := r.param P.collarRpm * r.param P.rotDisplacement / 100, flush := true
      backingOff := false, backoffTarget := 0, approachStall := false
      flushTimer := { running := false, ticks := 0 }, outcome := none, lastFeed := f }
    let p : Profiler := { mode := .armed, collarRef := none, depth := 0, maxDepth := 0, nextTop := 0
                          jumps := 0, openSeg := none }
    s.jackAtRoof b = ({ s with seq := s.seq.set b q, gov := s.gov.set b g, prof := s.prof.set b p
                               rot := s.rot.set b (s.rot.get b).cleared }).report (phaseNote b .jackSet q) := by
  intro q g p
  let y := ({ s with seq := s.seq.set b q, prof := s.prof.set b p }).report (phaseNote b .jackSet q)
  have hprof : y.prof.get b = p := PerBoom.get_set_same _ _ _
  have happroach := State.startApproach_eq (s := y) (b := b) hrec
  rw [hprof, show (y.head.get b).feed = f from hfeed] at happroach
  unfold State.jackAtRoof State.enterCollaring
  rw [if_pos hq, if_neg (ne_true_of_eq_false hfree), State.enterPhase_eq, hq]
  exact congrArg (State.clearRotation · b) happroach

/-- BOLT_PRESENT takes AWAIT_BOLT to BOLT_PUSH (R14, R100). -/
theorem State.boltPresent_eq {f : Nat} (hrec : s.rec? b = some r) (hfeed : (s.head.get b).feed = f)
    (hq : (s.seq.get b).state = .awaitBolt) (hfree : s.blocked b .boltPush = false) :
    let q := (s.seq.get b).entering .boltPush true
    let c := { s.sett.get b with
      stage := .push, pushOrigin := some f, pushAdvance := 0
      feedUp := r.param P.pushFeed * r.param P.feedFlowScale
      rotFwd := r.param P.pushRpm * r.param P.rotDisplacement / 100 }
    s.boltPresent b = ({ s with seq := s.seq.set b q, sett := s.sett.set b c }).report (phaseNote b .awaitBolt q) := by
  intro q c
  have hpush := State.enterBoltPush_eq hfree
  simp only [State.hp_of_rec hrec, hfeed, hq] at hpush
  exact (if_pos hq).trans hpush

/-- The Bit Rack's take of a close changes the bits and the line alone (R199). -/
theorem State.bitClose_frame {y : State} {l : Link} {st : Store} {bs : List BitPos}
    (hy : y = { s with link := l, store := st, bits := bs }) (k : Nat) :
    ∃ l st bs, y.bitClose b k = { s with link := l, store := st, bits := bs } := by
  subst hy
  unfold State.bitClose
  dsimp only
  split
  · exact ⟨_, _, _, rfl⟩
  · exact ⟨_, _, _, rfl⟩

/-- A close changes the records, the bits and the line alone (R194). -/
theorem State.closeRecord_frame (s : State) (b : Boom) (c : Option Closing) (w : Option HaltReason) :
    ∃ l st bs, s.closeRecord b c w = { s with link := l, store := st, bits := bs } := by
  unfold State.closeRecord
  cases s.rec? b with
  | none => exact ⟨s.link, s.store, s.bits, rfl⟩
  | some r => exact State.bitClose_frame rfl _

theorem State.closeRecord_calm (h : s.calm = true) (c : Option Closing) (w : Option HaltReason) :
    (s.closeRecord b c w).calm = true := by
  obtain ⟨l, st, bs, hz⟩ := s.closeRecord_frame b c w
  rw [hz]
  exact h

/-- JACK_LOWERED once JACK_DOWN has started closes the hole (R16, R194). -/
theorem State.jackLowered_eq (hq : (s.seq.get b).state = .releasing) (hstarted : (s.seq.get b).jackDownStarted = true) :
    let q := s.seq.get b
    let z := s.closeRecord b q.closing q.haltReason
    let q' := { q.entering .idle false with
      jackUp := 0, jackDown := 0, feedDown := 0, jackDownStarted := false, hole := none, closing := none
      haltReason := none, stoppedFrom := none }
    s.jackLowered b = ({ z with
      prof := s.prof.set b .reset, gov := s.gov.set b .reset, sett := s.sett.set b .reset
      seq := s.seq.set b q' }).report (phaseNote b .releasing q') := by
  intro q z q'
  obtain ⟨l, st, bs, hz⟩ := s.closeRecord_frame b (s.seq.get b).closing (s.seq.get b).haltReason
  unfold State.jackLowered
  dsimp only
  rw [if_pos (by simp [hq, hstarted])]
  unfold State.closeHole
  dsimp only
  rw [State.enterPhase_eq]
  simp only [z, q, hz]
  exact congrArg (fun p => State.report _ (phaseNote b p q')) hq

/-- FEED_RETRACTED in RELEASING starts JACK_DOWN (R16). -/
theorem State.feedRetracted_releasing (hq : (s.seq.get b).state = .releasing)
    (hstarted : (s.seq.get b).jackDownStarted = false) (hlow : s.active b Input.jackLowered = false) :
    s.feedRetracted b = { s with seq := s.seq.set b { s.seq.get b with
      feedDown := 0, jackDown := s.valve.qmaxOf (.boom b .jackDown), jackDownStarted := true } } := by
  unfold State.feedRetracted
  dsimp only
  rw [if_neg (by simp [hq]), if_pos (by simp [hq, hstarted])]
  exact if_neg (ne_true_of_eq_false hlow)

/-- INJECTOR_READY takes the waiting Indexer to EJECTING (R132). -/
theorem State.readySync_ejects (hwait : s.idx.state = .awaitReady) (hq : s.idx.queue.head?.map Burst.boom = some b)
    (hpaused : s.requesterPaused b = false) (hready : s.active b Input.injectorReady = true) :
    s.readySync = { s with idx := { s.idx with
      state := .ejecting, readyTimer := { s.idx.readyTimer with running := false }
      passTimer := { running := true, ticks := 0 } } } := by
  obtain ⟨w, hw, rfl⟩ := Option.map_eq_some_iff.1 hq
  unfold State.readySync
  rw [if_pos hwait, hw]
  exact (if_neg (ne_true_of_eq_false hpaused)).trans (if_pos hready)

/-- FLUSH_PRESSURE_OK takes FLUSH out of a PAUSED boom's causes (R78). -/
theorem State.flushReturned_eq (hp : (s.seq.get b).state = .paused) (hflush : (s.seq.get b).causes.flush = true) :
    let q := { s.seq.get b with causes := { (s.seq.get b).causes with flush := false } }
    s.flushReturned b = ({ s with seq := s.seq.set b q }).report (phaseNote b .paused q) := by
  intro q
  unfold State.flushReturned
  dsimp only
  rw [if_pos (by simp [hp, hflush]), State.modSeq_notePhase]
  exact congrArg (fun p => State.report { s with seq := s.seq.set b q } (phaseNote b p q)) hp

end
end Sys2Proof.Machine
end

section
namespace Sys2Proof.Machine
/-! The proofs are elaborated one after another: side by side, so many ask for more threads than the memory
holds. -/
set_option Elab.async false

/-! ### The plan call at FEED_RETRACTED (R10, R84 to R90) -/

section
variable {s : State} {b : Boom} {r : HoleRecord}

/-- The entry into AWAIT_DECISION with the record's plan (R10, R11). -/
theorem State.enterAwaitDecision_eq {p : Plan} (hrec : s.rec? b = some r) (hplan : r.plan = some p) (c : ChoiceSet) :
    let q := { (s.seq.get b).entering .awaitDecision false with choices := c }
    s.enterAwaitDecision b c = (({ s with seq := s.seq.set b q }).report (phaseNote b (s.seq.get b).state q)).report
      (.decisionNeeded b (q.hole.getD 0) p.flags.anchorWeak c) := by
  intro q
  let y := ({ s with seq := s.seq.set b q }).report (phaseNote b (s.seq.get b).state q)
  have hy : (s.enterPhase b .awaitDecision fun q => { q with choices := c }) = y := State.enterPhase_eq _ _ _ _
  have hyq : y.seq.get b = q := PerBoom.get_set_same _ _ _
  have hyrec : y.rec? b = some r := hrec
  unfold State.enterAwaitDecision State.sendDecision
  rw [hy]
  simp only [hyq, hyrec, Option.bind_some, hplan]
  rfl

/-- The state in which the plan of the call is in the record. -/
def State.planned (s : State) (b : Boom) (r : HoleRecord) : State :=
  { s with
    store := { s.store with opened := s.store.opened.set b (some { r with plan := some r.planCall.1 }) }
    seq := s.seq.set b { s.seq.get b with feedDown := 0 } }

theorem State.feedRetracted_plan (hrec : s.rec? b = some r) (hq : (s.seq.get b).state = .retracting) :
    s.feedRetracted b = match r.planCall.2 with
    | .ready => (s.planned b r).enterResinInsert b
    | .boltLong => (s.planned b r).enterAwaitDecision b r.boltLongChoices
    | .anchorWeak => (s.planned b r).enterAwaitDecision b anchorWeakChoices := by
  have hmod := State.modRec_of_rec (s := s.modSeq b fun q => { q with feedDown := 0 }) hrec
    fun x => { x with plan := some r.planCall.1 }
  have hrec' : (s.modSeq b fun q => { q with feedDown := 0 }).rec? b = some r := hrec
  unfold State.feedRetracted State.planHole
  dsimp only
  rw [if_pos hq]
  rw [hrec']
  dsimp only
  rw [hmod]
  rfl

/-- A plan that needs a decision, and the choices it offers (R10, R11). -/
theorem State.enterAwaitDecision_planned (c : ChoiceSet) :
    let q := { (s.seq.get b).entering .awaitDecision false with feedDown := 0, choices := c }
    (s.planned b r).enterAwaitDecision b c = (({ s with
      store := { s.store with opened := s.store.opened.set b (some { r with plan := some r.planCall.1 }) }
      seq := s.seq.set b q }).report (phaseNote b (s.seq.get b).state q)).report
      (.decisionNeeded b (q.hole.getD 0) r.planCall.1.flags.anchorWeak c) := by
  intro q
  have hrec : (s.planned b r).rec? b = some { r with plan := some r.planCall.1 } := PerBoom.get_set_same _ _ _
  have hseq : (s.planned b r).seq.get b = { s.seq.get b with feedDown := 0 } := PerBoom.get_set_same _ _ _
  refine (State.enterAwaitDecision_eq hrec rfl c).trans ?_
  rw [hseq]
  simp only [State.planned, PerBoom.set_set]
  rfl

/-- A plan that is ready: the boom is in RESIN_INSERT and its burst in the queue of a serving Indexer (R13). -/
theorem State.enterResinInsert_planned (hidle : s.idx.state ≠ .idle) (hstarved : s.idx.state ≠ .starved)
    (hstop : s.diu.estop = false) :
    let q := { (s.seq.get b).entering .resinInsert false with feedDown := 0 }
    let burst : Burst := { boom := b, hole := r.number, types := r.planCall.1.types.getD [], progress := 0
                           delivered := [] }
    (s.planned b r).enterResinInsert b = ({ s with
      store := { s.store with opened := s.store.opened.set b (some { r with plan := some r.planCall.1 }) }
      seq := s.seq.set b q, indexJog := 0
      idx := { s.idx with queue := s.idx.queue ++ [burst] } }).report (phaseNote b (s.seq.get b).state q) := by
  intro q burst
  let y := ({ s with
    store := { s.store with opened := s.store.opened.set b (some { r with plan := some r.planCall.1 }) }
    seq := s.seq.set b q }).report (phaseNote b (s.seq.get b).state q)
  have hseq : (s.planned b r).seq.get b = { s.seq.get b with feedDown := 0 } := PerBoom.get_set_same _ _ _
  have henter : (s.planned b r).enterPhase b .resinInsert id = y := by
    rw [State.enterPhase_eq, hseq]
    simp only [State.planned, PerBoom.set_set]
    rfl
  have hyrec : y.rec? b = some { r with plan := some r.planCall.1 } := PerBoom.get_set_same _ _ _
  have hyidx : y.idx.state = s.idx.state := rfl
  unfold State.enterResinInsert
  rw [henter, State.postBurst_eq hyrec hstop, hyidx]
  split
  · next h => exact absurd h hidle
  · next h => exact absurd h hstarved
  · rfl

/-- FEED_RETRACTED in RETRACTING, where the plan needs a decision (R10, R11). -/
theorem State.feedRetracted_asks {p : Plan} {c : ChoiceSet} (hrec : s.rec? b = some r)
    (hq : (s.seq.get b).state = .retracting)
    (hcall : (r.planCall = (p, .boltLong) ∧ r.boltLongChoices = c) ∨
      (r.planCall = (p, .anchorWeak) ∧ anchorWeakChoices = c)) :
    let q := { (s.seq.get b).entering .awaitDecision false with feedDown := 0, choices := c }
    s.feedRetracted b = (({ s with
      store := { s.store with opened := s.store.opened.set b (some { r with plan := some p }) }
      seq := s.seq.set b q }).report (phaseNote b .retracting q)).report
      (.decisionNeeded b (q.hole.getD 0) p.flags.anchorWeak c) := by
  intro q
  have hasks := State.enterAwaitDecision_planned (s := s) (b := b) (r := r) c
  have hplan := State.feedRetracted_plan hrec hq
  rcases hcall with ⟨hcall, hc⟩ | ⟨hcall, hc⟩
  · simp only [hcall, hc] at hplan
    simp only [hcall, hq] at hasks
    exact hplan.trans hasks
  · simp only [hcall, hc] at hplan
    simp only [hcall, hq] at hasks
    exact hplan.trans hasks

/-- FEED_RETRACTED in RETRACTING, where the plan is ready and the Indexer serves another burst or is in FAULT (R13). -/
theorem State.feedRetracted_ready {p : Plan} (hrec : s.rec? b = some r) (hq : (s.seq.get b).state = .retracting)
    (hcall : r.planCall = (p, .ready)) (hidle : s.idx.state ≠ .idle) (hstarved : s.idx.state ≠ .starved)
    (hstop : s.diu.estop = false) :
    let q := { (s.seq.get b).entering .resinInsert false with feedDown := 0 }
    let burst : Burst := { boom := b, hole := r.number, types := p.types.getD [], progress := 0, delivered := [] }
    s.feedRetracted b = ({ s with
      store := { s.store with opened := s.store.opened.set b (some { r with plan := some p }) }
      seq := s.seq.set b q, indexJog := 0
      idx := { s.idx with queue := s.idx.queue ++ [burst] } }).report (phaseNote b .retracting q) := by
  intro q burst
  have hinsert := State.enterResinInsert_planned (r := r) hidle hstarved hstop (b := b)
  have hplan := State.feedRetracted_plan hrec hq
  simp only [hcall] at hplan
  simp only [hcall, hq] at hinsert
  exact hplan.trans hinsert

end

/-! ### The cartridge (R133, R137) -/

section
variable {s : State} {b : Boom} {w : Burst}

/-- A CARTRIDGE_PASSED that the Indexer does not wait for is stray. -/
theorem State.cartridgePassed_stray (h : s.idx.state ≠ .ejecting ∨ s.idx.selected = none ∨
      s.idx.queue.head?.map Burst.boom ≠ some b) :
    s.cartridgePassed b = { s with idx := { s.idx with strayPass := min 65535 (s.idx.strayPass + 1) } } := by
  unfold State.cartridgePassed
  cases hw : s.idx.queue.head? with
  | none => rfl
  | some w =>
    cases hn : s.idx.selected with
    | none => rfl
    | some n =>
      refine if_neg ?_
      rw [hw, hn] at h
      simpa [Classical.not_and_iff_not_or_not, -not_and] using h

/-- The end DONE of a burst takes its boom to AWAIT_BOLT (R14, R137). -/
theorem State.seqBurstEnd_done (hq : (s.seq.get b).state = .resinInsert) (hpend : (s.seq.get b).abortPending = false)
    (hbolt : s.active b Input.boltPresent = false) :
    let q := (s.seq.get b).entering .awaitBolt false
    s.seqBurstEnd b .done = ({ s with seq := s.seq.set b q }).report (phaseNote b .resinInsert q) := by
  intro q
  have hphase : s.phase b = .resinInsert := (State.phase_eq (by simp [hq])).trans hq
  have henter : s.enterPhase b .awaitBolt id =
      ({ s with seq := s.seq.set b q }).report (phaseNote b .resinInsert q) := by
    rw [State.enterPhase_eq, hq]
    rfl
  unfold State.seqBurstEnd State.enterAwaitBolt
  dsimp only
  rw [if_neg (Classical.not_not.2 hphase), if_neg (ne_true_of_eq_false hpend), if_neg (by simp [hq]), henter]
  exact if_neg (ne_true_of_eq_false hbolt)

/-- The last cartridge of a burst alone in the queue: it is accounted, the burst ends DONE, and its boom is in
AWAIT_BOLT (R133, R137). -/
theorem State.cartridgePassed_last {r : HoleRecord} {n : Nat} {ty : CartType} (hrec : s.rec? b = some r)
    (hstate : s.idx.state = .ejecting) (hqueue : s.idx.queue = [w]) (hboom : w.boom = b)
    (hsel : s.idx.selected = some n) (hty : (s.idx.slot n).type = some ty)
    (hlast : w.types.length = w.progress + 1)
    (hq : (s.seq.get b).state = .resinInsert) (hpend : (s.seq.get b).abortPending = false)
    (hbolt : s.active b Input.boltPresent = false) :
    let q := (s.seq.get b).entering .awaitBolt false
    s.cartridgePassed b = (({ s with
      store := { s.store with
        opened := s.store.opened.set b (some { r with delivered := r.delivered ++ [(n, ty)] }) }
      seq := s.seq.set b q
      idx := { s.idx.unserved with
        slots := s.idx.slots.set n { state := .empty, type := none, seq := none, fails := 0 }
        queue := [], state := .idle } }).report (phaseNote b .resinInsert q)).report
      (.burst b w.hole .done w.types.length (w.delivered ++ [(n, ty)])) := by
  intro q
  let w' : Burst := { w with progress := w.progress + 1, delivered := w.delivered ++ [(n, ty)] }
  let s1 : State := { s with
    store := { s.store with
      opened := s.store.opened.set b (some { r with delivered := r.delivered ++ [(n, ty)] }) }
    idx := s.idx.account n ty }
  let s2 : State := { s1 with idx := { s1.idx.unserved with queue := [], state := .idle } }
  have hqueue1 : s1.idx.queue = [w'] := by simp only [s1, Indexer.account, hqueue, w']
  have hidx2 : s2.idx = { s.idx.unserved with
      slots := s.idx.slots.set n { state := .empty, type := none, seq := none, fails := 0 }
      queue := [], state := .idle } := rfl
  have hrecorded : (s.modIdx fun x => x.account n ty).modRec b
      (fun c => { c with delivered := c.delivered ++ [(n, ty)] }) = s1 :=
    State.modRec_of_rec (s := s.modIdx fun x => x.account n ty) hrec _
  have hend := State.seqBurstEnd_done (s := s2) hq hpend hbolt
  have hpassed : s.cartridgePassed b = s1.endBurst .done := by
    unfold State.cartridgePassed
    rw [hqueue, hsel]
    dsimp only [List.head?_cons]
    rw [if_pos (by simp [hstate, hboom]), hty, Option.getD_some, hrecorded]
    exact if_pos (Nat.le_of_eq hlast)
  rw [hpassed, State.endBurst_alone hqueue1]
  unfold State.notifyEnd
  rw [show w'.boom = b from hboom, show State.seqBurstEnd { s1 with idx := _ } b .done = _ from hend]
  exact State.takeHead_nil rfl

end
end Sys2Proof.Machine
end

section
namespace Sys2Proof.Machine
/-! The proofs are elaborated one after another: side by side, so many ask for more threads than the memory
holds. -/
set_option Elab.async false

/-! ### A head frame (O35) -/

/-- The plan call, its tests of the Segment Table written out (R86, R88 to R90). -/
theorem HoleRecord.planCall_eq (r : HoleRecord) :
    let bt := r.spec.boltLen - r.param P.tailLength
    let weak := r.segments.any fun y => (y.cls = .void || y.cls = .soft) &&
      y.top < bt * 10 && (bt - r.param P.anchorZone) * 10 < y.bottom
    let allow := r.param P.collarAllowance
    let le := bt - allow
    let nv := if le = 0 then 0 else (r.segments.filter fun y =>
      y.cls = .void && y.top < bt * 10 && allow * 10 < y.bottom).length
    let long : Plan := {
      pass := r.newPlan.pass, status := .held, dd := r.drilledDepth.getD 0 / 10, bt := bt
      flags := { boltLong := true, anchorWeak := false, shortResin := false }
      le := none, nv := none, nfEff := none, vreq := none, ns := none, types := none }
    let plan := { long with
      le := some le, nv := some nv
      flags := { boltLong := false, anchorWeak := weak, shortResin := false } }
    r.planCall = if r.drilledDepth.getD 0 / 10 < bt then (long, .boltLong)
      else if weak = true ∧ r.param P.anchorPolicy ≠ 0 then (plan, .anchorWeak)
      else (r.complete plan (r.spec.fastCount + if weak then 1 else 0), .ready) := by
  intro bt weak allow le nv long plan
  have hweak : r.anchorWeak = weak := by
    simp only [HoleRecord.anchorWeak, Segment.within, weak, Bool.and_assoc]
    rfl
  have hvoids : r.voids = nv := by
    simp only [HoleRecord.voids, Segment.within, nv, Bool.and_assoc]
    rfl
  unfold HoleRecord.planCall
  dsimp only
  rw [hweak, hvoids]
  refine ite_congr rfl (fun _ => rfl) fun _ => ?_
  by_cases hw : weak = true
  · refine (if_neg (by simp [hw])).trans ?_
    by_cases hpolicy : r.param P.anchorPolicy = 0
    · have hnot : ¬ (weak = true ∧ r.param P.anchorPolicy ≠ 0) := fun h => h.2 hpolicy
      rw [if_neg hnot, if_pos hw]
      exact if_pos hpolicy
    · exact (if_neg hpolicy).trans (if_pos ⟨hw, hpolicy⟩).symm
  · rw [if_neg (not_and.2 fun h => absurd h hw), if_neg hw]
    exact if_pos (by simp [hw])

theorem State.active_of_newInputs {s u : State} {b : Boom} {k : Nat} (h : s.newInputs u b = [k]) :
    u.active b k = true := by
  have hk : k ∈ s.newInputs u b := by simp [h]
  have hboth := (List.mem_filter.1 hk).2
  rw [Bool.and_eq_true] at hboth
  exact hboth.1

/-- Settles O35: the check as a division of polynomials; the arrival as one chain's step, and then as the one input
event or the one cause that it gives. -/
theorem headFrameTaken : Obligations.HeadFrameTaken := by
  refine ⟨judgeFrame_iff, fun b b' frame s hpow hpres hb => ?_⟩
  intro h
  refine ⟨?chain, fun hcalm => ?_⟩
  case chain =>
    obtain ⟨t, ht, hother, hkeeps, htaken⟩ := exec_scanFrameArrival_keeps (frame := frame) hpow hpres hb
    refine ⟨t, ht, hother, hkeeps, ?_⟩
    intro h'
    have hh' : h' = h.taken frame (s.live P.debounce) := htaken
    unfold Head.taken at hh'
    cases hj : judgeFrame frame with
    | none =>
      rw [hj] at hh'
      exact hh'.trans h.takeBad_eq
    | some v =>
      rw [hj] at hh'
      obtain ⟨hfeed, hthrust, htorque, htempLow, htempHigh⟩ := judgeFrame_ranges hj
      rw [show h' = h.takeGood v (s.live P.debounce) from hh']
      exact ⟨hfeed, hthrust, htorque, htempLow, htempHigh, h.takeGood_chain v (s.live P.debounce)⟩
  intro q c g x quiet after taken paused
  refine ⟨fun hj hbad hguard => ?_, fun v hj hlost hvalid hq => ?_⟩
  · let lost := { h with badRun := 5, badTotal := min 65535 (h.badTotal + 1), goodRun := 0, scanLost := true }
    refine State.arrive_clauses (s := (s.arrived b lost).report (.interlock (.scanLost b true))) (b := b)
      (taken := taken) (k := .scan) (by decide) (by exact hcalm) fun hq x hx hstill => ?_
    refine exec_scanFrameArrival hpow hpres ((State.scanArrival_fifth hj hbad hguard hq).trans ?_) hstill
    rw [Head.takeBad_fifth hbad]
    exact hx
  intro u
  refine ⟨fun hopen hnew => ?_, fun hclosed r hrec => ?_⟩
  · refine State.arrive_clauses (s := u) (b := b) (taken := taken) (k := .operator) (by decide)
      (by exact hcalm) fun _ x hx hstill => ?_
    exact exec_scanFrameArrival hpow hpres ((State.scanArrival_open hj hlost hvalid hq hopen hnew).trans hx) hstill
  have event (k : Nat) (x : State) (hnew : s.newInputs u b = [k]) (hx : State.takeInput b u k = x)
      (hstill : x.calm = true) : taken x :=
    exec_inputEvent hpow hpres hj hlost hvalid hq hclosed hnew hx (State.still_of_calm hstill)
  have hrec' : u.rec? b = some r := hrec
  have hfeed : (u.head.get b).feed = v.feed := congrArg Head.feed (PerBoom.get_set_same _ _ _)
  refine ⟨?roof, ?plan, ?down, ?lowered, ?bolt, ?injector, ?cartridge, ?flush⟩
  case roof =>
    intro hnew hstate hfree
    exact event _ _ hnew (State.jackAtRoof_eq hrec' hfeed hstate hfree) (by exact hcalm)
  case plan =>
    intro hnew hstate bt weak stopBand asks allow le nv long plan
    have hcall := r.planCall_eq
    refine ⟨fun hlong => ?_, fun hfits hweak hpolicy => ?_, fun hfits hready hidle hstarved hstop => ?_⟩
    · exact event _ _ hnew (State.feedRetracted_asks hrec' hstate (.inl ⟨hcall.trans (if_pos hlong), rfl⟩))
        (by exact hcalm)
    · have hweakCall : r.planCall = (plan, .anchorWeak) :=
        hcall.trans ((if_neg (Nat.not_lt.2 hfits)).trans (if_pos ⟨hweak, hpolicy⟩))
      exact event _ _ hnew (State.feedRetracted_asks hrec' hstate (.inr ⟨hweakCall, rfl⟩)) (by exact hcalm)
    · have hnone : ¬ (weak = true ∧ r.param P.anchorPolicy ≠ 0) := by
        rintro ⟨hw, hpolicy⟩
        exact hready.elim (fun hn => Bool.false_ne_true (hn.symm.trans hw)) hpolicy
      have hreadyCall := hcall.trans ((if_neg (Nat.not_lt.2 hfits)).trans (if_neg hnone))
      exact event _ _ hnew (State.feedRetracted_ready hrec' hstate hreadyCall hidle hstarved hstop)
        (by exact hcalm)
  case down =>
    intro hnew hstate hstarted hlow
    exact event _ _ hnew (State.feedRetracted_releasing hstate hstarted hlow) (by exact hcalm)
  case lowered =>
    intro hnew hstate hstarted
    exact event _ _ hnew (State.jackLowered_eq hstate hstarted)
      (by exact State.closeRecord_calm (s := u) hcalm q.closing q.haltReason)
  case bolt =>
    intro hnew hstate hfree
    exact event _ _ hnew (State.boltPresent_eq hrec' hfeed hstate hfree) (by exact hcalm)
  case injector =>
    intro hnew hwait hqueue hpaused
    exact event _ _ hnew (State.readySync_ejects (b := b) hwait hqueue hpaused (State.active_of_newInputs hnew))
      (by exact hcalm)
  case cartridge =>
    refine fun hnew => ⟨fun hstray => ?_, fun hstate w hqueue hboom n hsel ty hty hlast hinsert hpend hbolt => ?_⟩
    · exact event _ _ hnew (State.cartridgePassed_stray hstray) (by exact hcalm)
    · exact event _ _ hnew (State.cartridgePassed_last hrec' hstate hqueue hboom hsel hty hlast hinsert hpend hbolt)
        (by exact hcalm)
  case flush =>
    intro hnew hstate hflush
    exact event _ _ hnew (State.flushReturned_eq hstate hflush) (by exact hcalm)

end Sys2Proof.Machine
end
